-- ==== Sys2Proof/Word.lean ====
section
/-! DEFINITION. The word types of the two processors (spec/00_scope.md R11, R12, R14). -/

namespace Sys2Proof

/-- An 8-bit value: a Z80 register, a byte of memory. -/
abbrev Byte := BitVec 8

/-- A 16-bit value: an M68K instruction word, a Z80 pair or address. -/
abbrev Word := BitVec 16

/-- A 32-bit value: an M68K register. -/
abbrev Long := BitVec 32

/-- A 24-bit M68K memory address (spec/20_memory.md R122). -/
abbrev Addr24 := BitVec 24

/-- The number field of an M68K register, D0-D7 or A0-A7. -/
abbrev Reg := BitVec 3

end Sys2Proof
end

