-- ==== Sys2Proof/Syntax.lean ====
section
/-! DEFINITION. The instructions of both processors as data: one constructor of `Instr` per row of
spec/opcode_table.json, in the table's order (the rows with operands first), with the operands the encoding carries. -/

namespace Sys2Proof

/-- M68K operation sizes B, W, L (00 R14). -/
inductive Size | b | w | l
  deriving DecidableEq, Repr, Inhabited

/-- The width in bits of a size (00 R14). -/
abbrev Size.bits : Size → Nat
  | .b => 8
  | .w => 16
  | .l => 32

/-- The width in bytes of a size (20 R126). -/
def Size.bytes : Size → Nat
  | .b => 1
  | .w => 2
  | .l => 4

/-- The twelve addressing modes of 30 R186. -/
inductive EaMode
  | dn | an | ind | post | pre | disp | index | absW | absL | pcDisp | pcIndex | imm
  deriving DecidableEq, Repr, Inhabited

/-- An M68K effective-address operand with its extension words (30 R186, 40 R262 to R273). An index mode keeps its
brief extension word whole (30 R188); an immediate keeps the whole extension word for B and W, both words for L (30 R189). -/
inductive Ea
  | dn (n : Reg)
  | an (n : Reg)
  | ind (n : Reg)
  | post (n : Reg)
  | pre (n : Reg)
  | disp (n : Reg) (d : Word)
  | index (n : Reg) (ext : Word)
  | absW (a : Word)
  | absL (a : Long)
  | pcDisp (d : Word)
  | pcIndex (ext : Word)
  | imm (v : Long)
  deriving DecidableEq, Repr, Inhabited

/-- The mode of an operand. -/
def Ea.kind : Ea → EaMode
  | .dn _ => .dn
  | .an _ => .an
  | .ind _ => .ind
  | .post _ => .post
  | .pre _ => .pre
  | .disp _ _ => .disp
  | .index _ _ => .index
  | .absW _ => .absW
  | .absL _ => .absL
  | .pcDisp _ => .pcDisp
  | .pcIndex _ => .pcIndex
  | .imm _ => .imm

/-- The EA categories of 30 R187. -/
inductive EaClass
  | all | data | control | alterable | dataAlterable | memoryAlterable | dataNoImm | movemStore | movemLoad
  deriving DecidableEq, Repr, Inhabited

/-- Which modes a category holds (30 R187). -/
def EaClass.has : EaClass → EaMode → Bool
  | .all, _ => true
  | .data, m => m ≠ .an
  | .control, m => m ∈ [.ind, .disp, .index, .absW, .absL, .pcDisp, .pcIndex]
  | .alterable, m => m ∈ [.dn, .an, .ind, .post, .pre, .disp, .index, .absW, .absL]
  | .dataAlterable, m => m ∈ [.dn, .ind, .post, .pre, .disp, .index, .absW, .absL]
  | .memoryAlterable, m => m ∈ [.ind, .post, .pre, .disp, .index, .absW, .absL]
  | .dataNoImm, m => m ≠ .an && m ≠ .imm
  | .movemStore, m => m ∈ [.ind, .disp, .index, .absW, .absL, .pre]
  | .movemLoad, m => m ∈ [.ind, .disp, .index, .absW, .absL, .pcDisp, .pcIndex, .post]

/-- The sixteen conditions of 41 R309, in the order of their codes. -/
inductive Cond
  | t | f | hi | ls | cc | cs | ne | eq | vc | vs | pl | mi | ge | lt | gt | le
  deriving DecidableEq, Repr, Inhabited

/-- The displacement of BRA, BSR and Bcc (30 R192): in the operation word, or in one extension word. -/
inductive Disp
  | short (d : Byte)
  | word (d : Word)
  deriving DecidableEq, Repr, Inhabited

/-- The count of a register shift (30 R194): the quick field, or a data register. -/
inductive ShiftCount
  | quick (q : BitVec 3)
  | reg (x : Reg)
  deriving DecidableEq, Repr, Inhabited

/-- The Z80 8-bit registers a field of 30 R221 names. -/
inductive ZReg | b | c | d | e | h | l | a
  deriving DecidableEq, Repr, Inhabited

/-- A Z80 8-bit operand field (30 R221): a register, or (HL). -/
inductive ZOp8
  | reg (r : ZReg)
  | hl
  deriving DecidableEq, Repr, Inhabited

/-- The pair field `ss`, `dd` (30 R222). -/
inductive ZPair | bc | de | hl | sp
  deriving DecidableEq, Repr, Inhabited

/-- The pair field `qq` of PUSH and POP (30 R222). -/
inductive ZPairQ | bc | de | hl | af
  deriving DecidableEq, Repr, Inhabited

/-- The pair field `pp` of ADD xx,pp (47 R588). -/
inductive ZPairX | bc | de | xx | sp
  deriving DecidableEq, Repr, Inhabited

/-- The field `p` of LD (BC)/(DE),A and LD A,(BC)/(DE) (30 R222). -/
inductive BcDe | bc | de
  deriving DecidableEq, Repr, Inhabited

/-- The condition field `ccc` (30 R223). -/
inductive ZCond | nz | z | nc | c | po | pe | p | m
  deriving DecidableEq, Repr, Inhabited

/-- The condition field of JR cc,e (30 R223). -/
inductive ZJrCond | nz | z | nc | c
  deriving DecidableEq, Repr, Inhabited

/-- The index register a DD (IX) or FD (IY) prefix selects (30 R229). -/
inductive Idx | ix | iy
  deriving DecidableEq, Repr, Inhabited

/-- The instructions: one constructor per row of spec/opcode_table.json. -/
inductive Instr
  -- M68K rows, with operands
  /-- `ORI to CCR`, R489. -/
  | oriToCcr (imm : Word)
  /-- `ORI to SR`, R492. -/
  | oriToSr (imm : Word)
  /-- `ANDI to CCR`, R490. -/
  | andiToCcr (imm : Word)
  /-- `ANDI to SR`, R493. -/
  | andiToSr (imm : Word)
  /-- `EORI to CCR`, R491. -/
  | eoriToCcr (imm : Word)
  /-- `EORI to SR`, R494. -/
  | eoriToSr (imm : Word)
  /-- `ORI.<sz> #<data>,<ea>`, R424. -/
  | ori (sz : Size) (imm : Long) (ea : Ea)
  /-- `ANDI.<sz> #<data>,<ea>`, R422. -/
  | andi (sz : Size) (imm : Long) (ea : Ea)
  /-- `SUBI.<sz> #<data>,<ea>`, R378. -/
  | subi (sz : Size) (imm : Long) (ea : Ea)
  /-- `ADDI.<sz> #<data>,<ea>`, R373. -/
  | addi (sz : Size) (imm : Long) (ea : Ea)
  /-- `EORI.<sz> #<data>,<ea>`, R426. -/
  | eori (sz : Size) (imm : Long) (ea : Ea)
  /-- `CMPI.<sz> #<data>,<ea>`, R386. -/
  | cmpi (sz : Size) (imm : Long) (ea : Ea)
  /-- `BTST #<n>,<ea>`, R439. -/
  | btstImm (k : Word) (ea : Ea)
  /-- `BCHG #<n>,<ea>`, R440. -/
  | bchgImm (k : Word) (ea : Ea)
  /-- `BCLR #<n>,<ea>`, R441. -/
  | bclrImm (k : Word) (ea : Ea)
  /-- `BSET #<n>,<ea>`, R442. -/
  | bsetImm (k : Word) (ea : Ea)
  /-- `BTST Dn,<ea>`, R439. -/
  | btstReg (n : Reg) (ea : Ea)
  /-- `BCHG Dn,<ea>`, R440. -/
  | bchgReg (n : Reg) (ea : Ea)
  /-- `BCLR Dn,<ea>`, R441. -/
  | bclrReg (n : Reg) (ea : Ea)
  /-- `BSET Dn,<ea>`, R442. -/
  | bsetReg (n : Reg) (ea : Ea)
  /-- `MOVEP.<sz> (d16,Ay),Dx`, R336. -/
  | movepLoad (sz : Size) (x y : Reg) (d : Word)
  /-- `MOVEP.<sz> Dx,(d16,Ay)`, R337. -/
  | movepStore (sz : Size) (x y : Reg) (d : Word)
  /-- `MOVE.B <ea>,<ea>`, R331. -/
  | moveB (src dst : Ea)
  /-- `MOVE.L <ea>,<ea>`, R331. -/
  | moveL (src dst : Ea)
  /-- `MOVE.W <ea>,<ea>`, R331. -/
  | moveW (src dst : Ea)
  /-- `MOVEA.L <ea>,An`, R332. -/
  | moveaL (src : Ea) (n : Reg)
  /-- `MOVEA.W <ea>,An`, R332. -/
  | moveaW (src : Ea) (n : Reg)
  /-- `NEGX.<sz> <ea>`, R382. -/
  | negx (sz : Size) (ea : Ea)
  /-- `MOVE SR,<ea>`, R346. -/
  | moveFromSr (ea : Ea)
  /-- `CHK.W <ea>,Dn`, R394. -/
  | chk (ea : Ea) (n : Reg)
  /-- `LEA <ea>,An`, R338. -/
  | lea (ea : Ea) (n : Reg)
  /-- `CLR.<sz> <ea>`, R383. -/
  | clr (sz : Size) (ea : Ea)
  /-- `NEG.<sz> <ea>`, R381. -/
  | neg (sz : Size) (ea : Ea)
  /-- `MOVE <ea>,CCR`, R344. -/
  | moveToCcr (ea : Ea)
  /-- `NOT.<sz> <ea>`, R427. -/
  | notOp (sz : Size) (ea : Ea)
  /-- `MOVE <ea>,SR`, R345. -/
  | moveToSr (ea : Ea)
  /-- `NBCD <ea>`, R196. -/
  | nbcd (ea : Ea)
  /-- `SWAP Dn`, R341. -/
  | swap (n : Reg)
  /-- `PEA <ea>`, R339. -/
  | pea (ea : Ea)
  /-- `EXT.W Dn`, R393. -/
  | extW (n : Reg)
  /-- `EXT.L Dn`, R393. -/
  | extL (n : Reg)
  /-- `MOVEM.<sz> <list>,<ea>`, R334. -/
  | movemStore (sz : Size) (mask : Word) (ea : Ea)
  /-- `TST.<sz> <ea>`, R388. -/
  | tst (sz : Size) (ea : Ea)
  /-- `TAS <ea>`, R428. -/
  | tas (ea : Ea)
  /-- `ILLEGAL`, R486, and every word that matches no row (30 R184): the word itself is `w`. -/
  | illegal (w : Word)
  /-- `MOVEM.<sz> <ea>,<list>`, R335. -/
  | movemLoad (sz : Size) (mask : Word) (ea : Ea)
  /-- `TRAP #<vector>`, R481. -/
  | trap (v : BitVec 4)
  /-- `LINK An,#<d16>`, R342. -/
  | link (n : Reg) (d : Word)
  /-- `UNLK An`, R343. -/
  | unlk (n : Reg)
  /-- `MOVE An,USP / MOVE USP,An`, R347. -/
  | moveUsp (toAn : Bool) (n : Reg)
  /-- `STOP #<data>`, R485. -/
  | stop (imm : Word)
  /-- `JSR <ea>`, R477. -/
  | jsr (ea : Ea)
  /-- `JMP <ea>`, R476. -/
  | jmp (ea : Ea)
  /-- `ADDQ.<sz> #<q>,<ea>`, R374. -/
  | addq (sz : Size) (q : BitVec 3) (ea : Ea)
  /-- `SUBQ.<sz> #<q>,<ea>`, R379. -/
  | subq (sz : Size) (q : BitVec 3) (ea : Ea)
  /-- `DBcc Dn,<label>`, R474. -/
  | dbcc (cnd : Cond) (n : Reg) (d : Word)
  /-- `Scc <ea>`, R475. -/
  | scc (cnd : Cond) (ea : Ea)
  /-- `BRA <label>`, R472. -/
  | bra (disp : Disp)
  /-- `BSR <label>`, R473. -/
  | bsr (disp : Disp)
  /-- `Bcc <label>`, R471. -/
  | bcc (cnd : Cond) (disp : Disp)
  /-- `MOVEQ #<d8>,Dn`, R333. -/
  | moveq (n : Reg) (d : Byte)
  /-- `DIVU.W <ea>,Dn`, R391. -/
  | divu (ea : Ea) (n : Reg)
  /-- `DIVS.W <ea>,Dn`, R392. -/
  | divs (ea : Ea) (n : Reg)
  /-- `SBCD`, R196. -/
  | sbcd (mem : Bool) (y x : Reg)
  /-- `OR.<sz> <ea>,Dn`, R423. -/
  | orToDn (sz : Size) (ea : Ea) (n : Reg)
  /-- `OR.<sz> Dn,<ea>`, R423. -/
  | orToEa (sz : Size) (n : Reg) (ea : Ea)
  /-- `SUB.<sz> <ea>,Dn`, R376. -/
  | subToDn (sz : Size) (ea : Ea) (n : Reg)
  /-- `SUB.<sz> Dn,<ea>`, R376. -/
  | subToEa (sz : Size) (n : Reg) (ea : Ea)
  /-- `SUBA.<sz> <ea>,An`, R377. -/
  | suba (sz : Size) (ea : Ea) (n : Reg)
  /-- `SUBX.<sz> Dy,Dx / -(Ay),-(Ax)`, R380. -/
  | subx (sz : Size) (mem : Bool) (y x : Reg)
  /-- `ADD.<sz> <ea>,Dn`, R371. -/
  | addToDn (sz : Size) (ea : Ea) (n : Reg)
  /-- `ADD.<sz> Dn,<ea>`, R371. -/
  | addToEa (sz : Size) (n : Reg) (ea : Ea)
  /-- `ADDA.<sz> <ea>,An`, R372. -/
  | adda (sz : Size) (ea : Ea) (n : Reg)
  /-- `ADDX.<sz> Dy,Dx / -(Ay),-(Ax)`, R375. -/
  | addx (sz : Size) (mem : Bool) (y x : Reg)
  /-- `LINE-A (1010)`, R487. -/
  | lineA (w : BitVec 12)
  /-- `CMP.<sz> <ea>,Dn`, R384. -/
  | cmp (sz : Size) (ea : Ea) (n : Reg)
  /-- `CMPA.<sz> <ea>,An`, R385. -/
  | cmpa (sz : Size) (ea : Ea) (n : Reg)
  /-- `EOR.<sz> Dn,<ea>`, R425. -/
  | eor (sz : Size) (n : Reg) (ea : Ea)
  /-- `CMPM.<sz> (Ay)+,(Ax)+`, R387. -/
  | cmpm (sz : Size) (y x : Reg)
  /-- `MULU.W <ea>,Dn`, R389. -/
  | mulu (ea : Ea) (n : Reg)
  /-- `MULS.W <ea>,Dn`, R390. -/
  | muls (ea : Ea) (n : Reg)
  /-- `ABCD`, R196. -/
  | abcd (mem : Bool) (y x : Reg)
  /-- `EXG Dx,Dy`, R340. -/
  | exgDD (x y : Reg)
  /-- `EXG Ax,Ay`, R340. -/
  | exgAA (x y : Reg)
  /-- `EXG Dx,Ay`, R340. -/
  | exgDA (x y : Reg)
  /-- `AND.<sz> <ea>,Dn`, R421. -/
  | andToDn (sz : Size) (ea : Ea) (n : Reg)
  /-- `AND.<sz> Dn,<ea>`, R421. -/
  | andToEa (sz : Size) (n : Reg) (ea : Ea)
  /-- `ASR.<sz> #<q>,Dy / Dx,Dy`, R431. -/
  | asrReg (sz : Size) (c : ShiftCount) (y : Reg)
  /-- `ASL.<sz> #<q>,Dy / Dx,Dy`, R430. -/
  | aslReg (sz : Size) (c : ShiftCount) (y : Reg)
  /-- `LSR.<sz> #<q>,Dy / Dx,Dy`, R433. -/
  | lsrReg (sz : Size) (c : ShiftCount) (y : Reg)
  /-- `LSL.<sz> #<q>,Dy / Dx,Dy`, R432. -/
  | lslReg (sz : Size) (c : ShiftCount) (y : Reg)
  /-- `ROXR.<sz> #<q>,Dy / Dx,Dy`, R437. -/
  | roxrReg (sz : Size) (c : ShiftCount) (y : Reg)
  /-- `ROXL.<sz> #<q>,Dy / Dx,Dy`, R436. -/
  | roxlReg (sz : Size) (c : ShiftCount) (y : Reg)
  /-- `ROR.<sz> #<q>,Dy / Dx,Dy`, R435. -/
  | rorReg (sz : Size) (c : ShiftCount) (y : Reg)
  /-- `ROL.<sz> #<q>,Dy / Dx,Dy`, R434. -/
  | rolReg (sz : Size) (c : ShiftCount) (y : Reg)
  /-- `ASR.W <ea>`, R431. -/
  | asrMem (ea : Ea)
  /-- `ASL.W <ea>`, R430. -/
  | aslMem (ea : Ea)
  /-- `LSR.W <ea>`, R433. -/
  | lsrMem (ea : Ea)
  /-- `LSL.W <ea>`, R432. -/
  | lslMem (ea : Ea)
  /-- `ROXR.W <ea>`, R437. -/
  | roxrMem (ea : Ea)
  /-- `ROXL.W <ea>`, R436. -/
  | roxlMem (ea : Ea)
  /-- `ROR.W <ea>`, R435. -/
  | rorMem (ea : Ea)
  /-- `ROL.W <ea>`, R434. -/
  | rolMem (ea : Ea)
  /-- `LINE-F (1111)`, R488. -/
  | lineF (w : BitVec 12)
  -- Z80 rows, page base, with operands
  /-- `LD dd,nn`, R538. -/
  | zLdPairImm (p : ZPair) (nn : Word)
  /-- `LD (BC)/(DE),A`, R528. -/
  | zLdIndA (p : BcDe)
  /-- `LD A,(BC)/(DE)`, R526. -/
  | zLdAInd (p : BcDe)
  /-- `INC ss`, R589. -/
  | zIncPair (p : ZPair)
  /-- `DEC ss`, R590. -/
  | zDecPair (p : ZPair)
  /-- `INC r / INC (HL)`, R579. -/
  | zIncR (o : ZOp8)
  /-- `DEC r / DEC (HL)`, R580. -/
  | zDecR (o : ZOp8)
  /-- `LD r,n`, R522. -/
  | zLdRImm (r : ZReg) (n : Byte)
  /-- `LD (HL),n`, R525. -/
  | zLdHlImm (n : Byte)
  /-- `ADD HL,ss`, R585. -/
  | zAddHl (p : ZPair)
  /-- `DJNZ e`, R636. -/
  | zDjnz (e : Byte)
  /-- `JR e`, R633. -/
  | zJr (e : Byte)
  /-- `JR cc,e`, R634. -/
  | zJrCc (cnd : ZJrCond) (e : Byte)
  /-- `LD (nn),HL`, R541. -/
  | zLdNnHl (nn : Word)
  /-- `LD HL,(nn)`, R539. -/
  | zLdHlNn (nn : Word)
  /-- `LD (nn),A`, R529. -/
  | zLdNnA (nn : Word)
  /-- `LD A,(nn)`, R527. -/
  | zLdANn (nn : Word)
  /-- `LD r,r'`, R521. -/
  | zLdRR (dst src : ZReg)
  /-- `LD r,(HL)`, R523. -/
  | zLdRHl (r : ZReg)
  /-- `LD (HL),r`, R524. -/
  | zLdHlR (r : ZReg)
  /-- `ADD A,r / ADD A,(HL)`, R571. -/
  | zAddR (o : ZOp8)
  /-- `ADC A,r / ADC A,(HL)`, R572. -/
  | zAdcR (o : ZOp8)
  /-- `SUB r / SUB (HL)`, R573. -/
  | zSubR (o : ZOp8)
  /-- `SBC A,r / SBC A,(HL)`, R574. -/
  | zSbcR (o : ZOp8)
  /-- `AND r / AND (HL)`, R575. -/
  | zAndR (o : ZOp8)
  /-- `XOR r / XOR (HL)`, R577. -/
  | zXorR (o : ZOp8)
  /-- `OR r / OR (HL)`, R576. -/
  | zOrR (o : ZOp8)
  /-- `CP r / CP (HL)`, R578. -/
  | zCpR (o : ZOp8)
  /-- `ADD A,n`, R571. -/
  | zAddN (n : Byte)
  /-- `ADC A,n`, R572. -/
  | zAdcN (n : Byte)
  /-- `SUB n`, R573. -/
  | zSubN (n : Byte)
  /-- `SBC A,n`, R574. -/
  | zSbcN (n : Byte)
  /-- `AND n`, R575. -/
  | zAndN (n : Byte)
  /-- `XOR n`, R577. -/
  | zXorN (n : Byte)
  /-- `OR n`, R576. -/
  | zOrN (n : Byte)
  /-- `CP n`, R578. -/
  | zCpN (n : Byte)
  /-- `RET cc`, R640. -/
  | zRetCc (cnd : ZCond)
  /-- `POP qq`, R545. -/
  | zPop (q : ZPairQ)
  /-- `JP cc,nn`, R632. -/
  | zJpCc (cnd : ZCond) (nn : Word)
  /-- `JP nn`, R631. -/
  | zJp (nn : Word)
  /-- `CALL cc,nn`, R638. -/
  | zCallCc (cnd : ZCond) (nn : Word)
  /-- `PUSH qq`, R544. -/
  | zPush (q : ZPairQ)
  /-- `RST p`, R643. -/
  | zRst (t : BitVec 3)
  /-- The prefix CB before a byte that no row of page CB matches (30 R227, R236). -/
  | zCbPrefix (op : Byte)
  /-- `CALL nn`, R637. -/
  | zCall (nn : Word)
  /-- `OUT (n),A`, R650. -/
  | zOutNA (n : Byte)
  /-- `IN A,(n)`, R644. -/
  | zInAN (n : Byte)
  /-- The prefix DD before a byte that no row of page DD/FD matches (30 R226, R229, R236). -/
  | zDdPrefix (op : Byte)
  /-- The prefix ED before a byte that no row of page ED matches (30 R228, R236). -/
  | zEdPrefix (op : Byte)
  /-- The prefix FD before a byte that no row of page DD/FD matches (30 R226, R229, R236). -/
  | zFdPrefix (op : Byte)
  -- Z80 rows, page CB, with operands
  /-- `RLC r / RLC (HL)`, R595. -/
  | zRlc (o : ZOp8)
  /-- `RRC r / RRC (HL)`, R597. -/
  | zRrc (o : ZOp8)
  /-- `RL r / RL (HL)`, R596. -/
  | zRl (o : ZOp8)
  /-- `RR r / RR (HL)`, R598. -/
  | zRr (o : ZOp8)
  /-- `SLA r / SLA (HL)`, R599. -/
  | zSla (o : ZOp8)
  /-- `SRA r / SRA (HL)`, R600. -/
  | zSra (o : ZOp8)
  /-- `SRL r / SRL (HL)`, R601. -/
  | zSrl (o : ZOp8)
  /-- `BIT b,r / BIT b,(HL)`, R604. -/
  | zBit (b : BitVec 3) (o : ZOp8)
  /-- `RES b,r / RES b,(HL)`, R606. -/
  | zRes (b : BitVec 3) (o : ZOp8)
  /-- `SET b,r / SET b,(HL)`, R605. -/
  | zSet (b : BitVec 3) (o : ZOp8)
  -- Z80 rows, page ED, with operands
  /-- `IN r,(C)`, R645. -/
  | zInRC (r : ZReg)
  /-- `OUT (C),r`, R651. -/
  | zOutCR (r : ZReg)
  /-- `SBC HL,ss`, R587. -/
  | zSbcHl (p : ZPair)
  /-- `ADC HL,ss`, R586. -/
  | zAdcHl (p : ZPair)
  /-- `LD (nn),dd`, R542. -/
  | zLdNnPair (p : ZPair) (nn : Word)
  /-- `LD dd,(nn)`, R540. -/
  | zLdPairNn (p : ZPair) (nn : Word)
  -- Z80 rows, page DD/FD, with operands
  /-- `ADD xx,pp (pp: BC, DE, xx, SP)`, R588. -/
  | zAddXx (x : Idx) (p : ZPairX)
  /-- `LD xx,nn`, R538. -/
  | zLdXxImm (x : Idx) (nn : Word)
  /-- `LD (nn),xx`, R541. -/
  | zLdNnXx (x : Idx) (nn : Word)
  /-- `INC xx`, R589. -/
  | zIncXx (x : Idx)
  /-- `LD xx,(nn)`, R539. -/
  | zLdXxNn (x : Idx) (nn : Word)
  /-- `DEC xx`, R590. -/
  | zDecXx (x : Idx)
  /-- `INC (xx+d)`, R579. -/
  | zIncXd (x : Idx) (d : Byte)
  /-- `DEC (xx+d)`, R580. -/
  | zDecXd (x : Idx) (d : Byte)
  /-- `LD (xx+d),n`, R525. -/
  | zLdXdImm (x : Idx) (d n : Byte)
  /-- `LD r,(xx+d)`, R523. -/
  | zLdRXd (x : Idx) (r : ZReg) (d : Byte)
  /-- `LD (xx+d),r`, R524. -/
  | zLdXdR (x : Idx) (r : ZReg) (d : Byte)
  /-- `ADD A,(xx+d)`, R571. -/
  | zAddXd (x : Idx) (d : Byte)
  /-- `ADC A,(xx+d)`, R572. -/
  | zAdcXd (x : Idx) (d : Byte)
  /-- `SUB (xx+d)`, R573. -/
  | zSubXd (x : Idx) (d : Byte)
  /-- `SBC A,(xx+d)`, R574. -/
  | zSbcXd (x : Idx) (d : Byte)
  /-- `AND (xx+d)`, R575. -/
  | zAndXd (x : Idx) (d : Byte)
  /-- `XOR (xx+d)`, R577. -/
  | zXorXd (x : Idx) (d : Byte)
  /-- `OR (xx+d)`, R576. -/
  | zOrXd (x : Idx) (d : Byte)
  /-- `CP (xx+d)`, R578. -/
  | zCpXd (x : Idx) (d : Byte)
  /-- `POP xx`, R545. -/
  | zPopXx (x : Idx)
  /-- `EX (SP),xx`, R533. -/
  | zExSpXx (x : Idx)
  /-- `PUSH xx`, R544. -/
  | zPushXx (x : Idx)
  /-- `JP (xx)`, R635. -/
  | zJpXx (x : Idx)
  /-- `LD SP,xx`, R543. -/
  | zLdSpXx (x : Idx)
  /-- DD CB d or FD CB d before a byte that no row of page DDCB/FDCB matches (30 R231, R236). -/
  | zDdcbPrefix (x : Idx) (d op : Byte)
  -- Z80 rows, page DDCB/FDCB, with operands
  /-- `RLC (xx+d)`, R595. -/
  | zRlcXd (x : Idx) (d : Byte)
  /-- `RRC (xx+d)`, R597. -/
  | zRrcXd (x : Idx) (d : Byte)
  /-- `RL (xx+d)`, R596. -/
  | zRlXd (x : Idx) (d : Byte)
  /-- `RR (xx+d)`, R598. -/
  | zRrXd (x : Idx) (d : Byte)
  /-- `SLA (xx+d)`, R599. -/
  | zSlaXd (x : Idx) (d : Byte)
  /-- `SRA (xx+d)`, R600. -/
  | zSraXd (x : Idx) (d : Byte)
  /-- `SRL (xx+d)`, R601. -/
  | zSrlXd (x : Idx) (d : Byte)
  /-- `BIT b,(xx+d)`, R604. -/
  | zBitXd (x : Idx) (d : Byte) (b : BitVec 3)
  /-- `RES b,(xx+d)`, R606. -/
  | zResXd (x : Idx) (d : Byte) (b : BitVec 3)
  /-- `SET b,(xx+d)`, R605. -/
  | zSetXd (x : Idx) (d : Byte) (b : BitVec 3)
  -- M68K rows, without operands
  /-- `RESET`, R484. -/
  | reset
  /-- `NOP`, R483. -/
  | nop
  /-- `RTE`, R480. -/
  | rte
  /-- `RTS`, R478. -/
  | rts
  /-- `TRAPV`, R482. -/
  | trapv
  /-- `RTR`, R479. -/
  | rtr
  -- Z80 rows, page base, without operands
  /-- `NOP`, R656. -/
  | zNop
  /-- `RLCA`, R591. -/
  | zRlca
  /-- `EX AF,AF'`, R531. -/
  | zExAf
  /-- `RRCA`, R593. -/
  | zRrca
  /-- `RLA`, R592. -/
  | zRla
  /-- `RRA`, R594. -/
  | zRra
  /-- `DAA`, R196. -/
  | zDaa
  /-- `CPL`, R581. -/
  | zCpl
  /-- `SCF`, R584. -/
  | zScf
  /-- `CCF`, R583. -/
  | zCcf
  /-- `HALT`, R657. -/
  | zHalt
  /-- `RET`, R639. -/
  | zRet
  /-- `EXX`, R532. -/
  | zExx
  /-- `EX (SP),HL`, R533. -/
  | zExSpHl
  /-- `JP (HL)`, R635. -/
  | zJpHl
  /-- `EX DE,HL`, R530. -/
  | zExDeHl
  /-- `DI`, R658. -/
  | zDi
  /-- `LD SP,HL`, R543. -/
  | zLdSpHl
  /-- `EI`, R659. -/
  | zEi
  -- Z80 rows, page ED, without operands
  /-- `NEG`, R582. -/
  | zNeg
  /-- `RETN`, R642. -/
  | zRetn
  /-- `RETI`, R641. -/
  | zReti
  /-- `IM 0`, R660. -/
  | zIm0
  /-- `IM 1`, R661. -/
  | zIm1
  /-- `IM 2`, R662. -/
  | zIm2
  /-- `LD I,A`, R536. -/
  | zLdIA
  /-- `LD R,A`, R537. -/
  | zLdRfA
  /-- `LD A,I`, R534. -/
  | zLdAI
  /-- `LD A,R`, R535. -/
  | zLdARf
  /-- `RRD`, R603. -/
  | zRrd
  /-- `RLD`, R602. -/
  | zRld
  /-- `LDI`, R546. -/
  | zLdi
  /-- `CPI`, R550. -/
  | zCpi
  /-- `INI`, R646. -/
  | zIni
  /-- `OUTI`, R652. -/
  | zOuti
  /-- `LDD`, R548. -/
  | zLdd
  /-- `CPD`, R552. -/
  | zCpd
  /-- `IND`, R648. -/
  | zInd
  /-- `OUTD`, R654. -/
  | zOutd
  /-- `LDIR`, R547. -/
  | zLdir
  /-- `CPIR`, R551. -/
  | zCpir
  /-- `INIR`, R647. -/
  | zInir
  /-- `OTIR`, R653. -/
  | zOtir
  /-- `LDDR`, R549. -/
  | zLddr
  /-- `CPDR`, R553. -/
  | zCpdr
  /-- `INDR`, R649. -/
  | zIndr
  /-- `OTDR`, R655. -/
  | zOtdr
  deriving DecidableEq, Repr, Inhabited

end Sys2Proof
end

