-- ==== Sys2Proof/Machine/OpTable.lean ====
section
/-! DEFINITION. The opcode tables of both processors as data: spec/opcode_table.json's masks, matches and predicates
(30 R180 to R184, R195, R225 to R231). Bit fields of an operation word stand here too. -/

namespace Sys2Proof

/-- One operation tag per row of the M68K table; `illegal` also stands for no row (30 R180, R184). -/
inductive Tag68k
  | oriToCcr | oriToSr | andiToCcr | andiToSr | eoriToCcr | eoriToSr | ori | andi
  | subi | addi | eori | cmpi | btstImm | bchgImm | bclrImm | bsetImm
  | btstReg | bchgReg | bclrReg | bsetReg | movepLoad | movepStore | moveB | moveL
  | moveW | moveaL | moveaW | negx | moveFromSr | chk | lea | clr
  | neg | moveToCcr | notOp | moveToSr | nbcd | swap | pea | extW
  | extL | movemStore | tst | tas | illegal | movemLoad | trap | link
  | unlk | moveUsp | reset | nop | stop | rte | rts | trapv
  | rtr | jsr | jmp | addq | subq | dbcc | scc | bra
  | bsr | bcc | moveq | divu | divs | sbcd | orToDn | orToEa
  | subToDn | subToEa | suba | subx | addToDn | addToEa | adda | addx
  | lineA | cmp | cmpa | eor | cmpm | mulu | muls | abcd
  | exgDD | exgAA | exgDA | andToDn | andToEa | asrReg | aslReg | lsrReg
  | lslReg | roxrReg | roxlReg | rorReg | rolReg | asrMem | aslMem | lsrMem
  | lslMem | roxrMem | roxlMem | rorMem | rolMem | lineF
  deriving DecidableEq, Repr, Inhabited

/-- When a row's source EA may not be An (30 R181 (c)). -/
inductive AnRule | never | whenByte | always
  deriving DecidableEq, Repr, Inhabited

/-- A row of the M68K table: a mask, the fixed bits, and the predicate of 30 R181. -/
structure Row68k where
  mask : Word
  match_ : Word
  /-- the row has the standard size field, bits 7:6, which may not be 11 -/
  sized : Bool := false
  /-- the category of the EA in bits 5:0 -/
  ea : Option EaClass := none
  /-- the category of MOVE's destination, register in bits 11:9 and mode in bits 8:6 -/
  dst : Option EaClass := none
  anExcluded : AnRule := .never
  /-- Bcc: the condition field is at least 2 -/
  condField : Bool := false
  tag : Tag68k
  deriving DecidableEq, Repr, Inhabited

/-- Bits 11:9 of an operation word. -/
def fieldReg9 (w : Word) : Reg := w.extractLsb' 9 3

/-- Bits 8:6 of an operation word. -/
def fieldMode6 (w : Word) : BitVec 3 := w.extractLsb' 6 3

/-- Bits 5:3 of an operation word. -/
def fieldMode3 (w : Word) : BitVec 3 := w.extractLsb' 3 3

/-- Bits 2:0 of an operation word. -/
def fieldReg0 (w : Word) : Reg := w.extractLsb' 0 3

/-- Bits 7:6 of an operation word, the standard size field (30 R190). -/
def fieldSize (w : Word) : BitVec 2 := w.extractLsb' 6 2

/-- Bits 11:8 of an operation word, the condition field (30 R191). -/
def fieldCond (w : Word) : BitVec 4 := w.extractLsb' 8 4

/-- The mode a 6-bit EA field names (30 R186); none for mode 111 with register 101, 110 or 111. -/
def eaModeOf (mode reg : BitVec 3) : Option EaMode :=
  match mode.toNat, reg.toNat with
  | 0, _ => some .dn
  | 1, _ => some .an
  | 2, _ => some .ind
  | 3, _ => some .post
  | 4, _ => some .pre
  | 5, _ => some .disp
  | 6, _ => some .index
  | _, 0 => some .absW
  | _, 1 => some .absL
  | _, 2 => some .pcDisp
  | _, 3 => some .pcIndex
  | _, 4 => some .imm
  | _, _ => none

/-- The EA field names a mode of the category; a row with no EA field asks nothing (30 R181 (b)). -/
def eaAdmitted (c : Option EaClass) (mode reg : BitVec 3) : Bool :=
  match c, eaModeOf mode reg with
  | none, _ => true
  | some _, none => false
  | some k, some m => k.has m

/-- An is not the source of a byte operation (30 R181 (c)). -/
def anAdmitted (r : AnRule) (w : Word) : Bool :=
  match r with
  | .never => true
  | .always => fieldMode3 w ≠ 1#3
  | .whenByte => fieldMode3 w ≠ 1#3 || fieldSize w ≠ 0#2

/-- A word matches a row: `(w & mask) == match` and the row's predicate (30 R180, R181). -/
def Row68k.covers (r : Row68k) (w : Word) : Bool :=
  (w &&& r.mask) == r.match_
    && (!r.sized || fieldSize w ≠ 3#2)
    && eaAdmitted r.ea (fieldMode3 w) (fieldReg0 w)
    && eaAdmitted r.dst (fieldMode6 w) (fieldReg9 w)
    && anAdmitted r.anExcluded w
    && (!r.condField || 2#4 ≤ fieldCond w)

/-- Line 0: immediate and bit operations, MOVEP (30 R195). -/
def line0 : List Row68k := [
  { mask := 0xFFFF#16, match_ := 0x003C#16, tag := .oriToCcr },
  { mask := 0xFFFF#16, match_ := 0x007C#16, tag := .oriToSr },
  { mask := 0xFFFF#16, match_ := 0x023C#16, tag := .andiToCcr },
  { mask := 0xFFFF#16, match_ := 0x027C#16, tag := .andiToSr },
  { mask := 0xFFFF#16, match_ := 0x0A3C#16, tag := .eoriToCcr },
  { mask := 0xFFFF#16, match_ := 0x0A7C#16, tag := .eoriToSr },
  { mask := 0xFF00#16, match_ := 0x0000#16, tag := .ori, sized := true, ea := some .dataAlterable },
  { mask := 0xFF00#16, match_ := 0x0200#16, tag := .andi, sized := true, ea := some .dataAlterable },
  { mask := 0xFF00#16, match_ := 0x0400#16, tag := .subi, sized := true, ea := some .dataAlterable },
  { mask := 0xFF00#16, match_ := 0x0600#16, tag := .addi, sized := true, ea := some .dataAlterable },
  { mask := 0xFF00#16, match_ := 0x0A00#16, tag := .eori, sized := true, ea := some .dataAlterable },
  { mask := 0xFF00#16, match_ := 0x0C00#16, tag := .cmpi, sized := true, ea := some .dataAlterable },
  { mask := 0xFFC0#16, match_ := 0x0800#16, tag := .btstImm, ea := some .dataNoImm },
  { mask := 0xFFC0#16, match_ := 0x0840#16, tag := .bchgImm, ea := some .dataAlterable },
  { mask := 0xFFC0#16, match_ := 0x0880#16, tag := .bclrImm, ea := some .dataAlterable },
  { mask := 0xFFC0#16, match_ := 0x08C0#16, tag := .bsetImm, ea := some .dataAlterable },
  { mask := 0xF1C0#16, match_ := 0x0100#16, tag := .btstReg, ea := some .data },
  { mask := 0xF1C0#16, match_ := 0x0140#16, tag := .bchgReg, ea := some .dataAlterable },
  { mask := 0xF1C0#16, match_ := 0x0180#16, tag := .bclrReg, ea := some .dataAlterable },
  { mask := 0xF1C0#16, match_ := 0x01C0#16, tag := .bsetReg, ea := some .dataAlterable },
  { mask := 0xF1B8#16, match_ := 0x0108#16, tag := .movepLoad },
  { mask := 0xF1B8#16, match_ := 0x0188#16, tag := .movepStore }]

/-- Line 1: MOVE.B (30 R195). -/
def line1 : List Row68k := [
  { mask := 0xF000#16, match_ := 0x1000#16, tag := .moveB, ea := some .all, dst := some .dataAlterable, anExcluded := .always }]

/-- Line 2: MOVE.L, MOVEA.L (30 R195). -/
def line2 : List Row68k := [
  { mask := 0xF000#16, match_ := 0x2000#16, tag := .moveL, ea := some .all, dst := some .dataAlterable },
  { mask := 0xF1C0#16, match_ := 0x2040#16, tag := .moveaL, ea := some .all }]

/-- Line 3: MOVE.W, MOVEA.W (30 R195). -/
def line3 : List Row68k := [
  { mask := 0xF000#16, match_ := 0x3000#16, tag := .moveW, ea := some .all, dst := some .dataAlterable },
  { mask := 0xF1C0#16, match_ := 0x3040#16, tag := .moveaW, ea := some .all }]

/-- Line 4: miscellaneous (30 R195). -/
def line4 : List Row68k := [
  { mask := 0xFF00#16, match_ := 0x4000#16, tag := .negx, sized := true, ea := some .dataAlterable },
  { mask := 0xFFC0#16, match_ := 0x40C0#16, tag := .moveFromSr, ea := some .dataAlterable },
  { mask := 0xF1C0#16, match_ := 0x4180#16, tag := .chk, ea := some .data },
  { mask := 0xF1C0#16, match_ := 0x41C0#16, tag := .lea, ea := some .control },
  { mask := 0xFF00#16, match_ := 0x4200#16, tag := .clr, sized := true, ea := some .dataAlterable },
  { mask := 0xFF00#16, match_ := 0x4400#16, tag := .neg, sized := true, ea := some .dataAlterable },
  { mask := 0xFFC0#16, match_ := 0x44C0#16, tag := .moveToCcr, ea := some .data },
  { mask := 0xFF00#16, match_ := 0x4600#16, tag := .notOp, sized := true, ea := some .dataAlterable },
  { mask := 0xFFC0#16, match_ := 0x46C0#16, tag := .moveToSr, ea := some .data },
  { mask := 0xFFC0#16, match_ := 0x4800#16, tag := .nbcd, ea := some .dataAlterable },
  { mask := 0xFFF8#16, match_ := 0x4840#16, tag := .swap },
  { mask := 0xFFC0#16, match_ := 0x4840#16, tag := .pea, ea := some .control },
  { mask := 0xFFF8#16, match_ := 0x4880#16, tag := .extW },
  { mask := 0xFFF8#16, match_ := 0x48C0#16, tag := .extL },
  { mask := 0xFF80#16, match_ := 0x4880#16, tag := .movemStore, ea := some .movemStore },
  { mask := 0xFF00#16, match_ := 0x4A00#16, tag := .tst, sized := true, ea := some .dataAlterable },
  { mask := 0xFFC0#16, match_ := 0x4AC0#16, tag := .tas, ea := some .dataAlterable },
  { mask := 0xFFFF#16, match_ := 0x4AFC#16, tag := .illegal },
  { mask := 0xFF80#16, match_ := 0x4C80#16, tag := .movemLoad, ea := some .movemLoad },
  { mask := 0xFFF0#16, match_ := 0x4E40#16, tag := .trap },
  { mask := 0xFFF8#16, match_ := 0x4E50#16, tag := .link },
  { mask := 0xFFF8#16, match_ := 0x4E58#16, tag := .unlk },
  { mask := 0xFFF0#16, match_ := 0x4E60#16, tag := .moveUsp },
  { mask := 0xFFFF#16, match_ := 0x4E70#16, tag := .reset },
  { mask := 0xFFFF#16, match_ := 0x4E71#16, tag := .nop },
  { mask := 0xFFFF#16, match_ := 0x4E72#16, tag := .stop },
  { mask := 0xFFFF#16, match_ := 0x4E73#16, tag := .rte },
  { mask := 0xFFFF#16, match_ := 0x4E75#16, tag := .rts },
  { mask := 0xFFFF#16, match_ := 0x4E76#16, tag := .trapv },
  { mask := 0xFFFF#16, match_ := 0x4E77#16, tag := .rtr },
  { mask := 0xFFC0#16, match_ := 0x4E80#16, tag := .jsr, ea := some .control },
  { mask := 0xFFC0#16, match_ := 0x4EC0#16, tag := .jmp, ea := some .control }]

/-- Line 5: ADDQ, SUBQ, Scc, DBcc (30 R195). -/
def line5 : List Row68k := [
  { mask := 0xF100#16, match_ := 0x5000#16, tag := .addq, sized := true, ea := some .alterable, anExcluded := .whenByte },
  { mask := 0xF100#16, match_ := 0x5100#16, tag := .subq, sized := true, ea := some .alterable, anExcluded := .whenByte },
  { mask := 0xF0F8#16, match_ := 0x50C8#16, tag := .dbcc },
  { mask := 0xF0C0#16, match_ := 0x50C0#16, tag := .scc, ea := some .dataAlterable }]

/-- Line 6: BRA, BSR, Bcc (30 R195). -/
def line6 : List Row68k := [
  { mask := 0xFF00#16, match_ := 0x6000#16, tag := .bra },
  { mask := 0xFF00#16, match_ := 0x6100#16, tag := .bsr },
  { mask := 0xF000#16, match_ := 0x6000#16, tag := .bcc, condField := true }]

/-- Line 7: MOVEQ (30 R195). -/
def line7 : List Row68k := [
  { mask := 0xF100#16, match_ := 0x7000#16, tag := .moveq }]

/-- Line 8: OR, DIVU, DIVS, SBCD (30 R195). -/
def line8 : List Row68k := [
  { mask := 0xF1C0#16, match_ := 0x80C0#16, tag := .divu, ea := some .data },
  { mask := 0xF1C0#16, match_ := 0x81C0#16, tag := .divs, ea := some .data },
  { mask := 0xF1F0#16, match_ := 0x8100#16, tag := .sbcd },
  { mask := 0xF100#16, match_ := 0x8000#16, tag := .orToDn, sized := true, ea := some .data },
  { mask := 0xF100#16, match_ := 0x8100#16, tag := .orToEa, sized := true, ea := some .memoryAlterable }]

/-- Line 9: SUB, SUBA, SUBX (30 R195). -/
def line9 : List Row68k := [
  { mask := 0xF100#16, match_ := 0x9000#16, tag := .subToDn, sized := true, ea := some .all, anExcluded := .whenByte },
  { mask := 0xF100#16, match_ := 0x9100#16, tag := .subToEa, sized := true, ea := some .memoryAlterable },
  { mask := 0xF0C0#16, match_ := 0x90C0#16, tag := .suba, ea := some .all },
  { mask := 0xF130#16, match_ := 0x9100#16, tag := .subx, sized := true }]

/-- Line A: line A (30 R195). -/
def lineA : List Row68k := [
  { mask := 0xF000#16, match_ := 0xA000#16, tag := .lineA }]

/-- Line B: CMP, CMPA, CMPM, EOR (30 R195). -/
def lineB : List Row68k := [
  { mask := 0xF100#16, match_ := 0xB000#16, tag := .cmp, sized := true, ea := some .all, anExcluded := .whenByte },
  { mask := 0xF0C0#16, match_ := 0xB0C0#16, tag := .cmpa, ea := some .all },
  { mask := 0xF100#16, match_ := 0xB100#16, tag := .eor, sized := true, ea := some .dataAlterable },
  { mask := 0xF138#16, match_ := 0xB108#16, tag := .cmpm, sized := true }]

/-- Line C: AND, MULU, MULS, ABCD, EXG (30 R195). -/
def lineC : List Row68k := [
  { mask := 0xF1C0#16, match_ := 0xC0C0#16, tag := .mulu, ea := some .data },
  { mask := 0xF1C0#16, match_ := 0xC1C0#16, tag := .muls, ea := some .data },
  { mask := 0xF1F0#16, match_ := 0xC100#16, tag := .abcd },
  { mask := 0xF1F8#16, match_ := 0xC140#16, tag := .exgDD },
  { mask := 0xF1F8#16, match_ := 0xC148#16, tag := .exgAA },
  { mask := 0xF1F8#16, match_ := 0xC188#16, tag := .exgDA },
  { mask := 0xF100#16, match_ := 0xC000#16, tag := .andToDn, sized := true, ea := some .data },
  { mask := 0xF100#16, match_ := 0xC100#16, tag := .andToEa, sized := true, ea := some .memoryAlterable }]

/-- Line D: ADD, ADDA, ADDX (30 R195). -/
def lineD : List Row68k := [
  { mask := 0xF100#16, match_ := 0xD000#16, tag := .addToDn, sized := true, ea := some .all, anExcluded := .whenByte },
  { mask := 0xF100#16, match_ := 0xD100#16, tag := .addToEa, sized := true, ea := some .memoryAlterable },
  { mask := 0xF0C0#16, match_ := 0xD0C0#16, tag := .adda, ea := some .all },
  { mask := 0xF130#16, match_ := 0xD100#16, tag := .addx, sized := true }]

/-- Line E: shifts and rotates (30 R195). -/
def lineE : List Row68k := [
  { mask := 0xF118#16, match_ := 0xE000#16, tag := .asrReg, sized := true },
  { mask := 0xF118#16, match_ := 0xE100#16, tag := .aslReg, sized := true },
  { mask := 0xF118#16, match_ := 0xE008#16, tag := .lsrReg, sized := true },
  { mask := 0xF118#16, match_ := 0xE108#16, tag := .lslReg, sized := true },
  { mask := 0xF118#16, match_ := 0xE010#16, tag := .roxrReg, sized := true },
  { mask := 0xF118#16, match_ := 0xE110#16, tag := .roxlReg, sized := true },
  { mask := 0xF118#16, match_ := 0xE018#16, tag := .rorReg, sized := true },
  { mask := 0xF118#16, match_ := 0xE118#16, tag := .rolReg, sized := true },
  { mask := 0xFFC0#16, match_ := 0xE0C0#16, tag := .asrMem, ea := some .memoryAlterable },
  { mask := 0xFFC0#16, match_ := 0xE1C0#16, tag := .aslMem, ea := some .memoryAlterable },
  { mask := 0xFFC0#16, match_ := 0xE2C0#16, tag := .lsrMem, ea := some .memoryAlterable },
  { mask := 0xFFC0#16, match_ := 0xE3C0#16, tag := .lslMem, ea := some .memoryAlterable },
  { mask := 0xFFC0#16, match_ := 0xE4C0#16, tag := .roxrMem, ea := some .memoryAlterable },
  { mask := 0xFFC0#16, match_ := 0xE5C0#16, tag := .roxlMem, ea := some .memoryAlterable },
  { mask := 0xFFC0#16, match_ := 0xE6C0#16, tag := .rorMem, ea := some .memoryAlterable },
  { mask := 0xFFC0#16, match_ := 0xE7C0#16, tag := .rolMem, ea := some .memoryAlterable }]

/-- Line F: line F (30 R195). -/
def lineF : List Row68k := [
  { mask := 0xF000#16, match_ := 0xF000#16, tag := .lineF }]

/-- The rows of the line that bits 15:12 select (30 R195). -/
def line68k (w : Word) : List Row68k :=
  match (w.extractLsb' 12 4).toNat with
  | 0 => line0 | 1 => line1 | 2 => line2 | 3 => line3 | 4 => line4 | 5 => line5 | 6 => line6 | 7 => line7
  | 8 => line8 | 9 => line9 | 10 => lineA | 11 => lineB | 12 => lineC | 13 => lineD | 14 => lineE | _ => lineF

/-- The operation tag of a word: the first row that covers it, else illegal (30 R180). -/
def tag68k (w : Word) : Tag68k :=
  ((line68k w).find? (·.covers w)).elim .illegal (·.tag)

/-- A word that matches no row (30 R184). -/
def noRow68k (w : Word) : Bool := !(line68k w).any (·.covers w)

/-- One tag per row of the Z80 pages. -/
inductive TagZ80
  | zNop | zLdPairImm | zLdIndA | zLdAInd | zIncPair | zDecPair | zIncR | zDecR
  | zLdRImm | zLdHlImm | zRlca | zExAf | zAddHl | zRrca | zDjnz | zRla
  | zJr | zRra | zJrCc | zLdNnHl | zDaa | zLdHlNn | zCpl | zLdNnA
  | zScf | zLdANn | zCcf | zLdRR | zLdRHl | zLdHlR | zHalt | zAddR
  | zAdcR | zSubR | zSbcR | zAndR | zXorR | zOrR | zCpR | zAddN
  | zAdcN | zSubN | zSbcN | zAndN | zXorN | zOrN | zCpN | zRetCc
  | zPop | zJpCc | zJp | zCallCc | zPush | zRst | zRet | zCbPrefix
  | zCall | zOutNA | zExx | zInAN | zDdPrefix | zExSpHl | zJpHl | zExDeHl
  | zEdPrefix | zDi | zLdSpHl | zEi | zFdPrefix | zRlc | zRrc | zRl
  | zRr | zSla | zSra | zSrl | zBit | zRes | zSet | zInRC
  | zOutCR | zSbcHl | zAdcHl | zLdNnPair | zLdPairNn | zNeg | zRetn | zReti
  | zIm0 | zIm1 | zIm2 | zLdIA | zLdRfA | zLdAI | zLdARf | zRrd
  | zRld | zLdi | zCpi | zIni | zOuti | zLdd | zCpd | zInd
  | zOutd | zLdir | zCpir | zInir | zOtir | zLddr | zCpdr | zIndr
  | zOtdr | zAddXx | zLdXxImm | zLdNnXx | zIncXx | zLdXxNn | zDecXx | zIncXd
  | zDecXd | zLdXdImm | zLdRXd | zLdXdR | zAddXd | zAdcXd | zSubXd | zSbcXd
  | zAndXd | zXorXd | zOrXd | zCpXd | zPopXx | zExSpXx | zPushXx | zJpXx
  | zLdSpXx | zDdcbPrefix | zRlcXd | zRrcXd | zRlXd | zRrXd | zSlaXd | zSraXd
  | zSrlXd | zBitXd | zResXd | zSetXd
  deriving DecidableEq, Repr, Inhabited

/-- A row of a Z80 page: mask, fixed bits, and the bytes that belong to other rows. -/
structure RowZ80 where
  mask : Byte
  match_ : Byte
  exclude : List Byte := []
  tag : TagZ80
  deriving DecidableEq, Repr, Inhabited

/-- A byte matches a row of a page. -/
def RowZ80.covers (r : RowZ80) (op : Byte) : Bool :=
  (op &&& r.mask) == r.match_ && !r.exclude.contains op

/-- Rows of page base, part 1 (30 R225). -/
def pageBase1 : List RowZ80 := [
  { mask := 0xFF#8, match_ := 0x00#8, tag := .zNop },
  { mask := 0xCF#8, match_ := 0x01#8, tag := .zLdPairImm },
  { mask := 0xEF#8, match_ := 0x02#8, tag := .zLdIndA },
  { mask := 0xEF#8, match_ := 0x0A#8, tag := .zLdAInd },
  { mask := 0xCF#8, match_ := 0x03#8, tag := .zIncPair },
  { mask := 0xCF#8, match_ := 0x0B#8, tag := .zDecPair },
  { mask := 0xC7#8, match_ := 0x04#8, tag := .zIncR },
  { mask := 0xC7#8, match_ := 0x05#8, tag := .zDecR },
  { mask := 0xC7#8, match_ := 0x06#8, tag := .zLdRImm, exclude := [0x36#8] },
  { mask := 0xFF#8, match_ := 0x36#8, tag := .zLdHlImm },
  { mask := 0xFF#8, match_ := 0x07#8, tag := .zRlca },
  { mask := 0xFF#8, match_ := 0x08#8, tag := .zExAf },
  { mask := 0xCF#8, match_ := 0x09#8, tag := .zAddHl },
  { mask := 0xFF#8, match_ := 0x0F#8, tag := .zRrca },
  { mask := 0xFF#8, match_ := 0x10#8, tag := .zDjnz },
  { mask := 0xFF#8, match_ := 0x17#8, tag := .zRla },
  { mask := 0xFF#8, match_ := 0x18#8, tag := .zJr },
  { mask := 0xFF#8, match_ := 0x1F#8, tag := .zRra },
  { mask := 0xE7#8, match_ := 0x20#8, tag := .zJrCc },
  { mask := 0xFF#8, match_ := 0x22#8, tag := .zLdNnHl },
  { mask := 0xFF#8, match_ := 0x27#8, tag := .zDaa },
  { mask := 0xFF#8, match_ := 0x2A#8, tag := .zLdHlNn },
  { mask := 0xFF#8, match_ := 0x2F#8, tag := .zCpl },
  { mask := 0xFF#8, match_ := 0x32#8, tag := .zLdNnA },
  { mask := 0xFF#8, match_ := 0x37#8, tag := .zScf },
  { mask := 0xFF#8, match_ := 0x3A#8, tag := .zLdANn },
  { mask := 0xFF#8, match_ := 0x3F#8, tag := .zCcf },
  { mask := 0xC0#8, match_ := 0x40#8, tag := .zLdRR, exclude := [0x46#8, 0x4E#8, 0x56#8, 0x5E#8, 0x66#8, 0x6E#8, 0x70#8, 0x71#8, 0x72#8, 0x73#8, 0x74#8, 0x75#8, 0x76#8, 0x77#8, 0x7E#8] },
  { mask := 0xC7#8, match_ := 0x46#8, tag := .zLdRHl, exclude := [0x76#8] },
  { mask := 0xF8#8, match_ := 0x70#8, tag := .zLdHlR, exclude := [0x76#8] },
  { mask := 0xFF#8, match_ := 0x76#8, tag := .zHalt },
  { mask := 0xF8#8, match_ := 0x80#8, tag := .zAddR }]

/-- Rows of page base, part 2 (30 R225). -/
def pageBase2 : List RowZ80 := [
  { mask := 0xF8#8, match_ := 0x88#8, tag := .zAdcR },
  { mask := 0xF8#8, match_ := 0x90#8, tag := .zSubR },
  { mask := 0xF8#8, match_ := 0x98#8, tag := .zSbcR },
  { mask := 0xF8#8, match_ := 0xA0#8, tag := .zAndR },
  { mask := 0xF8#8, match_ := 0xA8#8, tag := .zXorR },
  { mask := 0xF8#8, match_ := 0xB0#8, tag := .zOrR },
  { mask := 0xF8#8, match_ := 0xB8#8, tag := .zCpR },
  { mask := 0xFF#8, match_ := 0xC6#8, tag := .zAddN },
  { mask := 0xFF#8, match_ := 0xCE#8, tag := .zAdcN },
  { mask := 0xFF#8, match_ := 0xD6#8, tag := .zSubN },
  { mask := 0xFF#8, match_ := 0xDE#8, tag := .zSbcN },
  { mask := 0xFF#8, match_ := 0xE6#8, tag := .zAndN },
  { mask := 0xFF#8, match_ := 0xEE#8, tag := .zXorN },
  { mask := 0xFF#8, match_ := 0xF6#8, tag := .zOrN },
  { mask := 0xFF#8, match_ := 0xFE#8, tag := .zCpN },
  { mask := 0xC7#8, match_ := 0xC0#8, tag := .zRetCc },
  { mask := 0xCF#8, match_ := 0xC1#8, tag := .zPop },
  { mask := 0xC7#8, match_ := 0xC2#8, tag := .zJpCc },
  { mask := 0xFF#8, match_ := 0xC3#8, tag := .zJp },
  { mask := 0xC7#8, match_ := 0xC4#8, tag := .zCallCc },
  { mask := 0xCF#8, match_ := 0xC5#8, tag := .zPush },
  { mask := 0xC7#8, match_ := 0xC7#8, tag := .zRst },
  { mask := 0xFF#8, match_ := 0xC9#8, tag := .zRet },
  { mask := 0xFF#8, match_ := 0xCB#8, tag := .zCbPrefix },
  { mask := 0xFF#8, match_ := 0xCD#8, tag := .zCall },
  { mask := 0xFF#8, match_ := 0xD3#8, tag := .zOutNA },
  { mask := 0xFF#8, match_ := 0xD9#8, tag := .zExx },
  { mask := 0xFF#8, match_ := 0xDB#8, tag := .zInAN },
  { mask := 0xFF#8, match_ := 0xDD#8, tag := .zDdPrefix },
  { mask := 0xFF#8, match_ := 0xE3#8, tag := .zExSpHl },
  { mask := 0xFF#8, match_ := 0xE9#8, tag := .zJpHl },
  { mask := 0xFF#8, match_ := 0xEB#8, tag := .zExDeHl }]

/-- Rows of page base, part 3 (30 R225). -/
def pageBase3 : List RowZ80 := [
  { mask := 0xFF#8, match_ := 0xED#8, tag := .zEdPrefix },
  { mask := 0xFF#8, match_ := 0xF3#8, tag := .zDi },
  { mask := 0xFF#8, match_ := 0xF9#8, tag := .zLdSpHl },
  { mask := 0xFF#8, match_ := 0xFB#8, tag := .zEi },
  { mask := 0xFF#8, match_ := 0xFD#8, tag := .zFdPrefix }]

/-- Page base of the Z80 table (30 R225). -/
def pageBase : List RowZ80 := pageBase1 ++ pageBase2 ++ pageBase3

/-- Rows of page CB (30 R225). -/
def pageCb : List RowZ80 := [
  { mask := 0xF8#8, match_ := 0x00#8, tag := .zRlc },
  { mask := 0xF8#8, match_ := 0x08#8, tag := .zRrc },
  { mask := 0xF8#8, match_ := 0x10#8, tag := .zRl },
  { mask := 0xF8#8, match_ := 0x18#8, tag := .zRr },
  { mask := 0xF8#8, match_ := 0x20#8, tag := .zSla },
  { mask := 0xF8#8, match_ := 0x28#8, tag := .zSra },
  { mask := 0xF8#8, match_ := 0x38#8, tag := .zSrl },
  { mask := 0xC0#8, match_ := 0x40#8, tag := .zBit },
  { mask := 0xC0#8, match_ := 0x80#8, tag := .zRes },
  { mask := 0xC0#8, match_ := 0xC0#8, tag := .zSet }]

/-- Rows of page ED, part 1 (30 R225). -/
def pageEd1 : List RowZ80 := [
  { mask := 0xC7#8, match_ := 0x40#8, tag := .zInRC, exclude := [0x70#8] },
  { mask := 0xC7#8, match_ := 0x41#8, tag := .zOutCR, exclude := [0x71#8] },
  { mask := 0xCF#8, match_ := 0x42#8, tag := .zSbcHl },
  { mask := 0xCF#8, match_ := 0x4A#8, tag := .zAdcHl },
  { mask := 0xCF#8, match_ := 0x43#8, tag := .zLdNnPair },
  { mask := 0xCF#8, match_ := 0x4B#8, tag := .zLdPairNn },
  { mask := 0xFF#8, match_ := 0x44#8, tag := .zNeg },
  { mask := 0xFF#8, match_ := 0x45#8, tag := .zRetn },
  { mask := 0xFF#8, match_ := 0x4D#8, tag := .zReti },
  { mask := 0xFF#8, match_ := 0x46#8, tag := .zIm0 },
  { mask := 0xFF#8, match_ := 0x56#8, tag := .zIm1 },
  { mask := 0xFF#8, match_ := 0x5E#8, tag := .zIm2 },
  { mask := 0xFF#8, match_ := 0x47#8, tag := .zLdIA },
  { mask := 0xFF#8, match_ := 0x4F#8, tag := .zLdRfA },
  { mask := 0xFF#8, match_ := 0x57#8, tag := .zLdAI },
  { mask := 0xFF#8, match_ := 0x5F#8, tag := .zLdARf },
  { mask := 0xFF#8, match_ := 0x67#8, tag := .zRrd },
  { mask := 0xFF#8, match_ := 0x6F#8, tag := .zRld },
  { mask := 0xFF#8, match_ := 0xA0#8, tag := .zLdi },
  { mask := 0xFF#8, match_ := 0xA1#8, tag := .zCpi },
  { mask := 0xFF#8, match_ := 0xA2#8, tag := .zIni },
  { mask := 0xFF#8, match_ := 0xA3#8, tag := .zOuti },
  { mask := 0xFF#8, match_ := 0xA8#8, tag := .zLdd },
  { mask := 0xFF#8, match_ := 0xA9#8, tag := .zCpd },
  { mask := 0xFF#8, match_ := 0xAA#8, tag := .zInd },
  { mask := 0xFF#8, match_ := 0xAB#8, tag := .zOutd },
  { mask := 0xFF#8, match_ := 0xB0#8, tag := .zLdir },
  { mask := 0xFF#8, match_ := 0xB1#8, tag := .zCpir },
  { mask := 0xFF#8, match_ := 0xB2#8, tag := .zInir },
  { mask := 0xFF#8, match_ := 0xB3#8, tag := .zOtir },
  { mask := 0xFF#8, match_ := 0xB8#8, tag := .zLddr },
  { mask := 0xFF#8, match_ := 0xB9#8, tag := .zCpdr }]

/-- Rows of page ED, part 2 (30 R225). -/
def pageEd2 : List RowZ80 := [
  { mask := 0xFF#8, match_ := 0xBA#8, tag := .zIndr },
  { mask := 0xFF#8, match_ := 0xBB#8, tag := .zOtdr }]

/-- Page ED of the Z80 table (30 R225). -/
def pageEd : List RowZ80 := pageEd1 ++ pageEd2

/-- Rows of page DD/FD (30 R225). -/
def pageXx : List RowZ80 := [
  { mask := 0xCF#8, match_ := 0x09#8, tag := .zAddXx },
  { mask := 0xFF#8, match_ := 0x21#8, tag := .zLdXxImm },
  { mask := 0xFF#8, match_ := 0x22#8, tag := .zLdNnXx },
  { mask := 0xFF#8, match_ := 0x23#8, tag := .zIncXx },
  { mask := 0xFF#8, match_ := 0x2A#8, tag := .zLdXxNn },
  { mask := 0xFF#8, match_ := 0x2B#8, tag := .zDecXx },
  { mask := 0xFF#8, match_ := 0x34#8, tag := .zIncXd },
  { mask := 0xFF#8, match_ := 0x35#8, tag := .zDecXd },
  { mask := 0xFF#8, match_ := 0x36#8, tag := .zLdXdImm },
  { mask := 0xC7#8, match_ := 0x46#8, tag := .zLdRXd, exclude := [0x76#8] },
  { mask := 0xF8#8, match_ := 0x70#8, tag := .zLdXdR, exclude := [0x76#8] },
  { mask := 0xFF#8, match_ := 0x86#8, tag := .zAddXd },
  { mask := 0xFF#8, match_ := 0x8E#8, tag := .zAdcXd },
  { mask := 0xFF#8, match_ := 0x96#8, tag := .zSubXd },
  { mask := 0xFF#8, match_ := 0x9E#8, tag := .zSbcXd },
  { mask := 0xFF#8, match_ := 0xA6#8, tag := .zAndXd },
  { mask := 0xFF#8, match_ := 0xAE#8, tag := .zXorXd },
  { mask := 0xFF#8, match_ := 0xB6#8, tag := .zOrXd },
  { mask := 0xFF#8, match_ := 0xBE#8, tag := .zCpXd },
  { mask := 0xFF#8, match_ := 0xE1#8, tag := .zPopXx },
  { mask := 0xFF#8, match_ := 0xE3#8, tag := .zExSpXx },
  { mask := 0xFF#8, match_ := 0xE5#8, tag := .zPushXx },
  { mask := 0xFF#8, match_ := 0xE9#8, tag := .zJpXx },
  { mask := 0xFF#8, match_ := 0xF9#8, tag := .zLdSpXx },
  { mask := 0xFF#8, match_ := 0xCB#8, tag := .zDdcbPrefix }]

/-- Rows of page DDCB/FDCB (30 R225). -/
def pageXxcb : List RowZ80 := [
  { mask := 0xFF#8, match_ := 0x06#8, tag := .zRlcXd },
  { mask := 0xFF#8, match_ := 0x0E#8, tag := .zRrcXd },
  { mask := 0xFF#8, match_ := 0x16#8, tag := .zRlXd },
  { mask := 0xFF#8, match_ := 0x1E#8, tag := .zRrXd },
  { mask := 0xFF#8, match_ := 0x26#8, tag := .zSlaXd },
  { mask := 0xFF#8, match_ := 0x2E#8, tag := .zSraXd },
  { mask := 0xFF#8, match_ := 0x3E#8, tag := .zSrlXd },
  { mask := 0xC7#8, match_ := 0x46#8, tag := .zBitXd },
  { mask := 0xC7#8, match_ := 0x86#8, tag := .zResXd },
  { mask := 0xC7#8, match_ := 0xC6#8, tag := .zSetXd }]

/-- The row of a page that a byte selects, if any (30 R226). -/
def tagZ80 (page : List RowZ80) (op : Byte) : Option TagZ80 :=
  (page.find? (·.covers op)).map (·.tag)

end Sys2Proof
end

