-- ==== Sys2Proof/Config.lean ====
section
/-! DEFINITION. What is fixed for a run and has no value in spec/: the cycle costs, the idle quanta, the clocks, and the
streams of free values. Every constant is opaque and has no body: no proof can see a value of it. -/

namespace Sys2Proof

/-- What an M68K cycle cost is asked for (70 R820): the mode and the size of an effective address (40 R278); the tag, the
operand size and the operand modes of an instruction, with the run-time quantities its rule names; an exception, an interrupt,
reset. -/
inductive Cost68k
  | ea (mode : EaMode) (sz : Size)
  | instr (tag : Tag68k) (sz : Option Size) (modes : List EaMode) (data : List Nat)
  | exception (vector : Nat)
  | interrupt
  | reset
  deriving DecidableEq, Repr

/-- What a Z80 cycle cost is asked for (70 R820): the tag of an instruction, whether its operand field names (HL), and the
run-time quantities its rule names; or interrupt acceptance. -/
inductive CostZ80
  | instr (tag : TagZ80) (atHl : Bool) (data : List Nat)
  | intAcceptIM1
  deriving DecidableEq, Repr

/-- `Cycles68k` (70 R820), a parameter: log 10. -/
opaque Config.cycles68k : Cost68k → Nat

/-- `CyclesZ80` (70 R820), a parameter: log 10. -/
opaque Config.cyclesZ80 : CostZ80 → Nat

/-- One less than `IdleQuantum68k` (70 R821: a positive number). -/
opaque Config.idlePred68k : Nat

/-- One less than `IdleQuantumZ80` (70 R821: a positive number). -/
opaque Config.idlePredZ80 : Nat

/-- `IdleQuantum68k`, positive (70 R821). -/
def Config.idleQuantum68k : Nat := Config.idlePred68k + 1

/-- `IdleQuantumZ80`, positive (70 R821). -/
def Config.idleQuantumZ80 : Nat := Config.idlePredZ80 + 1

/-- The free values M68K draws, by the count of its draws (00 R17): log 7. -/
opaque Config.draw68k : Nat → Long

/-- The free values Z80 draws, by the count of its draws (00 R17): log 7. -/
opaque Config.drawZ80 : Nat → Long

/-- The free bytes of OWNER's oracle and of memory with no content, by the count of such draws (20 R131, R132): log 7. -/
opaque Config.drawBus : Nat → Byte

/-- The agents' turns (20 R140): M68K, Z80, OWNER serving one mailbox (20 R152), OWNER writing one interrupt-level
slot (20 R159). -/
inductive Turn
  | m68k
  | z80
  | service68k
  | serviceZ80
  | postInt68k (level : Nat)
  | postIntZ80 (level : Nat)
  deriving DecidableEq, Repr, Inhabited

/-- The free schedule: a free finite block of turns before each turn that weak fairness owes (20 R140, R157): log 2. -/
opaque Config.turnsBefore : Nat → List Turn

/-- The two regions (70 R822). -/
inductive Region | one | two
  deriving DecidableEq, Repr, Inhabited

/-- `Region`, a launch parameter that only the host's budget reads (70 R822). -/
opaque Config.region : Region

/-- `MasterClock(Region)`, in Hz (70 R822). -/
opaque Config.masterClock : Region → Nat

/-- `FrameRate`, shared by both regions (70 R822, C16). -/
opaque Config.frameRate : Nat

/-- `HardwareVersion`, consulted only by OWNER's oracle (60 R755). -/
opaque Config.hardwareVersion : Nat

end Sys2Proof
end

