-- ==== Sys2Proof/WellFormed.lean ====
section
/-! DEFINITION. The checks that make a term of `Instr` an instruction: what the encoding of its row can carry
(30 R181, R186 to R194, R226 to R231). -/

namespace Sys2Proof

/-- An immediate of size B or W is one extension word (30 R189). -/
def immFits (sz : Size) (v : Long) : Bool := sz = .l || v.toNat < 65536

/-- The operand is of the row's category, and an immediate fits the size (30 R187, R189). -/
def eaOk (c : EaClass) (sz : Size) (ea : Ea) : Bool :=
  c.has ea.kind && (match ea with | .imm v => immFits sz v | _ => true)

/-- An address register is no byte operand (30 R181 (c)). -/
def notAnByte (sz : Size) (ea : Ea) : Bool := !(sz = .b && ea.kind = .an)

/-- A displacement in the operation word is not 0, which announces the extension word (30 R192). -/
def dispOk : Disp → Bool
  | .short d => d ≠ 0#8
  | .word _ => true

/-- The instruction is one its row can encode. -/
def Instr.wf : Instr → Bool
  | .oriToCcr _ | .oriToSr _ | .andiToCcr _ | .andiToSr _ | .eoriToCcr _ | .eoriToSr _ => true
  | .ori sz imm ea => eaOk .dataAlterable sz ea && immFits sz imm
  | .andi sz imm ea => eaOk .dataAlterable sz ea && immFits sz imm
  | .subi sz imm ea => eaOk .dataAlterable sz ea && immFits sz imm
  | .addi sz imm ea => eaOk .dataAlterable sz ea && immFits sz imm
  | .eori sz imm ea => eaOk .dataAlterable sz ea && immFits sz imm
  | .cmpi sz imm ea => eaOk .dataAlterable sz ea && immFits sz imm
  | .btstImm _ ea => eaOk .dataNoImm .b ea
  | .bchgImm _ ea => eaOk .dataAlterable .b ea
  | .bclrImm _ ea => eaOk .dataAlterable .b ea
  | .bsetImm _ ea => eaOk .dataAlterable .b ea
  | .btstReg _ ea => eaOk .data .b ea
  | .bchgReg _ ea => eaOk .dataAlterable .b ea
  | .bclrReg _ ea => eaOk .dataAlterable .b ea
  | .bsetReg _ ea => eaOk .dataAlterable .b ea
  | .movepLoad sz _ _ _ => sz ≠ .b
  | .movepStore sz _ _ _ => sz ≠ .b
  | .moveB src dst => eaOk .all .b src && notAnByte .b src && eaOk .dataAlterable .b dst
  | .moveL src dst => eaOk .all .l src && eaOk .dataAlterable .l dst
  | .moveW src dst => eaOk .all .w src && eaOk .dataAlterable .w dst
  | .moveaL src _ => eaOk .all .l src
  | .moveaW src _ => eaOk .all .w src
  | .negx sz ea => eaOk .dataAlterable sz ea
  | .moveFromSr ea => eaOk .dataAlterable .w ea
  | .chk ea _ => eaOk .data .w ea
  | .lea ea _ => eaOk .control .l ea
  | .clr sz ea => eaOk .dataAlterable sz ea
  | .neg sz ea => eaOk .dataAlterable sz ea
  | .moveToCcr ea => eaOk .data .w ea
  | .notOp sz ea => eaOk .dataAlterable sz ea
  | .moveToSr ea => eaOk .data .w ea
  | .nbcd ea => eaOk .dataAlterable .b ea
  | .swap _ => true
  | .pea ea => eaOk .control .l ea
  | .extW _ | .extL _ => true
  | .movemStore sz _ ea => eaOk .movemStore sz ea && sz ≠ .b
  | .tst sz ea => eaOk .dataAlterable sz ea
  | .tas ea => eaOk .dataAlterable .b ea
  | .illegal w => (w == 0x4AFC#16 || noRow68k w)
  | .movemLoad sz _ ea => eaOk .movemLoad sz ea && sz ≠ .b
  | .trap _ | .link _ _ | .unlk _ | .moveUsp _ _ | .reset | .nop
  | .stop _ | .rte | .rts | .trapv | .rtr => true
  | .jsr ea => eaOk .control .l ea
  | .jmp ea => eaOk .control .l ea
  | .addq sz _ ea => eaOk .alterable sz ea && notAnByte sz ea
  | .subq sz _ ea => eaOk .alterable sz ea && notAnByte sz ea
  | .dbcc _ _ _ => true
  | .scc _ ea => eaOk .dataAlterable .b ea
  | .bra disp => dispOk disp
  | .bsr disp => dispOk disp
  | .bcc cnd disp => dispOk disp && cnd ≠ .t && cnd ≠ .f
  | .moveq _ _ => true
  | .divu ea _ => eaOk .data .w ea
  | .divs ea _ => eaOk .data .w ea
  | .sbcd _ _ _ => true
  | .orToDn sz ea _ => eaOk .data sz ea
  | .orToEa sz _ ea => eaOk .memoryAlterable sz ea
  | .subToDn sz ea _ => eaOk .all sz ea && notAnByte sz ea
  | .subToEa sz _ ea => eaOk .memoryAlterable sz ea
  | .suba sz ea _ => eaOk .all sz ea && sz ≠ .b
  | .subx _ _ _ _ => true
  | .addToDn sz ea _ => eaOk .all sz ea && notAnByte sz ea
  | .addToEa sz _ ea => eaOk .memoryAlterable sz ea
  | .adda sz ea _ => eaOk .all sz ea && sz ≠ .b
  | .addx _ _ _ _ | .lineA _ => true
  | .cmp sz ea _ => eaOk .all sz ea && notAnByte sz ea
  | .cmpa sz ea _ => eaOk .all sz ea && sz ≠ .b
  | .eor sz _ ea => eaOk .dataAlterable sz ea
  | .cmpm _ _ _ => true
  | .mulu ea _ => eaOk .data .w ea
  | .muls ea _ => eaOk .data .w ea
  | .abcd _ _ _ | .exgDD _ _ | .exgAA _ _ | .exgDA _ _ => true
  | .andToDn sz ea _ => eaOk .data sz ea
  | .andToEa sz _ ea => eaOk .memoryAlterable sz ea
  | .asrReg _ _ _ | .aslReg _ _ _ | .lsrReg _ _ _ | .lslReg _ _ _ | .roxrReg _ _ _ | .roxlReg _ _ _
  | .rorReg _ _ _ | .rolReg _ _ _ => true
  | .asrMem ea => eaOk .memoryAlterable .w ea
  | .aslMem ea => eaOk .memoryAlterable .w ea
  | .lsrMem ea => eaOk .memoryAlterable .w ea
  | .lslMem ea => eaOk .memoryAlterable .w ea
  | .roxrMem ea => eaOk .memoryAlterable .w ea
  | .roxlMem ea => eaOk .memoryAlterable .w ea
  | .rorMem ea => eaOk .memoryAlterable .w ea
  | .rolMem ea => eaOk .memoryAlterable .w ea
  | .lineF _ | .zNop | .zLdPairImm _ _ | .zLdIndA _ | .zLdAInd _ | .zIncPair _
  | .zDecPair _ | .zIncR _ | .zDecR _ | .zLdRImm _ _ | .zLdHlImm _ | .zRlca
  | .zExAf | .zAddHl _ | .zRrca | .zDjnz _ | .zRla | .zJr _
  | .zRra | .zJrCc _ _ | .zLdNnHl _ | .zDaa | .zLdHlNn _ | .zCpl
  | .zLdNnA _ | .zScf | .zLdANn _ | .zCcf | .zLdRR _ _ | .zLdRHl _
  | .zLdHlR _ | .zHalt | .zAddR _ | .zAdcR _ | .zSubR _ | .zSbcR _
  | .zAndR _ | .zXorR _ | .zOrR _ | .zCpR _ | .zAddN _ | .zAdcN _
  | .zSubN _ | .zSbcN _ | .zAndN _ | .zXorN _ | .zOrN _ | .zCpN _
  | .zRetCc _ | .zPop _ | .zJpCc _ _ | .zJp _ | .zCallCc _ _ | .zPush _
  | .zRst _ | .zRet => true
  | .zCbPrefix op => (tagZ80 pageCb op).isNone
  | .zCall _ | .zOutNA _ | .zExx | .zInAN _ => true
  | .zDdPrefix op => (tagZ80 pageXx op).isNone
  | .zExSpHl | .zJpHl | .zExDeHl => true
  | .zEdPrefix op => (tagZ80 pageEd op).isNone
  | .zDi | .zLdSpHl | .zEi => true
  | .zFdPrefix op => (tagZ80 pageXx op).isNone
  | .zRlc _ | .zRrc _ | .zRl _ | .zRr _ | .zSla _ | .zSra _
  | .zSrl _ | .zBit _ _ | .zRes _ _ | .zSet _ _ | .zInRC _ | .zOutCR _
  | .zSbcHl _ | .zAdcHl _ | .zLdNnPair _ _ | .zLdPairNn _ _ | .zNeg | .zRetn
  | .zReti | .zIm0 | .zIm1 | .zIm2 | .zLdIA | .zLdRfA
  | .zLdAI | .zLdARf | .zRrd | .zRld | .zLdi | .zCpi
  | .zIni | .zOuti | .zLdd | .zCpd | .zInd | .zOutd
  | .zLdir | .zCpir | .zInir | .zOtir | .zLddr | .zCpdr
  | .zIndr | .zOtdr | .zAddXx _ _ | .zLdXxImm _ _ | .zLdNnXx _ _ | .zIncXx _
  | .zLdXxNn _ _ | .zDecXx _ | .zIncXd _ _ | .zDecXd _ _ | .zLdXdImm _ _ _ | .zLdRXd _ _ _
  | .zLdXdR _ _ _ | .zAddXd _ _ | .zAdcXd _ _ | .zSubXd _ _ | .zSbcXd _ _ | .zAndXd _ _
  | .zXorXd _ _ | .zOrXd _ _ | .zCpXd _ _ | .zPopXx _ | .zExSpXx _ | .zPushXx _
  | .zJpXx _ | .zLdSpXx _ => true
  | .zDdcbPrefix _ _ op => (tagZ80 pageXxcb op).isNone
  | .zRlcXd _ _ | .zRrcXd _ _ | .zRlXd _ _ | .zRrXd _ _ | .zSlaXd _ _ | .zSraXd _ _
  | .zSrlXd _ _ | .zBitXd _ _ _ | .zResXd _ _ _ | .zSetXd _ _ _ => true

end Sys2Proof
end

