-- ==== Sys2Proof/Decode.lean ====
section
/-! DEFINITION. The decoders of both processors, total on any words and bytes (30 R180 to R194, R220 to R232), and after
them the encoders. A word or byte past the end of what is given reads as 0. -/

namespace Sys2Proof

/-! ### M68K fields -/

/-- The size the standard field names (30 R190). -/
def stdSize (w : Word) : Size :=
  match (fieldSize w).toNat with
  | 0 => .b
  | 1 => .w
  | _ => .l

/-- A one-bit size field: 0 W, 1 L (30 R190). -/
def bitSize (w : Word) (k : Nat) : Size := if w.getLsbD k then .l else .w

/-- The condition a 4-bit code names (41 R309). -/
def condOf (c : BitVec 4) : Cond :=
  match c.toNat with
  | 0 => .t | 1 => .f | 2 => .hi | 3 => .ls | 4 => .cc | 5 => .cs | 6 => .ne | 7 => .eq
  | 8 => .vc | 9 => .vs | 10 => .pl | 11 => .mi | 12 => .ge | 13 => .lt | 14 => .gt | _ => .le

/-- The count field of a register shift: bits 11:9, a register when bit 5 is set (30 R194). -/
def countOf (w : Word) : ShiftCount :=
  if w.getLsbD 5 then .reg (fieldReg9 w) else .quick (fieldReg9 w)

/-- The extension word at a place of the list. -/
def wordAt (ws : List Word) (k : Nat) : Word := ws.getD k 0#16

/-- An immediate of a size and the words after it (30 R189): the whole word for B and W, high word first for L. -/
def takeImm (sz : Size) (ws : List Word) : Long × List Word :=
  match sz with
  | .l => (wordAt ws 0 ++ wordAt ws 1, ws.drop 2)
  | _ => ((wordAt ws 0).setWidth 32, ws.drop 1)

/-- The operand that a mode and a register number name, with its extension words, and the words after it (30 R186); `none`
is a mode that 30 R186 does not list. -/
def takeEa (sz : Size) (mode reg : BitVec 3) (ws : List Word) : Option (Ea × List Word) :=
  (eaModeOf mode reg).map fun k =>
    match k with
    | .dn => (.dn reg, ws)
    | .an => (.an reg, ws)
    | .ind => (.ind reg, ws)
    | .post => (.post reg, ws)
    | .pre => (.pre reg, ws)
    | .disp => (.disp reg (wordAt ws 0), ws.drop 1)
    | .index => (.index reg (wordAt ws 0), ws.drop 1)
    | .absW => (.absW (wordAt ws 0), ws.drop 1)
    | .absL => (.absL (wordAt ws 0 ++ wordAt ws 1), ws.drop 2)
    | .pcDisp => (.pcDisp (wordAt ws 0), ws.drop 1)
    | .pcIndex => (.pcIndex (wordAt ws 0), ws.drop 1)
    | .imm => (.imm (takeImm sz ws).1, (takeImm sz ws).2)

/-- The operand in bits 5:0 of the operation word. A word with an unlisted mode is illegal (30 R197, 40 R279); no row admits
it. -/
def withEa (sz : Size) (w : Word) (ws : List Word) (f : Ea → Instr) : Instr × List Word :=
  match takeEa sz (fieldMode3 w) (fieldReg0 w) ws with
  | some r => (f r.1, r.2)
  | none => (.illegal w, ws)

/-- An immediate, then the operand in bits 5:0 (30 R185). -/
def takeImmEa (sz : Size) (w : Word) (ws : List Word) (f : Long → Ea → Instr) : Instr × List Word :=
  let r := takeImm sz ws
  withEa sz w r.2 (f r.1)

/-- The source in bits 5:0, then the destination with its register in bits 11:9 and its mode in bits 8:6 (30 R186). -/
def takeMove (sz : Size) (w : Word) (ws : List Word) (f : Ea → Ea → Instr) : Instr × List Word :=
  match takeEa sz (fieldMode3 w) (fieldReg0 w) ws with
  | none => (.illegal w, ws)
  | some r =>
    match takeEa sz (fieldMode6 w) (fieldReg9 w) r.2 with
    | none => (.illegal w, ws)
    | some t => (f r.1 t.1, t.2)

/-- A branch displacement: bits 7:0, or one extension word when they are 0 (30 R192). -/
def takeDisp (w : Word) (ws : List Word) (f : Disp → Instr) : Instr × List Word :=
  let d := w.extractLsb' 0 8
  if d = 0#8 then (f (.word (wordAt ws 0)), ws.drop 1) else (f (.short d), ws)

/-- The instruction of a tag: its fields from the operation word `w` and its extension words from `ws`, and the words
after it. -/
def build68k (t : Tag68k) (w : Word) (ws : List Word) : Instr × List Word :=
  match t with
  | .oriToCcr => (.oriToCcr (wordAt ws 0), ws.drop 1)
  | .oriToSr => (.oriToSr (wordAt ws 0), ws.drop 1)
  | .andiToCcr => (.andiToCcr (wordAt ws 0), ws.drop 1)
  | .andiToSr => (.andiToSr (wordAt ws 0), ws.drop 1)
  | .eoriToCcr => (.eoriToCcr (wordAt ws 0), ws.drop 1)
  | .eoriToSr => (.eoriToSr (wordAt ws 0), ws.drop 1)
  | .ori => takeImmEa (stdSize w) w ws (.ori (stdSize w))
  | .andi => takeImmEa (stdSize w) w ws (.andi (stdSize w))
  | .subi => takeImmEa (stdSize w) w ws (.subi (stdSize w))
  | .addi => takeImmEa (stdSize w) w ws (.addi (stdSize w))
  | .eori => takeImmEa (stdSize w) w ws (.eori (stdSize w))
  | .cmpi => takeImmEa (stdSize w) w ws (.cmpi (stdSize w))
  | .btstImm => withEa .b w (ws.drop 1) (.btstImm (wordAt ws 0))
  | .bchgImm => withEa .b w (ws.drop 1) (.bchgImm (wordAt ws 0))
  | .bclrImm => withEa .b w (ws.drop 1) (.bclrImm (wordAt ws 0))
  | .bsetImm => withEa .b w (ws.drop 1) (.bsetImm (wordAt ws 0))
  | .btstReg => withEa .b w ws (.btstReg (fieldReg9 w))
  | .bchgReg => withEa .b w ws (.bchgReg (fieldReg9 w))
  | .bclrReg => withEa .b w ws (.bclrReg (fieldReg9 w))
  | .bsetReg => withEa .b w ws (.bsetReg (fieldReg9 w))
  | .movepLoad => (.movepLoad (bitSize w 6) (fieldReg9 w) (fieldReg0 w) (wordAt ws 0), ws.drop 1)
  | .movepStore => (.movepStore (bitSize w 6) (fieldReg9 w) (fieldReg0 w) (wordAt ws 0), ws.drop 1)
  | .moveB => takeMove .b w ws .moveB
  | .moveL => takeMove .l w ws .moveL
  | .moveW => takeMove .w w ws .moveW
  | .moveaL => withEa .l w ws (.moveaL · (fieldReg9 w))
  | .moveaW => withEa .w w ws (.moveaW · (fieldReg9 w))
  | .negx => withEa (stdSize w) w ws (.negx (stdSize w))
  | .moveFromSr => withEa .w w ws .moveFromSr
  | .chk => withEa .w w ws (.chk · (fieldReg9 w))
  | .lea => withEa .l w ws (.lea · (fieldReg9 w))
  | .clr => withEa (stdSize w) w ws (.clr (stdSize w))
  | .neg => withEa (stdSize w) w ws (.neg (stdSize w))
  | .moveToCcr => withEa .w w ws .moveToCcr
  | .notOp => withEa (stdSize w) w ws (.notOp (stdSize w))
  | .moveToSr => withEa .w w ws .moveToSr
  | .nbcd => withEa .b w ws .nbcd
  | .swap => (.swap (fieldReg0 w), ws)
  | .pea => withEa .l w ws .pea
  | .extW => (.extW (fieldReg0 w), ws)
  | .extL => (.extL (fieldReg0 w), ws)
  | .movemStore => withEa (bitSize w 6) w (ws.drop 1) (.movemStore (bitSize w 6) (wordAt ws 0))
  | .tst => withEa (stdSize w) w ws (.tst (stdSize w))
  | .tas => withEa .b w ws .tas
  | .illegal => (.illegal w, ws)
  | .movemLoad => withEa (bitSize w 6) w (ws.drop 1) (.movemLoad (bitSize w 6) (wordAt ws 0))
  | .trap => (.trap (w.extractLsb' 0 4), ws)
  | .link => (.link (fieldReg0 w) (wordAt ws 0), ws.drop 1)
  | .unlk => (.unlk (fieldReg0 w), ws)
  | .moveUsp => (.moveUsp (w.getLsbD 3) (fieldReg0 w), ws)
  | .reset => (.reset, ws)
  | .nop => (.nop, ws)
  | .stop => (.stop (wordAt ws 0), ws.drop 1)
  | .rte => (.rte, ws)
  | .rts => (.rts, ws)
  | .trapv => (.trapv, ws)
  | .rtr => (.rtr, ws)
  | .jsr => withEa .l w ws .jsr
  | .jmp => withEa .l w ws .jmp
  | .addq => withEa (stdSize w) w ws (.addq (stdSize w) (fieldReg9 w))
  | .subq => withEa (stdSize w) w ws (.subq (stdSize w) (fieldReg9 w))
  | .dbcc => (.dbcc (condOf (fieldCond w)) (fieldReg0 w) (wordAt ws 0), ws.drop 1)
  | .scc => withEa .b w ws (.scc (condOf (fieldCond w)))
  | .bra => takeDisp w ws .bra
  | .bsr => takeDisp w ws .bsr
  | .bcc => takeDisp w ws (.bcc (condOf (fieldCond w)))
  | .moveq => (.moveq (fieldReg9 w) (w.extractLsb' 0 8), ws)
  | .divu => withEa .w w ws (.divu · (fieldReg9 w))
  | .divs => withEa .w w ws (.divs · (fieldReg9 w))
  | .sbcd => (.sbcd (w.getLsbD 3) (fieldReg0 w) (fieldReg9 w), ws)
  | .orToDn => withEa (stdSize w) w ws (.orToDn (stdSize w) · (fieldReg9 w))
  | .orToEa => withEa (stdSize w) w ws (.orToEa (stdSize w) (fieldReg9 w))
  | .subToDn => withEa (stdSize w) w ws (.subToDn (stdSize w) · (fieldReg9 w))
  | .subToEa => withEa (stdSize w) w ws (.subToEa (stdSize w) (fieldReg9 w))
  | .suba => withEa (bitSize w 8) w ws (.suba (bitSize w 8) · (fieldReg9 w))
  | .subx => (.subx (stdSize w) (w.getLsbD 3) (fieldReg0 w) (fieldReg9 w), ws)
  | .addToDn => withEa (stdSize w) w ws (.addToDn (stdSize w) · (fieldReg9 w))
  | .addToEa => withEa (stdSize w) w ws (.addToEa (stdSize w) (fieldReg9 w))
  | .adda => withEa (bitSize w 8) w ws (.adda (bitSize w 8) · (fieldReg9 w))
  | .addx => (.addx (stdSize w) (w.getLsbD 3) (fieldReg0 w) (fieldReg9 w), ws)
  | .lineA => (.lineA (w.extractLsb' 0 12), ws)
  | .cmp => withEa (stdSize w) w ws (.cmp (stdSize w) · (fieldReg9 w))
  | .cmpa => withEa (bitSize w 8) w ws (.cmpa (bitSize w 8) · (fieldReg9 w))
  | .eor => withEa (stdSize w) w ws (.eor (stdSize w) (fieldReg9 w))
  | .cmpm => (.cmpm (stdSize w) (fieldReg0 w) (fieldReg9 w), ws)
  | .mulu => withEa .w w ws (.mulu · (fieldReg9 w))
  | .muls => withEa .w w ws (.muls · (fieldReg9 w))
  | .abcd => (.abcd (w.getLsbD 3) (fieldReg0 w) (fieldReg9 w), ws)
  | .exgDD => (.exgDD (fieldReg9 w) (fieldReg0 w), ws)
  | .exgAA => (.exgAA (fieldReg9 w) (fieldReg0 w), ws)
  | .exgDA => (.exgDA (fieldReg9 w) (fieldReg0 w), ws)
  | .andToDn => withEa (stdSize w) w ws (.andToDn (stdSize w) · (fieldReg9 w))
  | .andToEa => withEa (stdSize w) w ws (.andToEa (stdSize w) (fieldReg9 w))
  | .asrReg => (.asrReg (stdSize w) (countOf w) (fieldReg0 w), ws)
  | .aslReg => (.aslReg (stdSize w) (countOf w) (fieldReg0 w), ws)
  | .lsrReg => (.lsrReg (stdSize w) (countOf w) (fieldReg0 w), ws)
  | .lslReg => (.lslReg (stdSize w) (countOf w) (fieldReg0 w), ws)
  | .roxrReg => (.roxrReg (stdSize w) (countOf w) (fieldReg0 w), ws)
  | .roxlReg => (.roxlReg (stdSize w) (countOf w) (fieldReg0 w), ws)
  | .rorReg => (.rorReg (stdSize w) (countOf w) (fieldReg0 w), ws)
  | .rolReg => (.rolReg (stdSize w) (countOf w) (fieldReg0 w), ws)
  | .asrMem => withEa .w w ws .asrMem
  | .aslMem => withEa .w w ws .aslMem
  | .lsrMem => withEa .w w ws .lsrMem
  | .lslMem => withEa .w w ws .lslMem
  | .roxrMem => withEa .w w ws .roxrMem
  | .roxlMem => withEa .w w ws .roxlMem
  | .rorMem => withEa .w w ws .rorMem
  | .rolMem => withEa .w w ws .rolMem
  | .lineF => (.lineF (w.extractLsb' 0 12), ws)

/-- The M68K decoder (30 R180): the instruction at the head of a list of words, and the words after it. -/
def decode68k (ws : List Word) : Instr × List Word :=
  build68k (tag68k (wordAt ws 0)) (wordAt ws 0) (ws.drop 1)

/-! ### Z80 fields -/

/-- The register a 3-bit field names, 110 apart (30 R221). -/
def zregOf (f : BitVec 3) : ZReg :=
  match f.toNat with
  | 0 => .b | 1 => .c | 2 => .d | 3 => .e | 4 => .h | 5 => .l | _ => .a

/-- The operand a 3-bit field names (30 R221). -/
def zop8Of (f : BitVec 3) : ZOp8 := if f = 6#3 then .hl else .reg (zregOf f)

/-- The pair field of LD, INC, DEC, ADD, ADC, SBC (30 R222). -/
def zpairOf (f : BitVec 2) : ZPair :=
  match f.toNat with
  | 0 => .bc | 1 => .de | 2 => .hl | _ => .sp

/-- The pair field of PUSH and POP (30 R222). -/
def zpairQOf (f : BitVec 2) : ZPairQ :=
  match f.toNat with
  | 0 => .bc | 1 => .de | 2 => .hl | _ => .af

/-- The pair field of ADD xx,pp (47 R588). -/
def zpairXOf (f : BitVec 2) : ZPairX :=
  match f.toNat with
  | 0 => .bc | 1 => .de | 2 => .xx | _ => .sp

/-- The 1-bit pair field (30 R222). -/
def bcDeOf (f : BitVec 1) : BcDe := if f = 0#1 then .bc else .de

/-- The condition field (30 R223). -/
def zcondOf (f : BitVec 3) : ZCond :=
  match f.toNat with
  | 0 => .nz | 1 => .z | 2 => .nc | 3 => .c | 4 => .po | 5 => .pe | 6 => .p | _ => .m

/-- The condition field of JR (30 R223). -/
def zjrOf (f : BitVec 2) : ZJrCond :=
  match f.toNat with
  | 0 => .nz | 1 => .z | 2 => .nc | _ => .c

/-- The byte at a place of the list. -/
def byteAt (bs : List Byte) (k : Nat) : Byte := bs.getD k 0#8

/-- An operand `nn`, low byte first (20 R121). -/
def wordLe (bs : List Byte) : Word := byteAt bs 1 ++ byteAt bs 0

/-- A row of page base, with its operand bytes. The prefix rows lead to their pages in `decodeZ80`. -/
def buildBase (t : TagZ80) (op : Byte) (bs : List Byte) : Instr × List Byte :=
  match t with
  | .zNop => (.zNop, bs)
  | .zLdPairImm => (.zLdPairImm (zpairOf (op.extractLsb' 4 2)) (wordLe bs), bs.drop 2)
  | .zLdIndA => (.zLdIndA (bcDeOf (op.extractLsb' 4 1)), bs)
  | .zLdAInd => (.zLdAInd (bcDeOf (op.extractLsb' 4 1)), bs)
  | .zIncPair => (.zIncPair (zpairOf (op.extractLsb' 4 2)), bs)
  | .zDecPair => (.zDecPair (zpairOf (op.extractLsb' 4 2)), bs)
  | .zIncR => (.zIncR (zop8Of (op.extractLsb' 3 3)), bs)
  | .zDecR => (.zDecR (zop8Of (op.extractLsb' 3 3)), bs)
  | .zLdRImm => (.zLdRImm (zregOf (op.extractLsb' 3 3)) (byteAt bs 0), bs.drop 1)
  | .zLdHlImm => (.zLdHlImm (byteAt bs 0), bs.drop 1)
  | .zRlca => (.zRlca, bs)
  | .zExAf => (.zExAf, bs)
  | .zAddHl => (.zAddHl (zpairOf (op.extractLsb' 4 2)), bs)
  | .zRrca => (.zRrca, bs)
  | .zDjnz => (.zDjnz (byteAt bs 0), bs.drop 1)
  | .zRla => (.zRla, bs)
  | .zJr => (.zJr (byteAt bs 0), bs.drop 1)
  | .zRra => (.zRra, bs)
  | .zJrCc => (.zJrCc (zjrOf (op.extractLsb' 3 2)) (byteAt bs 0), bs.drop 1)
  | .zLdNnHl => (.zLdNnHl (wordLe bs), bs.drop 2)
  | .zDaa => (.zDaa, bs)
  | .zLdHlNn => (.zLdHlNn (wordLe bs), bs.drop 2)
  | .zCpl => (.zCpl, bs)
  | .zLdNnA => (.zLdNnA (wordLe bs), bs.drop 2)
  | .zScf => (.zScf, bs)
  | .zLdANn => (.zLdANn (wordLe bs), bs.drop 2)
  | .zCcf => (.zCcf, bs)
  | .zLdRR => (.zLdRR (zregOf (op.extractLsb' 3 3)) (zregOf (op.extractLsb' 0 3)), bs)
  | .zLdRHl => (.zLdRHl (zregOf (op.extractLsb' 3 3)), bs)
  | .zLdHlR => (.zLdHlR (zregOf (op.extractLsb' 0 3)), bs)
  | .zHalt => (.zHalt, bs)
  | .zAddR => (.zAddR (zop8Of (op.extractLsb' 0 3)), bs)
  | .zAdcR => (.zAdcR (zop8Of (op.extractLsb' 0 3)), bs)
  | .zSubR => (.zSubR (zop8Of (op.extractLsb' 0 3)), bs)
  | .zSbcR => (.zSbcR (zop8Of (op.extractLsb' 0 3)), bs)
  | .zAndR => (.zAndR (zop8Of (op.extractLsb' 0 3)), bs)
  | .zXorR => (.zXorR (zop8Of (op.extractLsb' 0 3)), bs)
  | .zOrR => (.zOrR (zop8Of (op.extractLsb' 0 3)), bs)
  | .zCpR => (.zCpR (zop8Of (op.extractLsb' 0 3)), bs)
  | .zAddN => (.zAddN (byteAt bs 0), bs.drop 1)
  | .zAdcN => (.zAdcN (byteAt bs 0), bs.drop 1)
  | .zSubN => (.zSubN (byteAt bs 0), bs.drop 1)
  | .zSbcN => (.zSbcN (byteAt bs 0), bs.drop 1)
  | .zAndN => (.zAndN (byteAt bs 0), bs.drop 1)
  | .zXorN => (.zXorN (byteAt bs 0), bs.drop 1)
  | .zOrN => (.zOrN (byteAt bs 0), bs.drop 1)
  | .zCpN => (.zCpN (byteAt bs 0), bs.drop 1)
  | .zRetCc => (.zRetCc (zcondOf (op.extractLsb' 3 3)), bs)
  | .zPop => (.zPop (zpairQOf (op.extractLsb' 4 2)), bs)
  | .zJpCc => (.zJpCc (zcondOf (op.extractLsb' 3 3)) (wordLe bs), bs.drop 2)
  | .zJp => (.zJp (wordLe bs), bs.drop 2)
  | .zCallCc => (.zCallCc (zcondOf (op.extractLsb' 3 3)) (wordLe bs), bs.drop 2)
  | .zPush => (.zPush (zpairQOf (op.extractLsb' 4 2)), bs)
  | .zRst => (.zRst (op.extractLsb' 3 3), bs)
  | .zRet => (.zRet, bs)
  | .zCall => (.zCall (wordLe bs), bs.drop 2)
  | .zOutNA => (.zOutNA (byteAt bs 0), bs.drop 1)
  | .zExx => (.zExx, bs)
  | .zInAN => (.zInAN (byteAt bs 0), bs.drop 1)
  | .zExSpHl => (.zExSpHl, bs)
  | .zJpHl => (.zJpHl, bs)
  | .zExDeHl => (.zExDeHl, bs)
  | .zDi => (.zDi, bs)
  | .zLdSpHl => (.zLdSpHl, bs)
  | .zEi => (.zEi, bs)
  | _ => (.zNop, bs)

/-- A row of page CB (30 R227). -/
def buildCb (t : TagZ80) (op : Byte) (bs : List Byte) : Instr × List Byte :=
  match t with
  | .zRlc => (.zRlc (zop8Of (op.extractLsb' 0 3)), bs)
  | .zRrc => (.zRrc (zop8Of (op.extractLsb' 0 3)), bs)
  | .zRl => (.zRl (zop8Of (op.extractLsb' 0 3)), bs)
  | .zRr => (.zRr (zop8Of (op.extractLsb' 0 3)), bs)
  | .zSla => (.zSla (zop8Of (op.extractLsb' 0 3)), bs)
  | .zSra => (.zSra (zop8Of (op.extractLsb' 0 3)), bs)
  | .zSrl => (.zSrl (zop8Of (op.extractLsb' 0 3)), bs)
  | .zBit => (.zBit (op.extractLsb' 3 3) (zop8Of (op.extractLsb' 0 3)), bs)
  | .zRes => (.zRes (op.extractLsb' 3 3) (zop8Of (op.extractLsb' 0 3)), bs)
  | .zSet => (.zSet (op.extractLsb' 3 3) (zop8Of (op.extractLsb' 0 3)), bs)
  | _ => (.zCbPrefix op, bs)

/-- A row of page ED (30 R228), with its operand bytes. -/
def buildEd (t : TagZ80) (op : Byte) (bs : List Byte) : Instr × List Byte :=
  match t with
  | .zInRC => (.zInRC (zregOf (op.extractLsb' 3 3)), bs)
  | .zOutCR => (.zOutCR (zregOf (op.extractLsb' 3 3)), bs)
  | .zSbcHl => (.zSbcHl (zpairOf (op.extractLsb' 4 2)), bs)
  | .zAdcHl => (.zAdcHl (zpairOf (op.extractLsb' 4 2)), bs)
  | .zLdNnPair => (.zLdNnPair (zpairOf (op.extractLsb' 4 2)) (wordLe bs), bs.drop 2)
  | .zLdPairNn => (.zLdPairNn (zpairOf (op.extractLsb' 4 2)) (wordLe bs), bs.drop 2)
  | .zNeg => (.zNeg, bs)
  | .zRetn => (.zRetn, bs)
  | .zReti => (.zReti, bs)
  | .zIm0 => (.zIm0, bs)
  | .zIm1 => (.zIm1, bs)
  | .zIm2 => (.zIm2, bs)
  | .zLdIA => (.zLdIA, bs)
  | .zLdRfA => (.zLdRfA, bs)
  | .zLdAI => (.zLdAI, bs)
  | .zLdARf => (.zLdARf, bs)
  | .zRrd => (.zRrd, bs)
  | .zRld => (.zRld, bs)
  | .zLdi => (.zLdi, bs)
  | .zCpi => (.zCpi, bs)
  | .zIni => (.zIni, bs)
  | .zOuti => (.zOuti, bs)
  | .zLdd => (.zLdd, bs)
  | .zCpd => (.zCpd, bs)
  | .zInd => (.zInd, bs)
  | .zOutd => (.zOutd, bs)
  | .zLdir => (.zLdir, bs)
  | .zCpir => (.zCpir, bs)
  | .zInir => (.zInir, bs)
  | .zOtir => (.zOtir, bs)
  | .zLddr => (.zLddr, bs)
  | .zCpdr => (.zCpdr, bs)
  | .zIndr => (.zIndr, bs)
  | .zOtdr => (.zOtdr, bs)
  | _ => (.zEdPrefix op, bs)

/-- The constructor of the rows `DD prefix` and `FD prefix`. -/
def xxPrefix (x : Idx) (op : Byte) : Instr :=
  match x with
  | .ix => .zDdPrefix op
  | .iy => .zFdPrefix op

/-- A row of page DD/FD (30 R229), with its operand bytes. -/
def buildXx (x : Idx) (t : TagZ80) (op : Byte) (bs : List Byte) : Instr × List Byte :=
  match t with
  | .zAddXx => (.zAddXx x (zpairXOf (op.extractLsb' 4 2)), bs)
  | .zLdXxImm => (.zLdXxImm x (wordLe bs), bs.drop 2)
  | .zLdNnXx => (.zLdNnXx x (wordLe bs), bs.drop 2)
  | .zIncXx => (.zIncXx x, bs)
  | .zLdXxNn => (.zLdXxNn x (wordLe bs), bs.drop 2)
  | .zDecXx => (.zDecXx x, bs)
  | .zIncXd => (.zIncXd x (byteAt bs 0), bs.drop 1)
  | .zDecXd => (.zDecXd x (byteAt bs 0), bs.drop 1)
  | .zLdXdImm => (.zLdXdImm x (byteAt bs 0) (byteAt bs 1), bs.drop 2)
  | .zLdRXd => (.zLdRXd x (zregOf (op.extractLsb' 3 3)) (byteAt bs 0), bs.drop 1)
  | .zLdXdR => (.zLdXdR x (zregOf (op.extractLsb' 0 3)) (byteAt bs 0), bs.drop 1)
  | .zAddXd => (.zAddXd x (byteAt bs 0), bs.drop 1)
  | .zAdcXd => (.zAdcXd x (byteAt bs 0), bs.drop 1)
  | .zSubXd => (.zSubXd x (byteAt bs 0), bs.drop 1)
  | .zSbcXd => (.zSbcXd x (byteAt bs 0), bs.drop 1)
  | .zAndXd => (.zAndXd x (byteAt bs 0), bs.drop 1)
  | .zXorXd => (.zXorXd x (byteAt bs 0), bs.drop 1)
  | .zOrXd => (.zOrXd x (byteAt bs 0), bs.drop 1)
  | .zCpXd => (.zCpXd x (byteAt bs 0), bs.drop 1)
  | .zPopXx => (.zPopXx x, bs)
  | .zExSpXx => (.zExSpXx x, bs)
  | .zPushXx => (.zPushXx x, bs)
  | .zJpXx => (.zJpXx x, bs)
  | .zLdSpXx => (.zLdSpXx x, bs)
  | _ => (xxPrefix x op, bs)

/-- A row of page DDCB/FDCB (30 R231), its displacement before its last byte. -/
def buildXxcb (x : Idx) (d : Byte) (t : TagZ80) (op : Byte) (bs : List Byte) : Instr × List Byte :=
  match t with
  | .zRlcXd => (.zRlcXd x d, bs)
  | .zRrcXd => (.zRrcXd x d, bs)
  | .zRlXd => (.zRlXd x d, bs)
  | .zRrXd => (.zRrXd x d, bs)
  | .zSlaXd => (.zSlaXd x d, bs)
  | .zSraXd => (.zSraXd x d, bs)
  | .zSrlXd => (.zSrlXd x d, bs)
  | .zBitXd => (.zBitXd x d (op.extractLsb' 3 3), bs)
  | .zResXd => (.zResXd x d (op.extractLsb' 3 3), bs)
  | .zSetXd => (.zSetXd x d (op.extractLsb' 3 3), bs)
  | _ => (.zDdcbPrefix x d op, bs)

/-- After DD or FD (30 R226). -/
def decodeXx (x : Idx) (bs : List Byte) : Instr × List Byte :=
  let op := byteAt bs 0
  if op = 0xCB#8 then
    match tagZ80 pageXxcb (byteAt bs 2) with
    | some t => buildXxcb x (byteAt bs 1) t (byteAt bs 2) (bs.drop 3)
    | none => (.zDdcbPrefix x (byteAt bs 1) (byteAt bs 2), bs.drop 3)
  else
    match tagZ80 pageXx op with
    | some t => buildXx x t op (bs.drop 1)
    | none => (xxPrefix x op, bs.drop 1)

/-- The Z80 decoder (30 R226): the instruction at the head of a list of bytes, and the bytes after it. -/
def decodeZ80 (bs : List Byte) : Instr × List Byte :=
  let b0 := byteAt bs 0
  if b0 = 0xCB#8 then
    match tagZ80 pageCb (byteAt bs 1) with
    | some t => buildCb t (byteAt bs 1) (bs.drop 2)
    | none => (.zCbPrefix (byteAt bs 1), bs.drop 2)
  else if b0 = 0xED#8 then
    match tagZ80 pageEd (byteAt bs 1) with
    | some t => buildEd t (byteAt bs 1) (bs.drop 2)
    | none => (.zEdPrefix (byteAt bs 1), bs.drop 2)
  else if b0 = 0xDD#8 then decodeXx .ix (bs.drop 1)
  else if b0 = 0xFD#8 then decodeXx .iy (bs.drop 1)
  else
    match tagZ80 pageBase b0 with
    | some t => buildBase t b0 (bs.drop 1)
    | none => (.zNop, bs.drop 1)

/-- The 16-bit words of a number, the lowest first. -/
def wordsOfNat (n w : Nat) : List Word := (List.range n).map fun k => BitVec.ofNat 16 (w >>> (16 * k))

/-- The bytes of a number, the lowest first. -/
def bytesOfNat (n w : Nat) : List Byte := (List.range n).map fun k => BitVec.ofNat 8 (w >>> (8 * k))

/-- The instruction the decoder reads from bits numbered as the table numbers them. The table's rows of 8 bits are the
Z80's and those of 16 bits the M68K's (log 15); a Z80 page that a prefix selects is not told by the row's 8 bits, so 8 bits are
read as the first byte of an instruction. -/
def decodeTableWord (nbits w : Nat) : Option Instr :=
  if nbits ≤ 8 then some (decodeZ80 (bytesOfNat 4 w)).1 else some (decode68k (wordsOfNat 5 w)).1

/-! ### Encoders -/

/-- The standard size field (30 R190). -/
def Size.code : Size → BitVec 2
  | .b => 0#2
  | .w => 1#2
  | .l => 2#2

/-- The one-bit size field: 1 for L. -/
def Size.isLong : Size → BitVec 1
  | .l => 1#1
  | _ => 0#1

/-- The code of a condition (41 R309). -/
def Cond.code : Cond → BitVec 4
  | .t => 0#4 | .f => 1#4 | .hi => 2#4 | .ls => 3#4 | .cc => 4#4 | .cs => 5#4 | .ne => 6#4 | .eq => 7#4
  | .vc => 8#4 | .vs => 9#4 | .pl => 10#4 | .mi => 11#4 | .ge => 12#4 | .lt => 13#4 | .gt => 14#4 | .le => 15#4

/-- The mode field of an operand (30 R186). -/
def Ea.modeBits : Ea → BitVec 3
  | .dn _ => 0#3
  | .an _ => 1#3
  | .ind _ => 2#3
  | .post _ => 3#3
  | .pre _ => 4#3
  | .disp _ _ => 5#3
  | .index _ _ => 6#3
  | _ => 7#3

/-- The register field of an operand (30 R186). -/
def Ea.regBits : Ea → BitVec 3
  | .dn n | .an n | .ind n | .post n | .pre n | .disp n _ | .index n _ => n
  | .absW _ => 0#3
  | .absL _ => 1#3
  | .pcDisp _ => 2#3
  | .pcIndex _ => 3#3
  | .imm _ => 4#3

/-- The extension words of an immediate (30 R189). -/
def immExt (sz : Size) (v : Long) : List Word :=
  match sz with
  | .l => [v.extractLsb' 16 16, v.extractLsb' 0 16]
  | _ => [v.extractLsb' 0 16]

/-- The extension words of an operand (30 R186). -/
def Ea.ext (sz : Size) : Ea → List Word
  | .disp _ d => [d]
  | .index _ x => [x]
  | .absW a => [a]
  | .absL a => [a.extractLsb' 16 16, a.extractLsb' 0 16]
  | .pcDisp d => [d]
  | .pcIndex x => [x]
  | .imm v => immExt sz v
  | _ => []

/-- Bits 7:0 of a branch (30 R192). -/
def Disp.byte : Disp → Byte
  | .short d => d
  | .word _ => 0#8

/-- The extension word of a branch (30 R192). -/
def Disp.ext : Disp → List Word
  | .short _ => []
  | .word d => [d]

/-- Bits 11:9 of a register shift (30 R194). -/
def ShiftCount.field : ShiftCount → BitVec 3
  | .quick q => q
  | .reg x => x

/-- Bit 5 of a register shift (30 R194). -/
def ShiftCount.isReg : ShiftCount → BitVec 1
  | .quick _ => 0#1
  | .reg _ => 1#1

/-- The operation word of an M68K instruction (30 R185 to R195, and the encoding line of each rule of 42 to 45). -/
def opword68k : Instr → Word
  | .oriToCcr _ => 0x003C#16
  | .oriToSr _ => 0x007C#16
  | .andiToCcr _ => 0x023C#16
  | .andiToSr _ => 0x027C#16
  | .eoriToCcr _ => 0x0A3C#16
  | .eoriToSr _ => 0x0A7C#16
  | .ori sz _ ea => 0x00#8 ++ sz.code ++ ea.modeBits ++ ea.regBits
  | .andi sz _ ea => 0x02#8 ++ sz.code ++ ea.modeBits ++ ea.regBits
  | .subi sz _ ea => 0x04#8 ++ sz.code ++ ea.modeBits ++ ea.regBits
  | .addi sz _ ea => 0x06#8 ++ sz.code ++ ea.modeBits ++ ea.regBits
  | .eori sz _ ea => 0x0A#8 ++ sz.code ++ ea.modeBits ++ ea.regBits
  | .cmpi sz _ ea => 0x0C#8 ++ sz.code ++ ea.modeBits ++ ea.regBits
  | .btstImm _ ea => 0x08#8 ++ 0#2 ++ ea.modeBits ++ ea.regBits
  | .bchgImm _ ea => 0x08#8 ++ 1#2 ++ ea.modeBits ++ ea.regBits
  | .bclrImm _ ea => 0x08#8 ++ 2#2 ++ ea.modeBits ++ ea.regBits
  | .bsetImm _ ea => 0x08#8 ++ 3#2 ++ ea.modeBits ++ ea.regBits
  | .btstReg n ea => 0#4 ++ n ++ 4#3 ++ ea.modeBits ++ ea.regBits
  | .bchgReg n ea => 0#4 ++ n ++ 5#3 ++ ea.modeBits ++ ea.regBits
  | .bclrReg n ea => 0#4 ++ n ++ 6#3 ++ ea.modeBits ++ ea.regBits
  | .bsetReg n ea => 0#4 ++ n ++ 7#3 ++ ea.modeBits ++ ea.regBits
  | .movepLoad sz x y _ => 0#4 ++ x ++ 2#2 ++ sz.isLong ++ 1#3 ++ y
  | .movepStore sz x y _ => 0#4 ++ x ++ 3#2 ++ sz.isLong ++ 1#3 ++ y
  | .moveB src dst => 1#4 ++ dst.regBits ++ dst.modeBits ++ src.modeBits ++ src.regBits
  | .moveL src dst => 2#4 ++ dst.regBits ++ dst.modeBits ++ src.modeBits ++ src.regBits
  | .moveW src dst => 3#4 ++ dst.regBits ++ dst.modeBits ++ src.modeBits ++ src.regBits
  | .moveaL src n => 2#4 ++ n ++ 1#3 ++ src.modeBits ++ src.regBits
  | .moveaW src n => 3#4 ++ n ++ 1#3 ++ src.modeBits ++ src.regBits
  | .negx sz ea => 0x40#8 ++ sz.code ++ ea.modeBits ++ ea.regBits
  | .moveFromSr ea => 0x103#10 ++ ea.modeBits ++ ea.regBits
  | .chk ea n => 4#4 ++ n ++ 6#3 ++ ea.modeBits ++ ea.regBits
  | .lea ea n => 4#4 ++ n ++ 7#3 ++ ea.modeBits ++ ea.regBits
  | .clr sz ea => 0x42#8 ++ sz.code ++ ea.modeBits ++ ea.regBits
  | .neg sz ea => 0x44#8 ++ sz.code ++ ea.modeBits ++ ea.regBits
  | .moveToCcr ea => 0x113#10 ++ ea.modeBits ++ ea.regBits
  | .notOp sz ea => 0x46#8 ++ sz.code ++ ea.modeBits ++ ea.regBits
  | .moveToSr ea => 0x11B#10 ++ ea.modeBits ++ ea.regBits
  | .nbcd ea => 0x120#10 ++ ea.modeBits ++ ea.regBits
  | .swap n => 0x0908#13 ++ n
  | .pea ea => 0x121#10 ++ ea.modeBits ++ ea.regBits
  | .extW n => 0x0910#13 ++ n
  | .extL n => 0x0918#13 ++ n
  | .movemStore sz _ ea => 0x091#9 ++ sz.isLong ++ ea.modeBits ++ ea.regBits
  | .tst sz ea => 0x4A#8 ++ sz.code ++ ea.modeBits ++ ea.regBits
  | .tas ea => 0x12B#10 ++ ea.modeBits ++ ea.regBits
  | .illegal w => w
  | .movemLoad sz _ ea => 0x099#9 ++ sz.isLong ++ ea.modeBits ++ ea.regBits
  | .trap v => 0x4E4#12 ++ v
  | .link n _ => 0x09CA#13 ++ n
  | .unlk n => 0x09CB#13 ++ n
  | .moveUsp toAn n => 0x4E6#12 ++ BitVec.ofBool toAn ++ n
  | .reset => 0x4E70#16
  | .nop => 0x4E71#16
  | .stop _ => 0x4E72#16
  | .rte => 0x4E73#16
  | .rts => 0x4E75#16
  | .trapv => 0x4E76#16
  | .rtr => 0x4E77#16
  | .jsr ea => 0x13A#10 ++ ea.modeBits ++ ea.regBits
  | .jmp ea => 0x13B#10 ++ ea.modeBits ++ ea.regBits
  | .addq sz q ea => 5#4 ++ q ++ 0#1 ++ sz.code ++ ea.modeBits ++ ea.regBits
  | .subq sz q ea => 5#4 ++ q ++ 1#1 ++ sz.code ++ ea.modeBits ++ ea.regBits
  | .dbcc cnd n _ => 5#4 ++ cnd.code ++ 0x19#5 ++ n
  | .scc cnd ea => 5#4 ++ cnd.code ++ 3#2 ++ ea.modeBits ++ ea.regBits
  | .bra disp => 0x60#8 ++ disp.byte
  | .bsr disp => 0x61#8 ++ disp.byte
  | .bcc cnd disp => 6#4 ++ cnd.code ++ disp.byte
  | .moveq n d => 7#4 ++ n ++ 0#1 ++ d
  | .divu ea n => 8#4 ++ n ++ 3#3 ++ ea.modeBits ++ ea.regBits
  | .divs ea n => 8#4 ++ n ++ 7#3 ++ ea.modeBits ++ ea.regBits
  | .sbcd mem y x => 8#4 ++ x ++ 0x10#5 ++ BitVec.ofBool mem ++ y
  | .orToDn sz ea n => 8#4 ++ n ++ 0#1 ++ sz.code ++ ea.modeBits ++ ea.regBits
  | .orToEa sz n ea => 8#4 ++ n ++ 1#1 ++ sz.code ++ ea.modeBits ++ ea.regBits
  | .subToDn sz ea n => 9#4 ++ n ++ 0#1 ++ sz.code ++ ea.modeBits ++ ea.regBits
  | .subToEa sz n ea => 9#4 ++ n ++ 1#1 ++ sz.code ++ ea.modeBits ++ ea.regBits
  | .suba sz ea n => 9#4 ++ n ++ sz.isLong ++ 3#2 ++ ea.modeBits ++ ea.regBits
  | .subx sz mem y x => 9#4 ++ x ++ 1#1 ++ sz.code ++ 0#2 ++ BitVec.ofBool mem ++ y
  | .addToDn sz ea n => 13#4 ++ n ++ 0#1 ++ sz.code ++ ea.modeBits ++ ea.regBits
  | .addToEa sz n ea => 13#4 ++ n ++ 1#1 ++ sz.code ++ ea.modeBits ++ ea.regBits
  | .adda sz ea n => 13#4 ++ n ++ sz.isLong ++ 3#2 ++ ea.modeBits ++ ea.regBits
  | .addx sz mem y x => 13#4 ++ x ++ 1#1 ++ sz.code ++ 0#2 ++ BitVec.ofBool mem ++ y
  | .lineA w => 0xA#4 ++ w
  | .cmp sz ea n => 11#4 ++ n ++ 0#1 ++ sz.code ++ ea.modeBits ++ ea.regBits
  | .cmpa sz ea n => 11#4 ++ n ++ sz.isLong ++ 3#2 ++ ea.modeBits ++ ea.regBits
  | .eor sz n ea => 11#4 ++ n ++ 1#1 ++ sz.code ++ ea.modeBits ++ ea.regBits
  | .cmpm sz y x => 11#4 ++ x ++ 1#1 ++ sz.code ++ 1#3 ++ y
  | .mulu ea n => 12#4 ++ n ++ 3#3 ++ ea.modeBits ++ ea.regBits
  | .muls ea n => 12#4 ++ n ++ 7#3 ++ ea.modeBits ++ ea.regBits
  | .abcd mem y x => 12#4 ++ x ++ 0x10#5 ++ BitVec.ofBool mem ++ y
  | .exgDD x y => 12#4 ++ x ++ 1#1 ++ 8#5 ++ y
  | .exgAA x y => 12#4 ++ x ++ 1#1 ++ 9#5 ++ y
  | .exgDA x y => 12#4 ++ x ++ 1#1 ++ 17#5 ++ y
  | .andToDn sz ea n => 12#4 ++ n ++ 0#1 ++ sz.code ++ ea.modeBits ++ ea.regBits
  | .andToEa sz n ea => 12#4 ++ n ++ 1#1 ++ sz.code ++ ea.modeBits ++ ea.regBits
  | .asrReg sz c y => 0xE#4 ++ c.field ++ 0#1 ++ sz.code ++ c.isReg ++ 0#2 ++ y
  | .aslReg sz c y => 0xE#4 ++ c.field ++ 1#1 ++ sz.code ++ c.isReg ++ 0#2 ++ y
  | .lsrReg sz c y => 0xE#4 ++ c.field ++ 0#1 ++ sz.code ++ c.isReg ++ 1#2 ++ y
  | .lslReg sz c y => 0xE#4 ++ c.field ++ 1#1 ++ sz.code ++ c.isReg ++ 1#2 ++ y
  | .roxrReg sz c y => 0xE#4 ++ c.field ++ 0#1 ++ sz.code ++ c.isReg ++ 2#2 ++ y
  | .roxlReg sz c y => 0xE#4 ++ c.field ++ 1#1 ++ sz.code ++ c.isReg ++ 2#2 ++ y
  | .rorReg sz c y => 0xE#4 ++ c.field ++ 0#1 ++ sz.code ++ c.isReg ++ 3#2 ++ y
  | .rolReg sz c y => 0xE#4 ++ c.field ++ 1#1 ++ sz.code ++ c.isReg ++ 3#2 ++ y
  | .asrMem ea => 0x383#10 ++ ea.modeBits ++ ea.regBits
  | .aslMem ea => 0x387#10 ++ ea.modeBits ++ ea.regBits
  | .lsrMem ea => 0x38B#10 ++ ea.modeBits ++ ea.regBits
  | .lslMem ea => 0x38F#10 ++ ea.modeBits ++ ea.regBits
  | .roxrMem ea => 0x393#10 ++ ea.modeBits ++ ea.regBits
  | .roxlMem ea => 0x397#10 ++ ea.modeBits ++ ea.regBits
  | .rorMem ea => 0x39B#10 ++ ea.modeBits ++ ea.regBits
  | .rolMem ea => 0x39F#10 ++ ea.modeBits ++ ea.regBits
  | .lineF w => 0xF#4 ++ w
  | _ => 0#16

/-- The extension words of an M68K instruction, in the order of 30 R185. -/
def ext68k : Instr → List Word
  | .oriToCcr imm => [imm]
  | .oriToSr imm => [imm]
  | .andiToCcr imm => [imm]
  | .andiToSr imm => [imm]
  | .eoriToCcr imm => [imm]
  | .eoriToSr imm => [imm]
  | .ori sz imm ea => immExt sz imm ++ ea.ext sz
  | .andi sz imm ea => immExt sz imm ++ ea.ext sz
  | .subi sz imm ea => immExt sz imm ++ ea.ext sz
  | .addi sz imm ea => immExt sz imm ++ ea.ext sz
  | .eori sz imm ea => immExt sz imm ++ ea.ext sz
  | .cmpi sz imm ea => immExt sz imm ++ ea.ext sz
  | .btstImm k ea => k :: ea.ext .b
  | .bchgImm k ea => k :: ea.ext .b
  | .bclrImm k ea => k :: ea.ext .b
  | .bsetImm k ea => k :: ea.ext .b
  | .btstReg _ ea => ea.ext .b
  | .bchgReg _ ea => ea.ext .b
  | .bclrReg _ ea => ea.ext .b
  | .bsetReg _ ea => ea.ext .b
  | .movepLoad _ _ _ d => [d]
  | .movepStore _ _ _ d => [d]
  | .moveB src dst => src.ext .b ++ dst.ext .b
  | .moveL src dst => src.ext .l ++ dst.ext .l
  | .moveW src dst => src.ext .w ++ dst.ext .w
  | .moveaL src _ => src.ext .l
  | .moveaW src _ => src.ext .w
  | .negx sz ea => ea.ext sz
  | .moveFromSr ea => ea.ext .w
  | .chk ea _ => ea.ext .w
  | .lea ea _ => ea.ext .l
  | .clr sz ea => ea.ext sz
  | .neg sz ea => ea.ext sz
  | .moveToCcr ea => ea.ext .w
  | .notOp sz ea => ea.ext sz
  | .moveToSr ea => ea.ext .w
  | .nbcd ea => ea.ext .b
  | .pea ea => ea.ext .l
  | .movemStore sz mask ea => mask :: ea.ext sz
  | .tst sz ea => ea.ext sz
  | .tas ea => ea.ext .b
  | .movemLoad sz mask ea => mask :: ea.ext sz
  | .link _ d => [d]
  | .stop imm => [imm]
  | .jsr ea => ea.ext .l
  | .jmp ea => ea.ext .l
  | .addq sz _ ea => ea.ext sz
  | .subq sz _ ea => ea.ext sz
  | .dbcc _ _ d => [d]
  | .scc _ ea => ea.ext .b
  | .bra disp => disp.ext
  | .bsr disp => disp.ext
  | .bcc _ disp => disp.ext
  | .divu ea _ => ea.ext .w
  | .divs ea _ => ea.ext .w
  | .orToDn sz ea _ => ea.ext sz
  | .orToEa sz _ ea => ea.ext sz
  | .subToDn sz ea _ => ea.ext sz
  | .subToEa sz _ ea => ea.ext sz
  | .suba sz ea _ => ea.ext sz
  | .addToDn sz ea _ => ea.ext sz
  | .addToEa sz _ ea => ea.ext sz
  | .adda sz ea _ => ea.ext sz
  | .cmp sz ea _ => ea.ext sz
  | .cmpa sz ea _ => ea.ext sz
  | .eor sz _ ea => ea.ext sz
  | .mulu ea _ => ea.ext .w
  | .muls ea _ => ea.ext .w
  | .andToDn sz ea _ => ea.ext sz
  | .andToEa sz _ ea => ea.ext sz
  | .asrMem ea => ea.ext .w
  | .aslMem ea => ea.ext .w
  | .lsrMem ea => ea.ext .w
  | .lslMem ea => ea.ext .w
  | .roxrMem ea => ea.ext .w
  | .roxlMem ea => ea.ext .w
  | .rorMem ea => ea.ext .w
  | .rolMem ea => ea.ext .w
  | _ => []

/-- The words of an M68K instruction. -/
def encode68k (i : Instr) : List Word := opword68k i :: ext68k i

/-- How many words the instruction with this operation word has (30 R185: the operation word tells). -/
def words68k (w : Word) : Nat := (encode68k (decode68k [w]).1).length

/-- The register field (30 R221). -/
def ZReg.code : ZReg → BitVec 3
  | .b => 0#3 | .c => 1#3 | .d => 2#3 | .e => 3#3 | .h => 4#3 | .l => 5#3 | .a => 7#3

/-- The operand field (30 R221). -/
def ZOp8.code : ZOp8 → BitVec 3
  | .reg r => r.code
  | .hl => 6#3

/-- The pair field (30 R222). -/
def ZPair.code : ZPair → BitVec 2
  | .bc => 0#2 | .de => 1#2 | .hl => 2#2 | .sp => 3#2

/-- The pair field of PUSH and POP (30 R222). -/
def ZPairQ.code : ZPairQ → BitVec 2
  | .bc => 0#2 | .de => 1#2 | .hl => 2#2 | .af => 3#2

/-- The pair field of ADD xx,pp (47 R588). -/
def ZPairX.code : ZPairX → BitVec 2
  | .bc => 0#2 | .de => 1#2 | .xx => 2#2 | .sp => 3#2

/-- The 1-bit pair field (30 R222). -/
def BcDe.code : BcDe → BitVec 1
  | .bc => 0#1 | .de => 1#1

/-- The condition field (30 R223). -/
def ZCond.code : ZCond → BitVec 3
  | .nz => 0#3 | .z => 1#3 | .nc => 2#3 | .c => 3#3 | .po => 4#3 | .pe => 5#3 | .p => 6#3 | .m => 7#3

/-- The condition field of JR (30 R223). -/
def ZJrCond.code : ZJrCond → BitVec 2
  | .nz => 0#2 | .z => 1#2 | .nc => 2#2 | .c => 3#2

/-- The prefix byte that selects an index register (30 R229). -/
def Idx.code : Idx → Byte
  | .ix => 0xDD#8
  | .iy => 0xFD#8

/-- The bytes of `nn`, low byte first (20 R121). -/
def leBytes (v : Word) : List Byte := [v.extractLsb' 0 8, v.extractLsb' 8 8]

/-- The bytes of a Z80 instruction (30 R220 to R231, and the encoding line of each rule of 46 to 48). -/
def encodeZ80 : Instr → List Byte
  | .zNop => [0x00#8]
  | .zLdPairImm p nn => (0#2 ++ p.code ++ 1#4 : Byte) :: (leBytes nn)
  | .zLdIndA p => [(0#3 ++ p.code ++ 2#4 : Byte)]
  | .zLdAInd p => [(0#3 ++ p.code ++ 10#4 : Byte)]
  | .zIncPair p => [(0#2 ++ p.code ++ 3#4 : Byte)]
  | .zDecPair p => [(0#2 ++ p.code ++ 11#4 : Byte)]
  | .zIncR o => [(0#2 ++ o.code ++ 4#3 : Byte)]
  | .zDecR o => [(0#2 ++ o.code ++ 5#3 : Byte)]
  | .zLdRImm r n => (0#2 ++ r.code ++ 6#3 : Byte) :: ([n])
  | .zLdHlImm n => 0x36#8 :: ([n])
  | .zRlca => [0x07#8]
  | .zExAf => [0x08#8]
  | .zAddHl p => [(0#2 ++ p.code ++ 9#4 : Byte)]
  | .zRrca => [0x0F#8]
  | .zDjnz e => 0x10#8 :: ([e])
  | .zRla => [0x17#8]
  | .zJr e => 0x18#8 :: ([e])
  | .zRra => [0x1F#8]
  | .zJrCc cnd e => (1#3 ++ cnd.code ++ 0#3 : Byte) :: ([e])
  | .zLdNnHl nn => 0x22#8 :: (leBytes nn)
  | .zDaa => [0x27#8]
  | .zLdHlNn nn => 0x2A#8 :: (leBytes nn)
  | .zCpl => [0x2F#8]
  | .zLdNnA nn => 0x32#8 :: (leBytes nn)
  | .zScf => [0x37#8]
  | .zLdANn nn => 0x3A#8 :: (leBytes nn)
  | .zCcf => [0x3F#8]
  | .zLdRR dst src => [(1#2 ++ dst.code ++ src.code : Byte)]
  | .zLdRHl r => [(1#2 ++ r.code ++ 6#3 : Byte)]
  | .zLdHlR r => [(14#5 ++ r.code : Byte)]
  | .zHalt => [0x76#8]
  | .zAddR o => [(16#5 ++ o.code : Byte)]
  | .zAdcR o => [(17#5 ++ o.code : Byte)]
  | .zSubR o => [(18#5 ++ o.code : Byte)]
  | .zSbcR o => [(19#5 ++ o.code : Byte)]
  | .zAndR o => [(20#5 ++ o.code : Byte)]
  | .zXorR o => [(21#5 ++ o.code : Byte)]
  | .zOrR o => [(22#5 ++ o.code : Byte)]
  | .zCpR o => [(23#5 ++ o.code : Byte)]
  | .zAddN n => 0xC6#8 :: ([n])
  | .zAdcN n => 0xCE#8 :: ([n])
  | .zSubN n => 0xD6#8 :: ([n])
  | .zSbcN n => 0xDE#8 :: ([n])
  | .zAndN n => 0xE6#8 :: ([n])
  | .zXorN n => 0xEE#8 :: ([n])
  | .zOrN n => 0xF6#8 :: ([n])
  | .zCpN n => 0xFE#8 :: ([n])
  | .zRetCc cnd => [(3#2 ++ cnd.code ++ 0#3 : Byte)]
  | .zPop q => [(3#2 ++ q.code ++ 1#4 : Byte)]
  | .zJpCc cnd nn => (3#2 ++ cnd.code ++ 2#3 : Byte) :: (leBytes nn)
  | .zJp nn => 0xC3#8 :: (leBytes nn)
  | .zCallCc cnd nn => (3#2 ++ cnd.code ++ 4#3 : Byte) :: (leBytes nn)
  | .zPush q => [(3#2 ++ q.code ++ 5#4 : Byte)]
  | .zRst t => [(3#2 ++ t ++ 7#3 : Byte)]
  | .zRet => [0xC9#8]
  | .zCbPrefix op => [0xCB#8, op]
  | .zCall nn => 0xCD#8 :: (leBytes nn)
  | .zOutNA n => 0xD3#8 :: ([n])
  | .zExx => [0xD9#8]
  | .zInAN n => 0xDB#8 :: ([n])
  | .zDdPrefix op => [0xDD#8, op]
  | .zExSpHl => [0xE3#8]
  | .zJpHl => [0xE9#8]
  | .zExDeHl => [0xEB#8]
  | .zEdPrefix op => [0xED#8, op]
  | .zDi => [0xF3#8]
  | .zLdSpHl => [0xF9#8]
  | .zEi => [0xFB#8]
  | .zFdPrefix op => [0xFD#8, op]
  | .zRlc o => 0xCB#8 :: [(0#5 ++ o.code : Byte)]
  | .zRrc o => 0xCB#8 :: [(1#5 ++ o.code : Byte)]
  | .zRl o => 0xCB#8 :: [(2#5 ++ o.code : Byte)]
  | .zRr o => 0xCB#8 :: [(3#5 ++ o.code : Byte)]
  | .zSla o => 0xCB#8 :: [(4#5 ++ o.code : Byte)]
  | .zSra o => 0xCB#8 :: [(5#5 ++ o.code : Byte)]
  | .zSrl o => 0xCB#8 :: [(7#5 ++ o.code : Byte)]
  | .zBit b o => 0xCB#8 :: [(1#2 ++ b ++ o.code : Byte)]
  | .zRes b o => 0xCB#8 :: [(2#2 ++ b ++ o.code : Byte)]
  | .zSet b o => 0xCB#8 :: [(3#2 ++ b ++ o.code : Byte)]
  | .zInRC r => 0xED#8 :: [(1#2 ++ r.code ++ 0#3 : Byte)]
  | .zOutCR r => 0xED#8 :: [(1#2 ++ r.code ++ 1#3 : Byte)]
  | .zSbcHl p => 0xED#8 :: [(1#2 ++ p.code ++ 2#4 : Byte)]
  | .zAdcHl p => 0xED#8 :: [(1#2 ++ p.code ++ 10#4 : Byte)]
  | .zLdNnPair p nn => 0xED#8 :: (1#2 ++ p.code ++ 3#4 : Byte) :: (leBytes nn)
  | .zLdPairNn p nn => 0xED#8 :: (1#2 ++ p.code ++ 11#4 : Byte) :: (leBytes nn)
  | .zNeg => 0xED#8 :: [0x44#8]
  | .zRetn => 0xED#8 :: [0x45#8]
  | .zReti => 0xED#8 :: [0x4D#8]
  | .zIm0 => 0xED#8 :: [0x46#8]
  | .zIm1 => 0xED#8 :: [0x56#8]
  | .zIm2 => 0xED#8 :: [0x5E#8]
  | .zLdIA => 0xED#8 :: [0x47#8]
  | .zLdRfA => 0xED#8 :: [0x4F#8]
  | .zLdAI => 0xED#8 :: [0x57#8]
  | .zLdARf => 0xED#8 :: [0x5F#8]
  | .zRrd => 0xED#8 :: [0x67#8]
  | .zRld => 0xED#8 :: [0x6F#8]
  | .zLdi => 0xED#8 :: [0xA0#8]
  | .zCpi => 0xED#8 :: [0xA1#8]
  | .zIni => 0xED#8 :: [0xA2#8]
  | .zOuti => 0xED#8 :: [0xA3#8]
  | .zLdd => 0xED#8 :: [0xA8#8]
  | .zCpd => 0xED#8 :: [0xA9#8]
  | .zInd => 0xED#8 :: [0xAA#8]
  | .zOutd => 0xED#8 :: [0xAB#8]
  | .zLdir => 0xED#8 :: [0xB0#8]
  | .zCpir => 0xED#8 :: [0xB1#8]
  | .zInir => 0xED#8 :: [0xB2#8]
  | .zOtir => 0xED#8 :: [0xB3#8]
  | .zLddr => 0xED#8 :: [0xB8#8]
  | .zCpdr => 0xED#8 :: [0xB9#8]
  | .zIndr => 0xED#8 :: [0xBA#8]
  | .zOtdr => 0xED#8 :: [0xBB#8]
  | .zAddXx x p => x.code :: [(0#2 ++ p.code ++ 9#4 : Byte)]
  | .zLdXxImm x nn => x.code :: 0x21#8 :: (leBytes nn)
  | .zLdNnXx x nn => x.code :: 0x22#8 :: (leBytes nn)
  | .zIncXx x => x.code :: [0x23#8]
  | .zLdXxNn x nn => x.code :: 0x2A#8 :: (leBytes nn)
  | .zDecXx x => x.code :: [0x2B#8]
  | .zIncXd x d => x.code :: 0x34#8 :: ([d])
  | .zDecXd x d => x.code :: 0x35#8 :: ([d])
  | .zLdXdImm x d n => x.code :: 0x36#8 :: ([d] ++ [n])
  | .zLdRXd x r d => x.code :: (1#2 ++ r.code ++ 6#3 : Byte) :: ([d])
  | .zLdXdR x r d => x.code :: (14#5 ++ r.code : Byte) :: ([d])
  | .zAddXd x d => x.code :: 0x86#8 :: ([d])
  | .zAdcXd x d => x.code :: 0x8E#8 :: ([d])
  | .zSubXd x d => x.code :: 0x96#8 :: ([d])
  | .zSbcXd x d => x.code :: 0x9E#8 :: ([d])
  | .zAndXd x d => x.code :: 0xA6#8 :: ([d])
  | .zXorXd x d => x.code :: 0xAE#8 :: ([d])
  | .zOrXd x d => x.code :: 0xB6#8 :: ([d])
  | .zCpXd x d => x.code :: 0xBE#8 :: ([d])
  | .zPopXx x => x.code :: [0xE1#8]
  | .zExSpXx x => x.code :: [0xE3#8]
  | .zPushXx x => x.code :: [0xE5#8]
  | .zJpXx x => x.code :: [0xE9#8]
  | .zLdSpXx x => x.code :: [0xF9#8]
  | .zDdcbPrefix x d op => [x.code, 0xCB#8, d, op]
  | .zRlcXd x d => x.code :: 0xCB#8 :: d :: [0x06#8]
  | .zRrcXd x d => x.code :: 0xCB#8 :: d :: [0x0E#8]
  | .zRlXd x d => x.code :: 0xCB#8 :: d :: [0x16#8]
  | .zRrXd x d => x.code :: 0xCB#8 :: d :: [0x1E#8]
  | .zSlaXd x d => x.code :: 0xCB#8 :: d :: [0x26#8]
  | .zSraXd x d => x.code :: 0xCB#8 :: d :: [0x2E#8]
  | .zSrlXd x d => x.code :: 0xCB#8 :: d :: [0x3E#8]
  | .zBitXd x d b => x.code :: 0xCB#8 :: d :: [(1#2 ++ b ++ 6#3 : Byte)]
  | .zResXd x d b => x.code :: 0xCB#8 :: d :: [(2#2 ++ b ++ 6#3 : Byte)]
  | .zSetXd x d b => x.code :: 0xCB#8 :: d :: [(3#2 ++ b ++ 6#3 : Byte)]
  | _ => []

/-- How many bytes the instruction that begins with these bytes has (30 R232: known after the opcode byte). -/
def bytesZ80 (bs : List Byte) : Nat := (encodeZ80 (decodeZ80 bs).1).length

/-- Instructions of the M68K table; the others are the Z80's. -/
def Instr.is68k (i : Instr) : Bool := (encodeZ80 i).isEmpty

/-- The bytes of an instruction as its processor's memory holds them (20 R120, R121). -/
def encode (i : Instr) : List Byte :=
  if i.is68k then (encode68k i).flatMap fun w => [w.extractLsb' 8 8, w.extractLsb' 0 8] else encodeZ80 i

end Sys2Proof
end

