-- ==== Sys2Proof/Machine/Cost.lean ====
section
/-! DEFINITION. What the cycles of an instruction depend on (70 R820): its tag, its operand size and its operand modes. -/

namespace Sys2Proof

/-- The operands an M68K instruction resolves. -/
def Instr.operands : Instr → List Ea
  | .ori _ _ ea | .andi _ _ ea | .subi _ _ ea | .addi _ _ ea | .eori _ _ ea | .cmpi _ _ ea => [ea]
  | .btstImm _ ea | .bchgImm _ ea | .bclrImm _ ea | .bsetImm _ ea => [ea]
  | .btstReg _ ea | .bchgReg _ ea | .bclrReg _ ea | .bsetReg _ ea => [ea]
  | .moveB src dst | .moveL src dst | .moveW src dst => [src, dst]
  | .moveaL src _ | .moveaW src _ => [src]
  | .negx _ ea | .clr _ ea | .neg _ ea | .notOp _ ea | .tst _ ea => [ea]
  | .moveFromSr ea | .moveToCcr ea | .moveToSr ea | .tas ea | .pea ea | .jsr ea | .jmp ea => [ea]
  | .chk ea _ | .lea ea _ | .divu ea _ | .divs ea _ | .mulu ea _ | .muls ea _ => [ea]
  | .movemStore _ _ ea | .movemLoad _ _ ea => [ea]
  | .addq _ _ ea | .subq _ _ ea | .scc _ ea => [ea]
  | .orToDn _ ea _ | .subToDn _ ea _ | .addToDn _ ea _ | .andToDn _ ea _ | .cmp _ ea _ => [ea]
  | .suba _ ea _ | .adda _ ea _ | .cmpa _ ea _ => [ea]
  | .orToEa _ _ ea | .subToEa _ _ ea | .addToEa _ _ ea | .andToEa _ _ ea | .eor _ _ ea => [ea]
  | .subx _ true y x | .addx _ true y x => [.pre y, .pre x]
  | .cmpm _ y x => [.post y, .post x]
  | .asrMem ea | .aslMem ea | .lsrMem ea | .lslMem ea | .roxrMem ea | .roxlMem ea | .rorMem ea | .rolMem ea => [ea]
  | _ => []

/-- The operand size of an M68K instruction whose tag does not fix it (30 R190). -/
def Instr.size68k : Instr → Option Size
  | .ori sz _ _ | .andi sz _ _ | .subi sz _ _ | .addi sz _ _ | .eori sz _ _ | .cmpi sz _ _ => some sz
  | .movepLoad sz _ _ _ | .movepStore sz _ _ _ | .movemStore sz _ _ | .movemLoad sz _ _ => some sz
  | .negx sz _ | .clr sz _ | .neg sz _ | .notOp sz _ | .tst sz _ => some sz
  | .addq sz _ _ | .subq sz _ _ => some sz
  | .orToDn sz _ _ | .subToDn sz _ _ | .addToDn sz _ _ | .andToDn sz _ _ | .cmp sz _ _ => some sz
  | .orToEa sz _ _ | .subToEa sz _ _ | .addToEa sz _ _ | .andToEa sz _ _ | .eor sz _ _ => some sz
  | .suba sz _ _ | .adda sz _ _ | .cmpa sz _ _ | .cmpm sz _ _ => some sz
  | .subx sz _ _ _ | .addx sz _ _ _ => some sz
  | .asrReg sz _ _ | .aslReg sz _ _ | .lsrReg sz _ _ | .lslReg sz _ _ => some sz
  | .roxrReg sz _ _ | .roxlReg sz _ _ | .rorReg sz _ _ | .rolReg sz _ _ => some sz
  | _ => none

/-- The tag of an M68K instruction (30 R180). -/
def Instr.tag68k (i : Instr) : Tag68k := Sys2Proof.tag68k (opword68k i)

/-- What the cycles of an M68K instruction depend on, with the run-time quantities its rule names (70 R820). -/
def Instr.cost68k (i : Instr) (data : List Nat) : Cost68k := .instr i.tag68k i.size68k (i.operands.map Ea.kind) data

/-- The tag of the instruction that Z80 bytes hold, on the page its prefixes select (30 R226). -/
def tagOfBytes (bs : List Byte) : TagZ80 :=
  let b0 := byteAt bs 0
  let b1 := byteAt bs 1
  if b0 = 0xCB#8 then (tagZ80 pageCb b1).getD .zCbPrefix
  else if b0 = 0xED#8 then (tagZ80 pageEd b1).getD .zEdPrefix
  else if b0 = 0xDD#8 ∨ b0 = 0xFD#8 then
    if b1 = 0xCB#8 then (tagZ80 pageXxcb (byteAt bs 3)).getD .zDdcbPrefix
    else (tagZ80 pageXx b1).getD (if b0 = 0xDD#8 then .zDdPrefix else .zFdPrefix)
  else (tagZ80 pageBase b0).getD .zNop

/-- The operand field of a Z80 instruction names (HL), not a register (30 R221). -/
def Instr.atHl : Instr → Bool
  | .zIncR o | .zDecR o => o = .hl
  | .zAddR o | .zAdcR o | .zSubR o | .zSbcR o | .zAndR o | .zXorR o | .zOrR o | .zCpR o => o = .hl
  | .zRlc o | .zRrc o | .zRl o | .zRr o | .zSla o | .zSra o | .zSrl o => o = .hl
  | .zBit _ o | .zRes _ o | .zSet _ o => o = .hl
  | _ => false

/-- What the cycles of a Z80 instruction depend on, with the run-time quantities its rule names (70 R820). -/
def Instr.costZ80 (i : Instr) (data : List Nat) : CostZ80 := .instr (tagOfBytes (encodeZ80 i)) i.atHl data

end Sys2Proof
end

