-- ==== Sys2Proof/Machine/Map.lean ====
section
/-! DEFINITION. The address map as plain data (20 R133): `PlatformMap`, a launch parameter, and its default table. -/

namespace Sys2Proof.Machine

/-- What a row of the M68K view holds (20 R133). -/
inductive Region68k
  | rom
  | wram
  | zram
  | device
  deriving DecidableEq, Repr

/-- What a row of the Z80 view holds (20 R133). -/
inductive RegionZ80
  | zram
  | device
  | bank
  | window
  deriving DecidableEq, Repr

/-- A row of a view: its first and last address, what it holds, whether the view's processor reaches it itself (20 R130), and
which byte of what it holds stands at its first address. -/
structure MapRow (κ : Type) where
  first : Nat
  last : Nat
  holds : κ
  own : Bool
  start : Nat := 0
  deriving DecidableEq, Repr

/-- The row has the address. -/
def MapRow.has {κ : Type} (r : MapRow κ) (k : Nat) : Bool := decide (r.first ≤ k) && decide (k ≤ r.last)

/-- `PlatformMap` (20 R133, 00 R13): the rows of both views but for the two control registers, which stand at addresses of
their own (60 R750, R752); the offsets of the last bytes of WRAM and ZRAM, which give their sizes (10 R82); and whether Z80
reaches its ports itself. An address in no row is unmapped. Log 8. -/
structure PlatformMap where
  m68k : List (MapRow Region68k)
  z80 : List (MapRow RegionZ80)
  wramLast : Fin 0x1000000
  zramLast : Fin 0x5F0000
  ownPorts : Bool
  deriving DecidableEq, Repr

/-- The size of WRAM in bytes (10 R82). -/
def PlatformMap.wramSize (m : PlatformMap) : Nat := m.wramLast.val + 1

/-- The size of ZRAM in bytes (10 R82, 20 R135). -/
def PlatformMap.zramSize (m : PlatformMap) : Nat := m.zramLast.val + 1

/-- The default M68K view (20 R133). -/
def rows68k : List (MapRow Region68k) := [
  { first := 0x000000, last := 0x3FFFFF, holds := .rom, own := true },
  { first := 0x400000, last := 0x9FFFFF, holds := .device, own := false },
  { first := 0xA00000, last := 0xA01FFF, holds := .zram, own := false },
  { first := 0xA02000, last := 0xA03FFF, holds := .zram, own := false },
  { first := 0xA04000, last := 0xA0FFFF, holds := .device, own := false },
  { first := 0xA10000, last := 0xA1001F, holds := .device, own := false },
  { first := 0xA14000, last := 0xA14003, holds := .device, own := false },
  { first := 0xC00000, last := 0xC0001F, holds := .device, own := false },
  { first := 0xE00000, last := 0xFFFFFF, holds := .wram, own := true }]

/-- The default Z80 view (20 R133). -/
def rowsZ80 : List (MapRow RegionZ80) := [
  { first := 0x0000, last := 0x1FFF, holds := .zram, own := true },
  { first := 0x2000, last := 0x3FFF, holds := .zram, own := true },
  { first := 0x4000, last := 0x5FFF, holds := .device, own := false },
  { first := 0x6000, last := 0x60FF, holds := .bank, own := false },
  { first := 0x7F00, last := 0x7F1F, holds := .device, own := false },
  { first := 0x8000, last := 0xFFFF, holds := .window, own := false }]

/-- The default map (20 R133), with WRAM of 64 KiB and ZRAM of 8 KiB (10 R82). -/
def PlatformMap.default : PlatformMap :=
  { m68k := rows68k, z80 := rowsZ80, wramLast := 0xFFFF, zramLast := 0x1FFF, ownPorts := false }

/-- The default of `BusReqAddr` (60 R750). -/
def defaultBusReqAddr : Addr24 := 0xA11100#24

/-- The default of `Z80ResetAddr` (60 R752). -/
def defaultZ80ResetAddr : Addr24 := 0xA11200#24

end Sys2Proof.Machine
end

