-- ==== Sys2Proof/Machine/Memory.lean ====
section
/-! DEFINITION. Byte memory as plain data: one canonical list of cells (10 R82). -/

namespace Sys2Proof.Machine

/-- The block's memories: cells with rising keys and no byte that an unlisted key reads as. -/
abbrev Memory := List Host.Cell

/-- What an unlisted byte reads as: the contents that power-on leaves open (10 R92), DESIGN CHOICE 0: log 3. -/
def Memory.unlisted : Byte := 0#8

/-- The byte at a key. -/
def Memory.read (m : Memory) (k : Nat) : Byte :=
  match m with
  | [] => Memory.unlisted
  | c :: r => if c.1 = k then c.2 else if k < c.1 then Memory.unlisted else Memory.read r k

/-- The memory with one byte changed, in canonical form. -/
def Memory.write (m : Memory) (k : Nat) (v : Byte) : Memory :=
  match m with
  | [] => if v = Memory.unlisted then [] else [(k, v)]
  | c :: r =>
    if c.1 = k then (if v = Memory.unlisted then r else (k, v) :: r)
    else if k < c.1 then (if v = Memory.unlisted then c :: r else (k, v) :: c :: r)
    else c :: Memory.write r k v

/-- The canonical form: keys strictly rising, no byte listed that an unlisted key reads as. -/
abbrev Memory.wf (m : Memory) : Prop :=
  m.Pairwise (fun c e => c.1 < e.1) ∧ ∀ c ∈ m, c.2 ≠ Memory.unlisted

/-- The memory with a run of bytes changed, the first at the key. -/
def Memory.writeList (m : Memory) (k : Nat) (bs : List Byte) : Memory :=
  match bs with
  | [] => m
  | b :: r => Memory.writeList (m.write k b) (k + 1) r

end Sys2Proof.Machine
end

