-- ==== Sys2Proof/Machine/State.lean ====
section
/-! DEFINITION. The state of the block as plain data (spec/10_state.md), its faults and refusals, and reset. -/

namespace Sys2Proof.Machine

/-- Why the machine stops with a fault (00 R17). Every constructor is safe: it stops where the spec stops. -/
inductive Fault
  /-- 20 R124: raised by a word or long M68K access at an odd address under the policy `fault`. Safe. -/
  | misalignedData
  /-- 20 R133, 60 R750, R752: raised by an access with a byte in no row of the map. Safe. -/
  | unmapped
  /-- 20 R136: raised for an M68K access to ZRAM without a grant. Safe. -/
  | zramContention
  /-- 20 R136: raised for an M68K word or long access to ZRAM. Safe. -/
  | zramWidth
  /-- 20 R137: raised for a bank-window access that lands in the Z80's own rows. Safe. -/
  | bankLoop
  /-- 20 R151, R154: raised by an issue while a transaction is pending. Safe. -/
  | protocolSecondAccess
  /-- 20 R159: raised by a write of a level above 7 to the M68K slot. Safe. -/
  | badIntLevel
  /-- 40 R279: raised where the resolver is asked for an address by an operand that has none, which no row has. Safe. -/
  | unknownEaMode
  deriving DecidableEq, Repr, Inhabited

/-- Why an instruction has no meaning (00 R17). Every constructor is safe: it stops where the spec refuses. -/
inductive Refusal
  /-- An arm of `exec` that has no meaning yet. Safe. -/
  | notModelled (mnemonic : String)
  /-- 30 R196: raised by ABCD, SBCD, NBCD and DAA. Safe. -/
  | unimplementedBcd
  /-- 30 R236: raised by a Z80 byte sequence that no row matches. Safe. -/
  | undocumentedZ80
  /-- 30 R226: raised by DD or FD before DD, FD or ED. Safe. -/
  | prefixChain
  /-- 30 R188: raised by an index extension word with bits 10:8 nonzero. Safe. -/
  | indexExtension
  /-- 42 R342, R343: raised by LINK A7 and UNLK A7. Safe. -/
  | linkA7
  /-- 60 R716: raised by an M68K boundary with T = 1. Safe. -/
  | trace
  /-- 20 R143: raised by a store into the four bytes after the storing M68K instruction. Safe. -/
  | selfModifyPrefetch
  /-- 60 R741: raised by Z80 interrupt acceptance in mode 0 or 2. Safe. -/
  | interruptMode
  deriving DecidableEq, Repr, Inhabited

/-- Why M68K is halted (10 R48). -/
inductive HaltReason | crashed | oddPc
  deriving DecidableEq, Repr, Inhabited

/-- The M68K run state (10 R48). -/
inductive Run68k
  | running
  | stopped
  | halted (reason : HaltReason)
  deriving DecidableEq, Repr, Inhabited

/-- The Z80 run state (10 R72). -/
inductive RunZ80 | running | failed
  deriving DecidableEq, Repr, Inhabited

/-- The Z80 interrupt mode (10 R68). -/
inductive IntMode | im0 | im1 | im2
  deriving DecidableEq, Repr, Inhabited

/-- SR (10 R45): trace, supervisor, mask, and the flags X N Z V C; its other bits are hardwired zero and need no place. -/
structure Sr where
  t : Bool
  s : Bool
  i : BitVec 3
  x : Bool
  n : Bool
  z : Bool
  v : Bool
  c : Bool
  deriving DecidableEq, Repr

/-- F (10 R66): SF ZF YF HF XF PF NF CF, bits 7 to 0. -/
structure FReg where
  s : Bool
  z : Bool
  y : Bool
  h : Bool
  x : Bool
  p : Bool
  n : Bool
  c : Bool
  deriving DecidableEq, Repr

/-- F with every bit 0. -/
def FReg.zero : FReg :=
  { s := false, z := false, y := false, h := false, x := false, p := false, n := false, c := false }

/-- The M68K register file and its private state (10 R40 to R49). `draws` counts the free values drawn (log 7). -/
structure M68k where
  d : Vector Long 8
  a : Vector Long 8
  osp : Long
  pc : Long
  sr : Sr
  run : Run68k
  cyc : Nat
  draws : Nat
  deriving DecidableEq, Repr

/-- The Z80 register file and its private state (10 R60 to R73). `draws` counts the free values drawn (log 7). -/
structure Z80 where
  a : Byte
  f : FReg
  b : Byte
  c : Byte
  d : Byte
  e : Byte
  h : Byte
  l : Byte
  a' : Byte
  f' : FReg
  b' : Byte
  c' : Byte
  d' : Byte
  e' : Byte
  h' : Byte
  l' : Byte
  ix : Word
  iy : Word
  sp : Word
  pc : Word
  i : Byte
  r : Byte
  iff1 : Bool
  iff2 : Bool
  im : IntMode
  cooldown : Bool
  halted : Bool
  dcache : Option Byte
  run : RunZ80
  cyc : Nat
  draws : Nat
  deriving DecidableEq, Repr

/-- The operation slot of a mailbox (10 R80); codes 0 to 4 in this order (20 R150). -/
inductive MbOp | none | memRead | memWrite | portRead | portWrite
  deriving DecidableEq, Repr, Inhabited

/-- A mailbox (10 R80, 20 R150) with addresses of `w` bits. `rmw` marks the one transaction of a TAS (20 R128): log 5. -/
structure Mailbox (w : Nat) where
  op : MbOp
  value : Long
  addr : BitVec w
  len : Size
  intLevel : Nat
  rmw : Bool
  deriving DecidableEq, Repr

/-- What OWNER holds (10 R80, R81). `draws` counts the free bytes drawn by memory and by the oracle (log 7). -/
structure Bus where
  mb68k : Mailbox 24
  mbZ80 : Mailbox 16
  busReq : Bool
  busAck : Bool
  z80ResetHeld : Bool
  z80ResetPulse : Bool
  bank : BitVec 9
  draws : Nat
  deriving DecidableEq, Repr

/-- What a waiting M68K was doing (10 R50): fetching, executing an instruction, or accepting an interrupt. -/
inductive Act68k
  | fetch
  | exec (i : Instr)
  | irq (level : Nat)
  deriving DecidableEq, Repr

/-- `Waiting(k)` of M68K as data (10 R50): what it was doing, the registers it began with, and the answers of the accesses
it has already made: log 4. -/
structure Wait68k where
  act : Act68k
  snap : M68k
  log : List Long
  deriving DecidableEq, Repr

/-- What a waiting Z80 was doing (10 R73). -/
inductive ActZ80
  | fetch
  | exec (i : Instr)
  | irq
  deriving DecidableEq, Repr

/-- `Waiting(k)` of Z80 as data (10 R73): log 4. -/
structure WaitZ80 where
  act : ActZ80
  snap : Z80
  log : List Long
  deriving DecidableEq, Repr

/-- `IllegalPolicy` (60 R714). -/
inductive IllegalPolicy | crash | ignore | trap
  deriving DecidableEq, Repr, Inhabited

/-- `MisalignedData68k` (20 R124). -/
inductive MisalignedData | fault | split
  deriving DecidableEq, Repr, Inhabited

/-- The launch parameters a step reads (10 R84, 00 R13), fixed for a run. -/
structure Launch where
  /-- the length of the ROM image in bytes, at most 0x400000 (20 R134) -/
  romLen : Fin 0x400001
  policy : IllegalPolicy
  misaligned : MisalignedData
  /-- `PlatformMap` (20 R133) -/
  map : PlatformMap
  /-- `BusReqAddr` (60 R750) -/
  busReqAddr : Addr24
  /-- `Z80ResetAddr` (60 R752) -/
  z80ResetAddr : Addr24
  deriving DecidableEq, Repr

/-- The agents (00 R10). -/
inductive Agent | m68k | z80 | owner
  deriving DecidableEq, Repr, Inhabited

/-- What sets the faulted mark (10 R83). -/
inductive FaultReason
  | fault (f : Fault)
  | halt (r : HaltReason)
  deriving DecidableEq, Repr, Inhabited

/-- The recorded events: writes that change no state of the block (20 R131, R132, 60 R750, R752), RESET (45 R484) and
RETI (48 R641). -/
inductive Event
  | write68k (addr : Addr24) (len : Size) (value : Long)
  | writeZ80 (addr : Word) (value : Byte)
  | portWrite (port : Word) (value : Byte)
  | resetDevices
  | reti
  deriving DecidableEq, Repr

/-- The state of the block (spec/10_state.md). `schedule`, `turns` and `fairDue` say which agent moves next (20 R140, R157):
the turns listed; whether a turn that fairness owes comes after them; and the number of such turns so far: log 2. -/
structure State where
  m68k : M68k
  z80 : Z80
  wait68k : Option Wait68k
  waitZ80 : Option WaitZ80
  bus : Bus
  mem : Memory
  launch : Launch
  refusedMarks : List (Agent × Refusal)
  faultedMarks : List (Agent × FaultReason)
  events : List Event
  schedule : List Turn
  turns : Nat
  fairDue : Bool
  deriving DecidableEq, Repr

/-- The Z80 state of 10 R91, its unwritten registers 0 and `dcache`, which the table of R91 leaves out, `Empty` (log 1). `cyc`
and `draws` are the counters a reset keeps. -/
def Z80.reset (cyc draws : Nat) : Z80 :=
  { a := 0, f := FReg.zero, b := 0, c := 0, d := 0, e := 0, h := 0, l := 0,
    a' := 0, f' := FReg.zero, b' := 0, c' := 0, d' := 0, e' := 0, h' := 0, l' := 0,
    ix := 0, iy := 0, sp := 0, pc := 0, i := 0, r := 0, iff1 := false, iff2 := false, im := .im0,
    cooldown := false, halted := false, dcache := none, run := .running, cyc := cyc, draws := draws }

/-- An empty mailbox (10 R92), its unwritten slots 0 and 1 byte (log 1). -/
def Mailbox.empty (w : Nat) : Mailbox w :=
  { op := .none, value := 0, addr := 0, len := .b, intLevel := 0, rmw := false }

/-- The bus protocol state at power-on (10 R92), `bank` 0 (log 1). -/
def Bus.powerOn : Bus :=
  { mb68k := Mailbox.empty 24, mbZ80 := Mailbox.empty 16, busReq := false, busAck := false,
    z80ResetHeld := true, z80ResetPulse := false, bank := 0, draws := 0 }

/-- A byte of the ROM image at power-on: a free value past the end of the image (20 R132, 70 R801). -/
def romByte (launch : Launch) (image : Memory) (k : Nat) : Byte :=
  if k < launch.romLen then image.read k else Config.drawBus k

/-- A vector read from the ROM image at power-on, the first byte highest (20 R120, 70 R800). -/
def romLong (launch : Launch) (image : Memory) (k : Nat) : Long :=
  romByte launch image k ++ romByte launch image (k + 1) ++ romByte launch image (k + 2) ++ romByte launch image (k + 3)

/-- SR after reset (10 R90): 0x2700, its unwritten flags 0 (log 1). -/
def Sr.reset : Sr := { t := false, s := true, i := 7#3, x := false, n := false, z := false, v := false, c := false }

/-- The M68K state of `startM68K` (70 R800), its unwritten registers and flags 0 (log 1). -/
def M68k.powerOn (launch : Launch) (image : Memory) : M68k :=
  { d := Vector.replicate 8 0, a := (Vector.replicate 8 0).set 7 (romLong launch image 0), osp := 0,
    pc := romLong launch image 4, sr := Sr.reset, run := .running, cyc := 0, draws := 0 }

/-- Power-on (70 R804): the bus protocol, the Z80 held in reset, then M68K from the vectors of the image. `image` holds
`Rom` and `InitRam`; the free bytes 0 to 7 of the oracle's stream are set aside for vector bytes the image lacks. -/
def State.powerOn (launch : Launch) (image : Memory) (schedule : List Turn) : State :=
  { m68k := M68k.powerOn launch image, z80 := Z80.reset 0 0, wait68k := none, waitZ80 := none,
    bus := { Bus.powerOn with draws := 8 }, mem := image, launch := launch,
    refusedMarks := [], faultedMarks := [], events := [], schedule := schedule, turns := 0, fairDue := false }

/-- The launch of `State.reset`: a full-length ROM row, policy `trap` (log 6), and the spec's defaults (00 R13). -/
def Launch.default : Launch :=
  { romLen := 0x400000, policy := .trap, misaligned := .fault, map := PlatformMap.default,
    busReqAddr := defaultBusReqAddr, z80ResetAddr := defaultZ80ResetAddr }

/-- The machine right after reset (70 R804) with nothing loaded: log 3. -/
def State.reset : State := State.powerOn Launch.default [] []

end Sys2Proof.Machine
end

