-- ==== Sys2Proof/Machine/Ops.lean ====
section
/-! DEFINITION. The named operations over registers and memory: the map, one access, the mailbox, free values, taking
an M68K exception and returning from one, and the frame in which an instruction runs. -/

namespace Sys2Proof.Machine

/-! ### The monad of an instruction -/

/-- Why an instruction ends before its last line: it waits for OWNER (20 R151), an exception or a halt ended it (60 R703),
or it has no meaning. -/
inductive Stop
  | wait
  | ended
  | fault (f : Fault)
  | refused (r : Refusal)
  deriving DecidableEq, Repr

/-- The state of a running instruction: the machine, the answers of accesses it has already made before it last waited,
and the answers taken so far (log 4). `irq` marks interrupt entry, which is no storing instruction (20 R143, log 12). -/
structure Ctx where
  st : State
  todo : List Long
  done : List Long
  irq : Bool
  deriving DecidableEq, Repr

/-- An operation of an instruction. -/
abbrev Op := EStateM Stop Ctx

/-- Leave the instruction. -/
def Op.stop {α : Type} (e : Stop) : Op α := fun c => .error e c

/-- The machine state. -/
def Op.state : Op State := fun c => .ok c.st c

/-- Change the machine state. -/
def Op.modify (f : State → State) : Op Unit := fun c => .ok () { c with st := f c.st }

/-- The M68K registers. -/
def m68kRegs : Op M68k := fun c => .ok c.st.m68k c

/-- The state with M68K's registers changed. -/
def State.mapM68k (s : State) (f : M68k → M68k) : State := { s with m68k := f s.m68k }

/-- The state with Z80's registers changed. -/
def State.mapZ80 (s : State) (f : Z80 → Z80) : State := { s with z80 := f s.z80 }

/-- The state with OWNER's part changed. -/
def State.mapBus (s : State) (f : Bus → Bus) : State := { s with bus := f s.bus }

/-- Change M68K's registers. -/
def setM68k (f : M68k → M68k) : Op Unit := Op.modify (·.mapM68k f)

/-- The Z80 registers. -/
def z80Regs : Op Z80 := fun c => .ok c.st.z80 c

/-- Change Z80's registers. -/
def setZ80 (f : Z80 → Z80) : Op Unit := Op.modify (·.mapZ80 f)

/-- Record an event, the newest first (20 R131). -/
def State.record (s : State) (e : Event) : State := { s with events := e :: s.events }

/-- A free bit of M68K (00 R17): log 7. -/
def draw68k : Op Bool := fun c =>
  .ok ((Config.draw68k c.st.m68k.draws).getLsbD 0) { c with st := c.st.mapM68k fun m => { m with draws := m.draws + 1 } }

/-- A free byte of Z80 (00 R17): log 7. -/
def drawZ80 : Op Byte := fun c =>
  .ok ((Config.drawZ80 c.st.z80.draws).setWidth 8) { c with st := c.st.mapZ80 fun z => { z with draws := z.draws + 1 } }

/-! ### The address map (20 R133) -/

/-- What stands at a byte address. The device rows of 20 R131 are one place; the bus-request and reset registers tell
their first byte. -/
inductive Place
  | rom (off : Nat)
  | wram (off : Nat)
  | zram (off : Nat)
  | busReq (first : Bool)
  | z80Reset (first : Bool)
  | device
  deriving DecidableEq, Repr

/-- The offset of an address in what its row holds (20 R133). -/
def MapRow.offset {κ : Type} (r : MapRow κ) (k : Nat) : Nat := r.start + (k - r.first)

/-- What a row of the M68K view has at an address, the RAMs mirrored (20 R133). -/
def MapRow.place68k (r : MapRow Region68k) (m : PlatformMap) (k : Nat) : Place :=
  match r.holds with
  | .rom => .rom (r.offset k)
  | .wram => .wram (r.offset k % m.wramSize)
  | .zram => .zram (r.offset k % m.zramSize)
  | .device => .device

/-- The row of the M68K view that has an address, the first such row (20 R133). -/
def Launch.row68k (l : Launch) (a : Addr24) : Option (MapRow Region68k) := l.map.m68k.find? fun r => r.has a.toNat

/-- What stands at an address of the M68K view (20 R133): a byte of a control register (60 R750, R752), or what its row has;
`none` is an address in no row. -/
def place68k (l : Launch) (a : Addr24) : Option Place :=
  if a = l.busReqAddr then some (.busReq true)
  else if a = l.busReqAddr + 1#24 then some (.busReq false)
  else if a = l.z80ResetAddr then some (.z80Reset true)
  else if a = l.z80ResetAddr + 1#24 then some (.z80Reset false)
  else (l.row68k a).map fun r => r.place68k l.map a.toNat

/-- A byte of the bus-request or the reset register, which OWNER serves (60 R750, R752). -/
def Place.isControl : Place → Bool
  | .busReq _ | .z80Reset _ => true
  | _ => false

/-- M68K reaches the address itself (20 R130): the map marks its row so; the control registers are OWNER's (60 R750, R752). -/
def Launch.local68k (l : Launch) (a : Addr24) : Bool :=
  !(place68k l a).any Place.isControl && (l.row68k a).any MapRow.own

/-- What stands at a Z80 memory address (20 R133). -/
inductive PlaceZ80
  | zram (off : Nat)
  | bank
  | device
  | window
  deriving DecidableEq, Repr

/-- What a row of the Z80 view has at an address, ZRAM mirrored (20 R133, R135). -/
def MapRow.placeZ80 (r : MapRow RegionZ80) (m : PlatformMap) (k : Nat) : PlaceZ80 :=
  match r.holds with
  | .zram => .zram (r.offset k % m.zramSize)
  | .device => .device
  | .bank => .bank
  | .window => .window

/-- The row of the Z80 view that has an address, the first such row (20 R133). -/
def Launch.rowZ80 (l : Launch) (a : Word) : Option (MapRow RegionZ80) := l.map.z80.find? fun r => r.has a.toNat

/-- What stands at an address of the Z80 view (20 R133); `none` is an address in no row. -/
def placeZ80 (l : Launch) (a : Word) : Option PlaceZ80 := (l.rowZ80 a).map fun r => r.placeZ80 l.map a.toNat

/-- Z80 reaches the address itself (20 R130): the map marks its row so; the bank register is OWNER's (10 R81, 20 R145). -/
def Launch.localZ80 (l : Launch) (a : Word) : Bool := (l.rowZ80 a).any fun r => r.own && decide (r.holds ≠ .bank)

/-- The key of a WRAM byte. -/
def wramKey (off : Nat) : Nat := 0xFF0000 + off

/-- The key of a ZRAM byte. -/
def zramKey (off : Nat) : Nat := 0xA00000 + off

/-- The byte addresses of an access, the first the most significant, wrapping at 2^24 (20 R120, R122). -/
def bytes68k (a : Addr24) (sz : Size) : List Addr24 :=
  (List.range sz.bytes).map fun k => a + BitVec.ofNat 24 k

/-- The bytes of a value, the most significant first (20 R120). -/
def bigEndian (sz : Size) (v : Long) : List Byte :=
  match sz with
  | .b => [v.extractLsb' 0 8]
  | .w => [v.extractLsb' 8 8, v.extractLsb' 0 8]
  | .l => [v.extractLsb' 24 8, v.extractLsb' 16 8, v.extractLsb' 8 8, v.extractLsb' 0 8]

/-- The value of 1, 2 or 4 bytes, the most significant first (20 R120). -/
def ofBigEndian : List Byte → Long
  | [a] => a.setWidth 32
  | [a, b] => (a ++ b).setWidth 32
  | [a, b, c, d] => a ++ b ++ c ++ d
  | _ => 0#32

/-! ### Accesses as changes of the state -/

/-- A free byte of OWNER's oracle (20 R131, R132): log 7. -/
def State.drawByte (s : State) : Byte × State :=
  (Config.drawBus s.bus.draws, s.mapBus fun b => { b with draws := b.draws + 1 })

/-- Read the byte at a place: memory, or a free byte of the ROM past its image or of a device (20 R131, R132). -/
def State.readPlace (s : State) : Place → Byte × State
  | .rom off => if off < s.launch.romLen then (s.mem.read off, s) else s.drawByte
  | .wram off => (s.mem.read (wramKey off), s)
  | .zram off => (s.mem.read (zramKey off), s)
  | _ => s.drawByte

/-- Write the byte at a place: memory changes in WRAM and ZRAM only (20 R131, R132). -/
def State.writePlace (s : State) (v : Byte) : Place → State
  | .wram off => { s with mem := s.mem.write (wramKey off) v }
  | .zram off => { s with mem := s.mem.write (zramKey off) v }
  | _ => s

/-- Read bytes, one after the other. -/
def State.readPlaces (s : State) : List Place → List Byte × State
  | [] => ([], s)
  | p :: r =>
    let x := s.readPlace p
    let y := x.2.readPlaces r
    (x.1 :: y.1, y.2)

/-- Write bytes, one after the other. -/
def State.writePlaces (s : State) : List Place → List Byte → State
  | p :: r, b :: bs => (s.writePlace b p).writePlaces r bs
  | _, _ => s

/-- A place whose writes change no memory of the block; they are recorded (20 R131, R132). -/
def Place.writesNothing : Place → Bool
  | .wram _ | .zram _ => false
  | _ => true

/-- An access to memory and to devices that this block does not define: read every byte, or write every byte and record
the write if one of its places keeps nothing. -/
def State.plainRead (s : State) (ps : List Place) : Long × State :=
  let x := s.readPlaces ps
  (ofBigEndian x.1, x.2)

/-- The write that goes with `plainRead`. -/
def State.plainWrite (s : State) (a : Addr24) (sz : Size) (v : Long) (ps : List Place) : State :=
  let t := s.writePlaces ps (bigEndian sz v)
  if ps.any Place.writesNothing then t.record (.write68k a sz v) else t

/-- The places of an access; `none` when a byte is in no row (20 R133), and for a long access to a control register
(60 R750, R752). -/
def places68k (l : Launch) (a : Addr24) (sz : Size) : Option (List Place) :=
  ((bytes68k a sz).mapM (place68k l)).filter fun ps => !(decide (sz = .l) && ps.any Place.isControl)

/-- How an M68K access is performed (20 R130): by M68K itself, or as a transaction. -/
inductive Route | here (ps : List Place) | owner | nowhere
  deriving DecidableEq, Repr

/-- The route of an M68K access. An access with one byte elsewhere is a transaction: log 11. -/
def route68k (l : Launch) (a : Addr24) (sz : Size) : Route :=
  match places68k l a sz with
  | none => .nowhere
  | some ps => if (bytes68k a sz).all l.local68k then .here ps else .owner

/-! ### The mailbox (20 R151) -/

/-- The kind of an access: TAS's read and write are one access (20 R128). -/
inductive Access | read | write | tas | portRead | portWrite
  deriving DecidableEq, Repr

/-- The operation slot of an access; a TAS is a read with the mark `rmw`: log 5. -/
def Access.op : Access → MbOp
  | .read | .tas => .memRead
  | .write => .memWrite
  | .portRead => .portRead
  | .portWrite => .portWrite

/-- `MB[cpu].value` is written for writes only (20 R151). -/
def Access.writesValue : Access → Bool
  | .write | .portWrite => true
  | _ => false

/-- The access stores to memory. -/
def Access.stores : Access → Bool
  | .write | .tas => true
  | _ => false

/-- The mailbox after an issue (20 R151). -/
def Mailbox.issue {w : Nat} (m : Mailbox w) (k : Access) (a : BitVec w) (sz : Size) (v : Long) : Mailbox w :=
  { op := k.op, value := if k.writesValue then v else m.value, addr := a, len := sz, intLevel := m.intLevel,
    rmw := k = .tas }

/-! ### The rows: what an access reads and changes, whoever performs it (20 R130, R152) -/

/-- The two halves of a transaction on one row: what a read answers, and what a write does. -/
structure RowAccess where
  read : Long × State
  write : Long → State → State

/-- A transaction on a row (20 R152): a TAS reads and writes in one event (20 R128). -/
def transact {w : Nat} (m : Mailbox w) (s : State) (r : RowAccess) : Long × State :=
  match m.op with
  | .memWrite | .portWrite => (m.value, r.write m.value s)
  | _ => if m.rmw then (r.read.1, r.write (r.read.1 ||| 0x80#32) r.read.2) else r.read

/-- Memory and devices this block does not define (20 R131, R132). -/
def plainAccess (s : State) (a : Addr24) (sz : Size) (ps : List Place) : RowAccess :=
  { read := s.plainRead ps, write := fun v t => t.plainWrite a sz v ps }

/-- A place of the ZRAM rows (20 R136). -/
def Place.isZram : Place → Bool
  | .zram _ => true
  | _ => false

/-- Why an M68K access at these places is a fault: one with a byte of ZRAM, while Z80 may be executing, or wider than a byte
(20 R136); contention before width: log 11. -/
def State.zramFault (s : State) (ps : List Place) (sz : Size) : Option Fault :=
  if ps.any Place.isZram then
    if !(s.bus.busAck || s.bus.z80ResetHeld) then some .zramContention
    else if sz ≠ .b then some .zramWidth
    else none
  else none

/-- The M68K-view address of a bank-window address (20 R137). -/
def windowAddress (bank : BitVec 9) (a : Word) : Addr24 := bank ++ a.extractLsb' 0 15

/-- A bank-window access: a byte access of the M68K view, but for the rows of the Z80's own bus (20 R137). -/
def windowAccess (s : State) (a : Word) : Except Fault RowAccess :=
  let b := windowAddress s.bus.bank a
  match place68k s.launch b with
  | none => .error .unmapped
  | some (.zram _) | some (.busReq _) | some (.z80Reset _) => .error .bankLoop
  | some p => .ok (plainAccess s b .b [p])

/-- The bank register takes one bit at the top (60 R753). -/
def shiftBank (bank : BitVec 9) (v : Long) : BitVec 9 := BitVec.ofBool (v.getLsbD 0) ++ bank.extractLsb' 1 8

/-- A free byte from OWNER's oracle, and a write that does `f`. -/
def oracleAccess (s : State) (f : Long → State → State) : RowAccess :=
  { read := let x := s.drawByte; (x.1.setWidth 32, x.2), write := f }

/-- An access to a port, a device of OWNER's oracle (20 R131, R133). -/
def portAccess (s : State) (port : Word) : RowAccess :=
  oracleAccess s fun v t => t.record (.portWrite port (v.setWidth 8))

/-- A memory access of Z80 at what stands at its address (20 R131, R135, R137, 60 R753). -/
def accessAtZ80 (s : State) (a : Word) : PlaceZ80 → Except Fault RowAccess
  | .window => windowAccess s a
  | .bank => .ok (oracleAccess s fun v t => t.mapBus fun b => { b with bank := shiftBank b.bank v })
  | .device => .ok (oracleAccess s fun v t => t.record (.writeZ80 a (v.setWidth 8)))
  | .zram off =>
    .ok { read := ((s.mem.read (zramKey off)).setWidth 32, s)
          write := fun v t => { t with mem := t.mem.write (zramKey off) (v.setWidth 8) } }

/-- What a processor answers itself where it performs the access `k` itself: as OWNER would (20 R130). -/
def performRow {w : Nat} (k : Access) (a : BitVec w) (sz : Size) (v : Long) (s : State) (r : RowAccess) : Long × State :=
  transact ((Mailbox.empty w).issue k a sz v) s r

/-! ### Issuing a transaction (20 R151) -/

/-- The issue step of M68K (20 R151, R154). -/
def issue68k (k : Access) (a : Addr24) (sz : Size) (v : Long) : Op Long := fun c =>
  if c.st.bus.mb68k.op ≠ .none then .error (.fault .protocolSecondAccess) c
  else .error .wait { c with st := c.st.mapBus fun b => { b with mb68k := b.mb68k.issue k a sz v } }

/-- The issue step of Z80 (20 R151, R154). -/
def issueZ80 (k : Access) (a : Word) (v : Byte) : Op Long := fun c =>
  if c.st.bus.mbZ80.op ≠ .none then .error (.fault .protocolSecondAccess) c
  else .error .wait { c with st := c.st.mapBus fun b => { b with mbZ80 := b.mbZ80.issue k a .b (v.setWidth 32) } }

/-- An access that was made before the instruction last waited is answered from the log; another one is performed, and
its answer is logged (log 4). -/
def Op.once (perform : Op Long) : Op Long := fun c =>
  match c.todo with
  | x :: r => .ok x { c with todo := r, done := c.done ++ [x] }
  | [] =>
    match perform c with
    | .ok x c' => .ok x { c' with done := c'.done ++ [x] }
    | .error e c' => .error e c'

/-! ### M68K memory access -/

/-- A byte of one of the block's memories. -/
def Place.isMemory : Place → Bool
  | .rom _ | .wram _ | .zram _ => true
  | _ => false

/-- Two addresses of one byte: equal, or mirrors of one byte of memory (20 R133). -/
def Launch.sameByte (l : Launch) (a b : Addr24) : Bool :=
  decide (a = b) || (decide (place68k l a = place68k l b) && (place68k l a).any Place.isMemory)

/-- A store that hits the four bytes at `pc`, past the words of the storing instruction fetched so far (20 R143): log 12. -/
def hitsPrefetch (l : Launch) (pc : Long) (a : Addr24) (sz : Size) : Bool :=
  (bytes68k a sz).any fun x => (bytes68k (pc.setWidth 24) .l).any fun y => l.sameByte x y

/-- The access stores into the words after its instruction; the stacking of an interrupt has no instruction (log 12). -/
def Ctx.selfModifies (c : Ctx) (k : Access) (a : Addr24) (sz : Size) : Bool :=
  k.stores && !c.irq && hitsPrefetch c.st.launch c.st.m68k.pc a sz

/-- One aligned access, or one byte access, of M68K (20 R126 to R128, R130, R143). -/
def perform68k (k : Access) (a : Addr24) (sz : Size) (v : Long) : Op Long := fun c =>
  match route68k c.st.launch a sz with
  | .nowhere => .error (.fault .unmapped) c
  | .owner => if c.selfModifies k a sz then .error (.refused .selfModifyPrefetch) c else issue68k k a sz v c
  | .here ps =>
    if c.selfModifies k a sz then .error (.refused .selfModifyPrefetch) c
    else
      match c.st.zramFault ps sz with
      | some f => .error (.fault f) c
      | none =>
        let x := performRow k a sz v c.st (plainAccess c.st a sz ps)
        .ok x.1 { c with st := x.2 }

/-- One access of M68K. -/
def access68k (k : Access) (a : Addr24) (sz : Size) (v : Long) : Op Long := Op.once (perform68k k a sz v)

/-- The address is odd and the access wider than a byte (20 R124). -/
def oddAccess (a : Addr24) (sz : Size) : Bool := sz ≠ .b && a.getLsbD 0

/-- The byte accesses of a misaligned read under the policy `split`, in increasing address order (20 R124). -/
def splitRead : List Addr24 → Long → Op Long
  | [], v => pure v
  | a :: r, v => do
    let b ← access68k .read a .b 0
    splitRead r ((v <<< 8) ||| (b &&& 0xFF#32))

/-- The byte accesses of a misaligned write under the policy `split`, in increasing address order (20 R124). -/
def splitWrite : List Addr24 → List Byte → Op Unit
  | a :: r, b :: bs => do
    let _ ← access68k .write a .b (b.setWidth 32)
    splitWrite r bs
  | _, _ => pure ()

/-- `MemRead(M68K, a, n)` with the alignment rule of data (20 R120, R122, R124). -/
def load68k (sz : Size) (a : Long) : Op (BitVec sz.bits) := do
  let s ← Op.state
  let k := a.setWidth 24
  if oddAccess k sz then
    match s.launch.misaligned with
    | .fault => Op.stop (.fault .misalignedData)
    | .split => do
      let v ← splitRead (bytes68k k sz) 0
      pure (v.setWidth sz.bits)
  else do
    let v ← access68k .read k sz 0
    pure (v.setWidth sz.bits)

/-- `MemWrite(M68K, a, n, v)` with the alignment rule of data (20 R120, R122, R124). -/
def store68k (sz : Size) (a : Long) (v : BitVec sz.bits) : Op Unit := do
  let s ← Op.state
  let k := a.setWidth 24
  if oddAccess k sz then
    match s.launch.misaligned with
    | .fault => Op.stop (.fault .misalignedData)
    | .split => splitWrite (bytes68k k sz) (bigEndian sz (v.setWidth 32))
  else do
    let _ ← access68k .write k sz (v.setWidth 32)
    pure ()

/-- The one access of TAS to memory (20 R128): the byte before it. -/
def tas68k (a : Long) : Op Byte := do
  let v ← access68k .tas (a.setWidth 24) .b 0
  pure (v.setWidth 8)

/-- `Fetch16()` at an even PC (00 R16, 10 R44): one access, no alignment rule of data. -/
def fetch16 : Op Word := do
  let m ← m68kRegs
  let v ← access68k .read (m.pc.setWidth 24) .w 0
  setM68k fun m => { m with pc := m.pc + 2#32 }
  pure (v.setWidth 16)

/-! ### M68K registers -/

/-- `D[n]` (10 R40). -/
def M68k.dreg (m : M68k) (n : Reg) : Long := m.d[n.toNat]'n.isLt

/-- `A[n]` (10 R41). -/
def M68k.areg (m : M68k) (n : Reg) : Long := m.a[n.toNat]'n.isLt

/-- `D[n] <- v`, all 32 bits. -/
def M68k.setD (m : M68k) (n : Reg) (v : Long) : M68k := { m with d := m.d.set n.toNat v n.isLt }

/-- `A[n] <- v`, all 32 bits (10 R41). -/
def M68k.setA (m : M68k) (n : Reg) (v : Long) : M68k := { m with a := m.a.set n.toNat v n.isLt }

/-- `D[n][sz-1:0] <- v`: the other bits are kept (10 R40). -/
def mergeLow (sz : Size) (old : Long) (v : BitVec sz.bits) : Long :=
  match sz, v with
  | .b, v => old.extractLsb' 8 24 ++ v
  | .w, v => old.extractLsb' 16 16 ++ v
  | .l, v => v

/-- A partial write of a data register (10 R40). -/
def M68k.setDPart (m : M68k) (n : Reg) (sz : Size) (v : BitVec sz.bits) : M68k :=
  m.setD n (mergeLow sz (m.dreg n) v)

/-- Register `k` of the order D0 to D7, A0 to A7 (30 R193). -/
def M68k.regFile (m : M68k) (k : BitVec 4) : Long :=
  if k.getLsbD 3 then m.areg (k.setWidth 3) else m.dreg (k.setWidth 3)

/-- Write register `k` of that order. -/
def M68k.setRegFile (m : M68k) (k : BitVec 4) (v : Long) : M68k :=
  if k.getLsbD 3 then m.setA (k.setWidth 3) v else m.setD (k.setWidth 3) v

/-- The stack pointer, A7 (10 R41). -/
def M68k.sp (m : M68k) : Long := m.areg 7#3

/-- Write the stack pointer. -/
def M68k.setSp (m : M68k) (v : Long) : M68k := m.setA 7#3 v

/-- SR as a word, its hardwired bits zero (10 R45). -/
def Sr.word (r : Sr) : Word :=
  BitVec.ofBool r.t ++ 0#1 ++ BitVec.ofBool r.s ++ 0#2 ++ r.i ++ 0#3 ++ BitVec.ofBool r.x ++ BitVec.ofBool r.n
    ++ BitVec.ofBool r.z ++ BitVec.ofBool r.v ++ BitVec.ofBool r.c

/-- The implemented bits of a word written to SR: those of the mask 0xA71F (10 R45, 42 R345). -/
def Sr.ofWord (w : Word) : Sr :=
  { t := w.getLsbD 15, s := w.getLsbD 13, i := w.extractLsb' 8 3, x := w.getLsbD 4, n := w.getLsbD 3, z := w.getLsbD 2,
    v := w.getLsbD 1, c := w.getLsbD 0 }

/-- SR as software reads it (10 R45). -/
def M68k.getSr (m : M68k) : Word := m.sr.word

/-- `SR.S` (10 R45). -/
def M68k.super (m : M68k) : Bool := m.sr.s

/-- `SR.T` (10 R45). -/
def M68k.trace (m : M68k) : Bool := m.sr.t

/-- `SR.I` (10 R45). -/
def M68k.mask (m : M68k) : BitVec 3 := m.sr.i

/-- Exchange A7 and the shadow stack pointer (10 R42). -/
def M68k.swapStacks (m : M68k) : M68k := { m.setSp m.osp with osp := m.sp }

/-- `writeSR(v)` (42 R345): the implemented bits of `v`, and the stacks exchanged if S changes. -/
def M68k.writeSr (m : M68k) (v : Word) : M68k :=
  let t := { m with sr := Sr.ofWord v }
  if (Sr.ofWord v).s ≠ m.super then t.swapStacks else t

/-- PC past `k` words (10 R44). -/
def M68k.skip (m : M68k) (k : Nat) : M68k := { m with pc := m.pc + BitVec.ofNat 32 (2 * k) }

/-! ### Exceptions (60 R704) -/

/-- S = 1 and T = 0, on the supervisor stack (60 R704). -/
def M68k.enterSuper (m : M68k) : M68k :=
  let t := if m.super then m else m.swapStacks
  { t with sr := { t.sr with s := true, t := false } }

/-- `SR.I <- L` (60 R704). -/
def M68k.setMask (m : M68k) (l : BitVec 3) : M68k :=
  { m with sr := { m.sr with i := l } }

/-- `SP <- SP - n`, then a store there. -/
def push68k (sz : Size) (v : BitVec sz.bits) : Op Unit := do
  setM68k fun m => m.setSp (m.sp - BitVec.ofNat 32 sz.bytes)
  let m ← m68kRegs
  store68k sz m.sp v

/-- A load at SP, then `SP <- SP + n`. -/
def pop68k (sz : Size) : Op (BitVec sz.bits) := do
  let m ← m68kRegs
  let v ← load68k sz m.sp
  setM68k fun m => m.setSp (m.sp + BitVec.ofNat 32 sz.bytes)
  pure v

/-- The registers after a cycle cost (70 R820). -/
def M68k.spend (m : M68k) (k : Cost68k) : M68k := { m with cyc := m.cyc + Config.cycles68k k }

/-- Add a cycle cost (70 R820). -/
def spend68k (k : Cost68k) : Op Unit := setM68k fun m => m.spend k

/-- Exception entry (60 R704): the old SR is kept, the supervisor stack takes the PC and that SR, the vector's long is the
new PC. `level` is given for an interrupt only. -/
def enterException (vector : Nat) (spc : Long) (level : Option (BitVec 3)) : Op Unit := do
  let m ← m68kRegs
  setM68k M68k.enterSuper
  match level with
  | some l => setM68k fun m => m.setMask l
  | none => pure ()
  push68k .l spc
  push68k .w m.getSr
  let h ← load68k .l (BitVec.ofNat 32 (vector * 4))
  setM68k fun m => { m with pc := h, run := .running }
  spend68k (if level.isSome then .interrupt else .exception vector)

/-- `raise Exception(v)` (60 R703): exception entry, which ends the instruction. -/
def raise68k {α : Type} (vector : Nat) (spc : Long) : Op α := do
  enterException vector spc none
  Op.stop .ended

/-- Return from an exception (45 R480, 60 R707): SR and PC are popped, and the stacks exchanged if S changes. -/
def returnException : Op Unit := do
  let s ← pop68k .w
  let t ← pop68k .l
  setM68k fun m => m.writeSr s
  setM68k fun m => { m with pc := t }

/-- The privilege check of a privileged instruction (45 R495): vector 8, stacking its own address. PC is then past the operation
word only, so the four bytes after the instruction (20 R143) are for this stacking the four after that word: log 12. -/
def privileged : Op Unit := do
  let m ← m68kRegs
  if m.super then pure () else raise68k 8 (m.pc - 2#32)

/-- Set the faulted mark (10 R83). -/
def State.markFault (s : State) (ag : Agent) (r : FaultReason) : State :=
  { s with faultedMarks := (ag, r) :: s.faultedMarks }

/-- Set the refused mark (10 R83). -/
def State.markRefused (s : State) (ag : Agent) (r : Refusal) : State :=
  { s with refusedMarks := (ag, r) :: s.refusedMarks }

/-- `halt(reason)` of M68K (00 R17, 60 R712): the run state and the mark, nothing else. -/
def State.halt68k (s : State) (r : HaltReason) : State :=
  (s.mapM68k fun m => { m with run := .halted r }).markFault .m68k (.halt r)

/-- The illegal-opcode policy (60 R714). -/
def illegalPolicy (vector : Nat) : Op Unit := do
  let s ← Op.state
  match s.launch.policy with
  | .crash => do
    Op.modify (·.halt68k .crashed)
    Op.stop .ended
  | .ignore => pure ()
  | .trap => raise68k vector (s.m68k.pc - 2#32)

/-! ### Running an M68K instruction -/

/-- How an M68K activity starts: afresh, or, when M68K was waiting, again from the registers it began with (log 4). -/
def State.start68k (s : State) : Ctx :=
  match s.wait68k with
  | none => { st := s, todo := [], done := [], irq := false }
  | some w => { st := { s with m68k := w.snap, wait68k := none }, todo := w.log, done := [], irq := false }

/-- The outcome of an M68K activity: `Waiting` keeps the registers it began with and the answers so far (20 R151). -/
def finish68k (act : Act68k) (s : State) (x : EStateM.Result Stop Ctx Unit) : Host.Outcome State Fault Refusal :=
  match x with
  | .ok _ c => .next c.st
  | .error .ended c => .next c.st
  | .error .wait c => .next { c.st with wait68k := some { act := act, snap := s.start68k.st.m68k, log := c.done } }
  | .error (.fault f) _ => .fault f
  | .error (.refused r) _ => .refused r

/-- Run an M68K instruction from its address (42 R330): its operation word is passed, then its rule, which answers the run-time
quantities its cycles depend on (70 R820). An instruction that an exception ends adds the cost of the exception only: log 10. -/
def run68k (i : Instr) (rule : Op (List Nat)) (s : State) : Host.Outcome State Fault Refusal :=
  finish68k (.exec i) s <| (do
    setM68k fun m => m.skip 1
    let data ← rule
    spend68k (i.cost68k data)) s.start68k

/-- A meaning that the spec refuses on every path. -/
def refuse (r : Refusal) (_ : State) : Host.Outcome State Fault Refusal := .refused r

/-! ### Z80 memory and ports -/

/-- One byte access of Z80 to memory (20 R121, R126, R130). -/
def performZ80 (k : Access) (a : Word) (v : Byte) : Op Long := fun c =>
  match placeZ80 c.st.launch a with
  | none => .error (.fault .unmapped) c
  | some p =>
    if c.st.launch.localZ80 a then
      match accessAtZ80 c.st a p with
      | .error f => .error (.fault f) c
      | .ok r =>
        let x := performRow k a .b (v.setWidth 32) c.st r
        .ok x.1 { c with st := x.2 }
    else issueZ80 k a v c

/-- `m(a)` (46 R520). -/
def loadZ80 (a : Word) : Op Byte := do
  let v ← Op.once (performZ80 .read a 0)
  pure (v.setWidth 8)

/-- `m(a) <- v` (46 R520). -/
def storeZ80 (a : Word) (v : Byte) : Op Unit := do
  let _ ← Op.once (performZ80 .write a v)
  pure ()

/-- One byte access of Z80 to a port: a device, and not local unless the map says so (20 R123, R126, R130, R133). -/
def performPort (k : Access) (port : Word) (v : Byte) : Op Long := fun c =>
  if c.st.launch.map.ownPorts then
    let x := performRow k port .b (v.setWidth 32) c.st (portAccess c.st port)
    .ok x.1 { c with st := x.2 }
  else issueZ80 k port v c

/-- `PortRead(port)`. -/
def inPort (port : Word) : Op Byte := do
  let v ← Op.once (performPort .portRead port 0)
  pure (v.setWidth 8)

/-- `PortWrite(port, v)`. -/
def outPort (port : Word) (v : Byte) : Op Unit := do
  let _ ← Op.once (performPort .portWrite port v)
  pure ()

/-- `Fetch8()` (00 R16, 10 R63). -/
def fetch8 : Op Byte := do
  let z ← z80Regs
  let v ← loadZ80 z.pc
  setZ80 fun z => { z with pc := z.pc + 1#16 }
  pure v

/-! ### Z80 registers -/

/-- `reg(f)` (46 R520). -/
def Z80.reg (z : Z80) : ZReg → Byte
  | .b => z.b
  | .c => z.c
  | .d => z.d
  | .e => z.e
  | .h => z.h
  | .l => z.l
  | .a => z.a

/-- `reg(f) <- v`. -/
def Z80.setReg (z : Z80) (r : ZReg) (v : Byte) : Z80 :=
  match r with
  | .b => { z with b := v }
  | .c => { z with c := v }
  | .d => { z with d := v }
  | .e => { z with e := v }
  | .h => { z with h := v }
  | .l => { z with l := v }
  | .a => { z with a := v }

/-- The pairs, the first-named register high (10 R60). -/
def Z80.bc (z : Z80) : Word := z.b ++ z.c

/-- DE. -/
def Z80.de (z : Z80) : Word := z.d ++ z.e

/-- HL. -/
def Z80.hl (z : Z80) : Word := z.h ++ z.l

/-- F as a byte (10 R66). -/
def FReg.byte (f : FReg) : Byte :=
  BitVec.ofBool f.s ++ BitVec.ofBool f.z ++ BitVec.ofBool f.y ++ BitVec.ofBool f.h ++ BitVec.ofBool f.x
    ++ BitVec.ofBool f.p ++ BitVec.ofBool f.n ++ BitVec.ofBool f.c

/-- A byte loaded into F (10 R66). -/
def FReg.ofByte (b : Byte) : FReg :=
  { s := b.getLsbD 7, z := b.getLsbD 6, y := b.getLsbD 5, h := b.getLsbD 4, x := b.getLsbD 3, p := b.getLsbD 2,
    n := b.getLsbD 1, c := b.getLsbD 0 }

/-- AF. -/
def Z80.af (z : Z80) : Word := z.a ++ z.f.byte

/-- `BC <- v`. -/
def Z80.setBc (z : Z80) (v : Word) : Z80 := { z with b := v.extractLsb' 8 8, c := v.extractLsb' 0 8 }

/-- `DE <- v`. -/
def Z80.setDe (z : Z80) (v : Word) : Z80 := { z with d := v.extractLsb' 8 8, e := v.extractLsb' 0 8 }

/-- `HL <- v`. -/
def Z80.setHl (z : Z80) (v : Word) : Z80 := { z with h := v.extractLsb' 8 8, l := v.extractLsb' 0 8 }

/-- `AF <- v`. -/
def Z80.setAf (z : Z80) (v : Word) : Z80 := { z with a := v.extractLsb' 8 8, f := FReg.ofByte (v.extractLsb' 0 8) }

/-- IX or IY (30 R229). -/
def Z80.idx (z : Z80) : Idx → Word
  | .ix => z.ix
  | .iy => z.iy

/-- Write IX or IY. -/
def Z80.setIdx (z : Z80) (x : Idx) (v : Word) : Z80 :=
  match x with
  | .ix => { z with ix := v }
  | .iy => { z with iy := v }

/-- The pair of `dd` or `ss` (30 R222). -/
def Z80.pair (z : Z80) : ZPair → Word
  | .bc => z.bc
  | .de => z.de
  | .hl => z.hl
  | .sp => z.sp

/-- Write the pair of `dd` or `ss`. -/
def Z80.setPair (z : Z80) (p : ZPair) (v : Word) : Z80 :=
  match p with
  | .bc => z.setBc v
  | .de => z.setDe v
  | .hl => z.setHl v
  | .sp => { z with sp := v }

/-- The pair of `qq` (30 R222). -/
def Z80.pairQ (z : Z80) : ZPairQ → Word
  | .bc => z.bc
  | .de => z.de
  | .hl => z.hl
  | .af => z.af

/-- Write the pair of `qq`. -/
def Z80.setPairQ (z : Z80) (q : ZPairQ) (v : Word) : Z80 :=
  match q with
  | .bc => z.setBc v
  | .de => z.setDe v
  | .hl => z.setHl v
  | .af => z.setAf v

/-- The pair of `pp` (47 R588). -/
def Z80.pairX (z : Z80) (x : Idx) : ZPairX → Word
  | .bc => z.bc
  | .de => z.de
  | .xx => z.idx x
  | .sp => z.sp

/-- The pair of the 1-bit field (30 R222). -/
def Z80.bcDe (z : Z80) : BcDe → Word
  | .bc => z.bc
  | .de => z.de

/-- `push(v)` (46 R544): the high byte at SP - 1 first. -/
def pushZ80 (v : Word) : Op Unit := do
  setZ80 fun z => { z with sp := z.sp - 1#16 }
  let z ← z80Regs
  storeZ80 z.sp (v.extractLsb' 8 8)
  setZ80 fun z => { z with sp := z.sp - 1#16 }
  let z ← z80Regs
  storeZ80 z.sp (v.extractLsb' 0 8)

/-- `pop()` (46 R545): the low byte first. -/
def popZ80 : Op Word := do
  let z ← z80Regs
  let lo ← loadZ80 z.sp
  setZ80 fun z => { z with sp := z.sp + 1#16 }
  let z ← z80Regs
  let hi ← loadZ80 z.sp
  setZ80 fun z => { z with sp := z.sp + 1#16 }
  pure (hi ++ lo)

/-- A 16-bit load, the lower address first (20 R121). -/
def load16Z80 (a : Word) : Op Word := do
  let lo ← loadZ80 a
  let hi ← loadZ80 (a + 1#16)
  pure (hi ++ lo)

/-- A 16-bit store, the lower address first (20 R121). -/
def store16Z80 (a v : Word) : Op Unit := do
  storeZ80 a (v.extractLsb' 0 8)
  storeZ80 (a + 1#16) (v.extractLsb' 8 8)

/-! ### Running a Z80 instruction -/

/-- How a Z80 activity starts: afresh, or, when Z80 was waiting, again from the registers it began with (log 4). -/
def State.startZ80 (s : State) : Ctx :=
  match s.waitZ80 with
  | none => { st := s, todo := [], done := [], irq := false }
  | some w => { st := { s with z80 := w.snap, waitZ80 := none }, todo := w.log, done := [], irq := false }

/-- The outcome of a Z80 activity. -/
def finishZ80 (act : ActZ80) (s : State) (x : EStateM.Result Stop Ctx Unit) : Host.Outcome State Fault Refusal :=
  match x with
  | .ok _ c => .next c.st
  | .error .ended c => .next c.st
  | .error .wait c => .next { c.st with waitZ80 := some { act := act, snap := s.startZ80.st.z80, log := c.done } }
  | .error (.fault f) _ => .fault f
  | .error (.refused r) _ => .refused r

/-- The registers after a cycle cost (70 R820). -/
def Z80.spend (z : Z80) (k : CostZ80) : Z80 := { z with cyc := z.cyc + Config.cyclesZ80 k }

/-- Add a cycle cost (70 R820). -/
def spendZ80 (k : CostZ80) : Op Unit := setZ80 fun z => z.spend k

/-- The registers when a rule begins: PC past all bytes of the instruction, `dcache` empty (46 R520, 10 R71). -/
def Z80.begin (z : Z80) (k : Nat) : Z80 := { z with pc := z.pc + BitVec.ofNat 16 k, dcache := none }

/-- Run a Z80 instruction from its address (46 R520): its bytes are passed and `dcache` is empty, then its rule, which is
given `ipc` and answers the run-time quantities its cycles depend on (70 R820). -/
def runZ80 (i : Instr) (rule : Word → Op (List Nat)) (s : State) : Host.Outcome State Fault Refusal :=
  finishZ80 (.exec i) s <| (do
    let z ← z80Regs
    setZ80 fun z => z.begin (encodeZ80 i).length
    let data ← rule z.pc
    spendZ80 (i.costZ80 data)) s.startZ80

end Sys2Proof.Machine
end

