-- ==== Sys2Proof/Machine/Operands.lean ====
section
/-! DEFINITION. Operand forms: the M68K effective-address resolver (40), the two-operand forms (43 R370), and the Z80
operands `reg(f)`, `M` and `xxd()` (46 R520). -/

namespace Sys2Proof.Machine

/-- A location (40 R260). -/
inductive Loc
  | dreg (n : Reg)
  | areg (n : Reg)
  | mem (a : Long)
  | imm (v : Long)
  deriving DecidableEq, Repr

/-- `inc(n, sz)` (40 R261). -/
def eaStep (n : Reg) (sz : Size) : Long := if n = 7#3 ∧ sz = .b then 2#32 else BitVec.ofNat 32 sz.bytes

/-- The index of a brief extension word (40 R268). -/
def M68k.index (m : M68k) (x : Word) : Long :=
  let r := if x.getLsbD 15 then m.areg (x.extractLsb' 12 3) else m.dreg (x.extractLsb' 12 3)
  if x.getLsbD 11 then r else (r.setWidth 16).signExtend 32

/-- The brief extension word is one the MC68000 has (30 R188). -/
def indexOk (x : Word) : Bool := x.extractLsb' 8 3 = 0#3

/-- `base + idx + sext_8(d8)` (40 R268). -/
def M68k.indexed (m : M68k) (base : Long) (x : Word) : Long :=
  base + m.index x + (x.setWidth 8).signExtend 32

/-- `resolve(mode, reg, sz)` (40 R262 to R273): the location and the registers after it; `none` is the refusal of an index
word (40 R268). -/
def M68k.resolve (m : M68k) (sz : Size) : Ea → Option (Loc × M68k)
  | .dn n => some (.dreg n, m)
  | .an n => some (.areg n, m)
  | .ind n => some (.mem (m.areg n), m)
  | .post n => some (.mem (m.areg n), m.setA n (m.areg n + eaStep n sz))
  | .pre n => some (.mem (m.areg n - eaStep n sz), m.setA n (m.areg n - eaStep n sz))
  | .disp n d => some (.mem (m.areg n + d.signExtend 32), m.skip 1)
  | .index n x => if indexOk x then some (.mem (m.indexed (m.areg n) x), m.skip 1) else none
  | .absW a => some (.mem (a.signExtend 32), m.skip 1)
  | .absL a => some (.mem a, m.skip 2)
  | .pcDisp d => some (.mem (m.pc + d.signExtend 32), m.skip 1)
  | .pcIndex x => if indexOk x then some (.mem (m.indexed m.pc x), m.skip 1) else none
  | .imm v =>
    match sz with
    | .b => some (.imm (v &&& 0xFF#32), m.skip 1)
    | .w => some (.imm (v &&& 0xFFFF#32), m.skip 1)
    | .l => some (.imm v, m.skip 2)

/-- One call of `resolve`, with its cycles (40 R278). -/
def resolve (sz : Size) (ea : Ea) : Op Loc := do
  let m ← m68kRegs
  match m.resolve sz ea with
  | none => Op.stop (.refused .indexExtension)
  | some (loc, m') => do
    setM68k fun _ => m'
    spend68k (.ea ea.kind sz)
    pure loc

/-- `read(loc, sz)` (40 R274). -/
def readLoc (sz : Size) : Loc → Op (BitVec sz.bits)
  | .dreg n => do return ((← m68kRegs).dreg n).setWidth sz.bits
  | .areg n => do return ((← m68kRegs).areg n).setWidth sz.bits
  | .mem a => load68k sz a
  | .imm v => pure (v.setWidth sz.bits)

/-- `write(loc, sz, v)` (40 R275). An immediate is no destination of any row; nothing is written there. -/
def writeLoc (sz : Size) (loc : Loc) (v : BitVec sz.bits) : Op Unit :=
  match loc with
  | .dreg n => setM68k fun m => m.setDPart n sz v
  | .areg n => setM68k fun m => m.setA n (v.signExtend 32)
  | .mem a => store68k sz a v
  | .imm _ => pure ()

/-- `read(resolve(src, sz), sz)`. -/
def readEa (sz : Size) (ea : Ea) : Op (BitVec sz.bits) := do
  let loc ← resolve sz ea
  readLoc sz loc

/-- `resolve(...)` of a row that admits memory addresses only: the address. Another operand, which no row has there, is the
fault of 40 R279, never a sentinel address. -/
def resolveAddress (sz : Size) (ea : Ea) : Op Long := do
  let loc ← resolve sz ea
  match loc with
  | .mem a => pure a
  | _ => Op.stop (.fault .unknownEaMode)

/-- The own extension words of an instruction are fetched (30 R185). -/
def skipWords (k : Nat) : Op Unit := setM68k fun m => m.skip k

/-- How many extension words an immediate of a size has (30 R189). -/
def immWords : Size → Nat
  | .l => 2
  | _ => 1

/-- The CCR bits of SR (10 R46). -/
structure Ccr where
  x : Bool
  n : Bool
  z : Bool
  v : Bool
  c : Bool
  deriving DecidableEq, Repr

/-- X N Z V C (10 R45). -/
def M68k.ccr (m : M68k) : Ccr := { x := m.sr.x, n := m.sr.n, z := m.sr.z, v := m.sr.v, c := m.sr.c }

/-- `SR[4:0]` of a set of flags. -/
def Ccr.bits (f : Ccr) : BitVec 5 :=
  BitVec.ofBool f.x ++ BitVec.ofBool f.n ++ BitVec.ofBool f.z ++ BitVec.ofBool f.v ++ BitVec.ofBool f.c

/-- Write `SR[4:0]` (10 R46). -/
def M68k.setCcr (m : M68k) (f : Ccr) : M68k :=
  { m with sr := { m.sr with x := f.x, n := f.n, z := f.z, v := f.v, c := f.c } }

/-- The flags that five bits give. -/
def Ccr.ofBits (b : BitVec 5) : Ccr :=
  { x := b.getLsbD 4, n := b.getLsbD 3, z := b.getLsbD 2, v := b.getLsbD 1, c := b.getLsbD 0 }

/-- Read the flags. -/
def getCcr : Op Ccr := do return (← m68kRegs).ccr

/-- Write the flags. -/
def setCcr (f : Ccr) : Op Unit := setM68k fun m => m.setCcr f

/-- What a two-operand instruction computes: from the source, the destination and the flags, the result and the flags. -/
abbrev Alu (n : Nat) := BitVec n → BitVec n → Ccr → BitVec n × Ccr

/-- The `<ea>,Dn` form (43 R370). -/
def eaToDn (sz : Size) (ea : Ea) (n : Reg) (f : Alu sz.bits) : Op (List Nat) := do
  let s ← readEa sz ea
  let m ← m68kRegs
  let r := f s ((m.dreg n).setWidth sz.bits) m.ccr
  setM68k fun m => (m.setDPart n sz r.1).setCcr r.2
  pure []

/-- A read-modify-write destination, resolved once (40 R276): `f` gives the result and the flags from its value. -/
def updateEa (sz : Size) (ea : Ea) (f : BitVec sz.bits → M68k → BitVec sz.bits × Ccr) : Op (List Nat) := do
  let t ← resolve sz ea
  let d ← readLoc sz t
  let m ← m68kRegs
  let r := f d m
  writeLoc sz t r.1
  setCcr r.2
  pure []

/-- The `Dn,<ea>` form (43 R370). -/
def dnToEa (sz : Size) (n : Reg) (ea : Ea) (f : Alu sz.bits) : Op (List Nat) :=
  updateEa sz ea fun d m => f ((m.dreg n).setWidth sz.bits) d m.ccr

/-- The immediate form with its write (43 R370). -/
def immToEa (sz : Size) (imm : Long) (ea : Ea) (f : Alu sz.bits) : Op (List Nat) := do
  skipWords (immWords sz)
  updateEa sz ea fun d m => f (imm.setWidth sz.bits) d m.ccr

/-- ADDQ and SUBQ's value: 0 means 8 (30 R194). -/
def quickValue (q : BitVec 3) : Nat := if q = 0#3 then 8 else q.toNat

/-- The extended forms: data registers, or predecremented memory (43 R375). -/
def extended (sz : Size) (mem : Bool) (y x : Reg) (f : Alu sz.bits) : Op (List Nat) :=
  if mem then do
    let s ← readEa sz (.pre y)
    let t ← resolve sz (.pre x)
    let d ← readLoc sz t
    let m ← m68kRegs
    let r := f s d m.ccr
    writeLoc sz t r.1
    setCcr r.2
    pure []
  else do
    let m ← m68kRegs
    let r := f ((m.dreg y).setWidth sz.bits) ((m.dreg x).setWidth sz.bits) m.ccr
    setM68k fun m => (m.setDPart x sz r.1).setCcr r.2
    pure []

/-- The operand size of a bit operation: the whole register, or a byte of memory (44 R438). -/
def bitOpSize : Ea → Size
  | .dn _ => .l
  | _ => .b

/-- The bit number modulo the operand's width (44 R438). -/
def bitNumber (sz : Size) (k : Long) : Nat := k.toNat % sz.bits

/-! ### Z80 operands -/

/-- `xxd()` (46 R520): the displacement is kept in `dcache` (10 R71). -/
def xxd (x : Idx) (d : Byte) : Op Word := do
  setZ80 fun z => { z with dcache := some d }
  let z ← z80Regs
  pure (z.idx x + d.signExtend 16)

/-- The address of `M` without a prefix. -/
def hlAddress : Op Word := do return (← z80Regs).hl

/-- Read `reg(f)` or `m(HL)` (46 R520). -/
def readOp8 : ZOp8 → Op Byte
  | .reg r => do return (← z80Regs).reg r
  | .hl => do
    let a ← hlAddress
    loadZ80 a

/-- Write `reg(f)` or `m(HL)` (46 R520). -/
def writeOp8 (o : ZOp8) (v : Byte) : Op Unit :=
  match o with
  | .reg r => setZ80 fun z => z.setReg r v
  | .hl => do
    let a ← hlAddress
    storeZ80 a v

/-- Read `m(xxd())` (46 R520). -/
def readXd (x : Idx) (d : Byte) : Op Byte := do
  let a ← xxd x d
  loadZ80 a

/-- Read and write `m(xxd())`: the displacement is fetched once (10 R71). -/
def updateXd (x : Idx) (d : Byte) (f : Byte → Op Byte) : Op Unit := do
  let a ← xxd x d
  let v ← loadZ80 a
  let r ← f v
  storeZ80 a r

/-- Read and write `reg(f)` or `m(HL)`. -/
def updateOp8 (o : ZOp8) (f : Byte → Op Byte) : Op Unit := do
  let v ← readOp8 o
  let r ← f v
  writeOp8 o r

end Sys2Proof.Machine
end

