-- ==== Sys2Proof/Machine/Flags.lean ====
section
/-! DEFINITION. The flag functions and conditions of both processors (41, 47 R570, 30 R223). -/

namespace Sys2Proof.Machine

/-! ### M68K flags -/

/-- `flagsAdd(s, d, r)` (41 R301). -/
def flagsAdd {n : Nat} (s d r : BitVec n) : Ccr :=
  let c := decide (2 ^ n ≤ d.toNat + s.toNat)
  { x := c, n := r.msb, z := r = 0#n, v := s.msb = d.msb ∧ r.msb ≠ s.msb, c := c }

/-- `flagsAddX(s, d, r)` (41 R302). -/
def flagsAddX {n : Nat} (s d r : BitVec n) (old : Ccr) : Ccr :=
  let c := decide (2 ^ n ≤ d.toNat + s.toNat + old.x.toNat)
  { x := c, n := r.msb, z := if r = 0#n then old.z else false, v := s.msb = d.msb ∧ r.msb ≠ s.msb, c := c }

/-- `flagsSub(s, d, r)` (41 R303). -/
def flagsSub {n : Nat} (s d r : BitVec n) : Ccr :=
  let c := decide (d.toNat < s.toNat)
  { x := c, n := r.msb, z := r = 0#n, v := s.msb ≠ d.msb ∧ r.msb ≠ d.msb, c := c }

/-- `flagsSubX(s, d, r)` (41 R304). -/
def flagsSubX {n : Nat} (s d r : BitVec n) (old : Ccr) : Ccr :=
  let c := decide (d.toNat < s.toNat + old.x.toNat)
  { x := c, n := r.msb, z := if r = 0#n then old.z else false, v := s.msb ≠ d.msb ∧ r.msb ≠ d.msb, c := c }

/-- `flagsCmp(s, d, r)` (41 R305). -/
def flagsCmp {n : Nat} (s d r : BitVec n) (old : Ccr) : Ccr := { flagsSub s d r with x := old.x }

/-- `flagsLogic(r)` (41 R306). -/
def flagsLogic {n : Nat} (r : BitVec n) (old : Ccr) : Ccr :=
  { x := old.x, n := r.msb, z := r = 0#n, v := false, c := false }

/-- `flagsNeg(d, r)` (41 R307). -/
def flagsNeg {n : Nat} (d r : BitVec n) : Ccr := flagsSub d 0#n r

/-- `flagsNegX(d, r)` (41 R308). -/
def flagsNegX {n : Nat} (d r : BitVec n) (old : Ccr) : Ccr := flagsSubX d 0#n r old

/-- `cond(cc)` (41 R309). -/
def Ccr.holds (f : Ccr) : Cond → Bool
  | .t => true
  | .f => false
  | .hi => !f.c && !f.z
  | .ls => f.c || f.z
  | .cc => !f.c
  | .cs => f.c
  | .ne => !f.z
  | .eq => f.z
  | .vc => !f.v
  | .vs => f.v
  | .pl => !f.n
  | .mi => f.n
  | .ge => f.n == f.v
  | .lt => f.n != f.v
  | .gt => !f.z && (f.n == f.v)
  | .le => f.z || (f.n != f.v)

/-! ### M68K arithmetic and logic on values -/

/-- ADD (43 R371). -/
def aluAdd {n : Nat} : Alu n := fun s d _ => (d + s, flagsAdd s d (d + s))

/-- SUB (43 R376). -/
def aluSub {n : Nat} : Alu n := fun s d _ => (d - s, flagsSub s d (d - s))

/-- A flag as a number of `n` bits. -/
def bitOf (n : Nat) (b : Bool) : BitVec n := if b then 1#n else 0#n

/-- ADDX (43 R375). -/
def aluAddX {n : Nat} : Alu n := fun s d f =>
  let r := d + s + bitOf n f.x
  (r, flagsAddX s d r f)

/-- SUBX (43 R380). -/
def aluSubX {n : Nat} : Alu n := fun s d f =>
  let r := d - s - bitOf n f.x
  (r, flagsSubX s d r f)

/-- AND (44 R421). -/
def aluAnd {n : Nat} : Alu n := fun s d f => (d &&& s, flagsLogic (d &&& s) f)

/-- OR (44 R423). -/
def aluOr {n : Nat} : Alu n := fun s d f => (d ||| s, flagsLogic (d ||| s) f)

/-- EOR (44 R425). -/
def aluEor {n : Nat} : Alu n := fun s d f => (d ^^^ s, flagsLogic (d ^^^ s) f)

/-! ### M68K shifts (44 R429 to R437) -/

/-- A shift in progress: the operand, X, the bit last shifted out, and whether the msb ever changed. -/
structure Shift (n : Nat) where
  v : BitVec n
  x : Bool
  out : Bool
  changed : Bool
  deriving DecidableEq, Repr

/-- Before the first step. -/
def Shift.begin {n : Nat} (v : BitVec n) (x : Bool) : Shift n := { v := v, x := x, out := false, changed := false }

/-- The operand with its lowest bit replaced after a left shift by one. -/
def shiftInLow {n : Nat} (v : BitVec n) (b : Bool) : BitVec n := (v <<< 1) ||| bitOf n b

/-- The operand with its highest bit set to `b` after a right shift by one. -/
def shiftInHigh {n : Nat} (v : BitVec n) (b : Bool) : BitVec n := (v >>> 1) ||| (bitOf n b <<< (n - 1))

/-- One step of a left shift that takes in `b`. -/
def Shift.left {n : Nat} (s : Shift n) (b : Bool) : Shift n :=
  let v := shiftInLow s.v b
  { v := v, x := s.x, out := s.v.msb, changed := s.changed || (v.msb != s.v.msb) }

/-- One step of a right shift that takes in `b`. -/
def Shift.right {n : Nat} (s : Shift n) (b : Bool) : Shift n :=
  { v := shiftInHigh s.v b, x := s.x, out := s.v.getLsbD 0, changed := s.changed }

/-- `X <- out`. -/
def Shift.toX {n : Nat} (s : Shift n) : Shift n := { s with x := s.out }

/-- The step of ASL (44 R430). -/
def stepAsl {n : Nat} (s : Shift n) : Shift n := (s.left false).toX

/-- The step of ASR (44 R431). -/
def stepAsr {n : Nat} (s : Shift n) : Shift n := (s.right s.v.msb).toX

/-- The step of LSL (44 R432). -/
def stepLsl {n : Nat} (s : Shift n) : Shift n := (s.left false).toX

/-- The step of LSR (44 R433). -/
def stepLsr {n : Nat} (s : Shift n) : Shift n := (s.right false).toX

/-- The step of ROL (44 R434). -/
def stepRol {n : Nat} (s : Shift n) : Shift n := s.left s.v.msb

/-- The step of ROR (44 R435). -/
def stepRor {n : Nat} (s : Shift n) : Shift n := s.right (s.v.getLsbD 0)

/-- The step of ROXL (44 R436). -/
def stepRoxl {n : Nat} (s : Shift n) : Shift n := (s.left s.x).toX

/-- The step of ROXR (44 R437). -/
def stepRoxr {n : Nat} (s : Shift n) : Shift n := (s.right s.x).toX

/-- `c` repetitions of a step (44 R429). -/
def Shift.times {n : Nat} (step : Shift n → Shift n) : Nat → Shift n → Shift n
  | 0, s => s
  | c + 1, s => Shift.times step c (step s)

/-- The result and the flags after `c` steps (44 R429). `useV` for ASL; `rox` takes C = X when no step is made. -/
def shiftResult {n : Nat} (step : Shift n → Shift n) (useV rox : Bool) (c : Nat) (v : BitVec n) (old : Ccr) :
    BitVec n × Ccr :=
  let s := Shift.times step c (Shift.begin v old.x)
  (s.v, { x := s.x, n := s.v.msb, z := s.v = 0#n, v := useV && s.changed, c := if c = 0 then rox && old.x else s.out })

/-! ### Z80 flags -/

/-- The six flags of F that instructions compute (10 R66). -/
structure ZFlags where
  s : Bool
  z : Bool
  h : Bool
  p : Bool
  n : Bool
  c : Bool
  deriving DecidableEq, Repr

/-- The six flags of F. -/
def Z80.flags (z : Z80) : ZFlags := { s := z.f.s, z := z.f.z, h := z.f.h, p := z.f.p, n := z.f.n, c := z.f.c }

/-- F from the six flags, with YF and XF of a free byte (10 R66). -/
def ZFlags.toF (f : ZFlags) (free : Byte) : FReg :=
  { s := f.s, z := f.z, y := free.getLsbD 5, h := f.h, x := free.getLsbD 3, p := f.p, n := f.n, c := f.c }

/-- Read the flags. -/
def getFlags : Op ZFlags := do return (← z80Regs).flags

/-- Write flags: YF and XF are free after it (46 R520). -/
def setFlags (f : ZFlags) : Op Unit := do
  let free ← drawZ80
  setZ80 fun z => { z with f := f.toF free }

/-- `parity(v)`: an even number of 1 bits (47 R570). -/
def parity (v : Byte) : Bool :=
  !((((v.getLsbD 0).xor (v.getLsbD 1)).xor ((v.getLsbD 2).xor (v.getLsbD 3))).xor
    (((v.getLsbD 4).xor (v.getLsbD 5)).xor ((v.getLsbD 6).xor (v.getLsbD 7))))

/-- Bits 3:0 as a number. -/
def lowNibble (v : Byte) : Nat := (v.extractLsb' 0 4).toNat

/-- `add8(a, b, c)` (47 R570). -/
def add8 (a b : Byte) (c : Bool) : Byte × ZFlags :=
  let r := a + b + bitOf 8 c
  (r, { s := r.msb, z := r = 0#8, h := 0xF < lowNibble a + lowNibble b + c.toNat,
        p := a.msb = b.msb ∧ r.msb ≠ a.msb, n := false, c := 0xFF < a.toNat + b.toNat + c.toNat })

/-- `sub8(a, b, c)` (47 R570). -/
def sub8 (a b : Byte) (c : Bool) : Byte × ZFlags :=
  let r := a - b - bitOf 8 c
  (r, { s := r.msb, z := r = 0#8, h := lowNibble a < lowNibble b + c.toNat,
        p := a.msb ≠ b.msb ∧ r.msb ≠ a.msb, n := true, c := a.toNat < b.toNat + c.toNat })

/-- `logicFlags(r, h)` (47 R570). -/
def logicFlags (r : Byte) (h : Bool) : ZFlags :=
  { s := r.msb, z := r = 0#8, h := h, p := parity r, n := false, c := false }

/-- INC's flags (47 R579). -/
def incFlags (v : Byte) (old : ZFlags) : ZFlags :=
  let r := v + 1#8
  { s := r.msb, z := r = 0#8, h := lowNibble v = 0xF, p := v = 0x7F#8, n := false, c := old.c }

/-- DEC's flags (47 R580). -/
def decFlags (v : Byte) (old : ZFlags) : ZFlags :=
  let r := v - 1#8
  { s := r.msb, z := r = 0#8, h := lowNibble v = 0, p := v = 0x80#8, n := true, c := old.c }

/-- Bits 11:0 as a number. -/
def low12 (v : Word) : Nat := (v.extractLsb' 0 12).toNat

/-- ADD HL,ss (47 R585). -/
def add16 (a b : Word) (old : ZFlags) : Word × ZFlags :=
  (a + b, { old with h := 0xFFF < low12 a + low12 b, n := false, c := 0xFFFF < a.toNat + b.toNat })

/-- ADC HL,ss (47 R586). -/
def adc16 (a b : Word) (c : Bool) : Word × ZFlags :=
  let r := a + b + bitOf 16 c
  (r, { s := r.msb, z := r = 0#16, h := 0xFFF < low12 a + low12 b + c.toNat,
        p := a.msb = b.msb ∧ r.msb ≠ a.msb, n := false, c := 0xFFFF < a.toNat + b.toNat + c.toNat })

/-- SBC HL,ss (47 R587). -/
def sbc16 (a b : Word) (c : Bool) : Word × ZFlags :=
  let r := a - b - bitOf 16 c
  (r, { s := r.msb, z := r = 0#16, h := low12 a < low12 b + c.toNat,
        p := a.msb ≠ b.msb ∧ r.msb ≠ a.msb, n := true, c := a.toNat < b.toNat + c.toNat })

/-- The rotates and shifts of the CB page (47 R595 to R601). -/
inductive Rot | rlc | rl | rrc | rr | sla | sra | srl
  deriving DecidableEq, Repr

/-- The result of a rotate or shift and the bit shifted out (47 R595 to R601). -/
def Rot.apply (k : Rot) (v : Byte) (cf : Bool) : Byte × Bool :=
  match k with
  | .rlc => (shiftInLow v v.msb, v.msb)
  | .rl => (shiftInLow v cf, v.msb)
  | .rrc => (shiftInHigh v (v.getLsbD 0), v.getLsbD 0)
  | .rr => (shiftInHigh v cf, v.getLsbD 0)
  | .sla => (shiftInLow v false, v.msb)
  | .sra => (shiftInHigh v v.msb, v.getLsbD 0)
  | .srl => (shiftInHigh v false, v.getLsbD 0)

/-- The flags of a rotate or shift of the CB page (47 R595 to R601). -/
def rotFlags (r : Byte) (out : Bool) : ZFlags := { logicFlags r false with c := out }

/-- `cond(ccc)` (30 R223). -/
def ZFlags.holds (f : ZFlags) : ZCond → Bool
  | .nz => !f.z
  | .z => f.z
  | .nc => !f.c
  | .c => f.c
  | .po => !f.p
  | .pe => f.p
  | .p => !f.s
  | .m => f.s

/-- The condition of JR as one of `cond(ccc)` (30 R223). -/
def jrCond : ZJrCond → ZCond
  | .nz => .nz
  | .z => .z
  | .nc => .nc
  | .c => .c

end Sys2Proof.Machine
end

