-- ==== Sys2Proof/Machine/M68kArith.lean ====
section
/-! DEFINITION. M68K integer arithmetic (spec/43_m68k_arith.md). -/

namespace Sys2Proof.Machine

/-- ADD to Dn (43 R371). -/
def execAddToDn (sz : Size) (ea : Ea) (n : Reg) (s : State) : Host.Outcome State Fault Refusal :=
  run68k (.addToDn sz ea n) (eaToDn sz ea n aluAdd) s

/-- ADD to memory (43 R371). -/
def execAddToEa (sz : Size) (n : Reg) (ea : Ea) (s : State) : Host.Outcome State Fault Refusal :=
  run68k (.addToEa sz n ea) (dnToEa sz n ea aluAdd) s

/-- The source of the address-register forms, a word sign-extended (43 R372). -/
def readEaLong (sz : Size) (ea : Ea) : Op Long := do
  let v ← readEa sz ea
  pure (v.signExtend 32)

/-- ADDA (43 R372). -/
def execAdda (sz : Size) (ea : Ea) (n : Reg) (s : State) : Host.Outcome State Fault Refusal :=
  run68k (.adda sz ea n) (do
    let v ← readEaLong sz ea
    setM68k fun m => m.setA n (m.areg n + v)
    pure []) s

/-- ADDI (43 R373). -/
def execAddi (sz : Size) (imm : Long) (ea : Ea) (s : State) : Host.Outcome State Fault Refusal :=
  run68k (.addi sz imm ea) (immToEa sz imm ea aluAdd) s

/-- ADDQ and SUBQ: a whole address register without flags, or a location (43 R374). The register form has no `resolve`, so it
adds no effective-address cost (40 R278): log 10. -/
def quickToEa (sz : Size) (q : BitVec 3) (ea : Ea) (onAn : Long → Long → Long) (f : Alu sz.bits) : Op (List Nat) :=
  match ea with
  | .an n => do
    setM68k fun m => m.setA n (onAn (m.areg n) (BitVec.ofNat 32 (quickValue q)))
    pure []
  | _ => updateEa sz ea fun d m => f (BitVec.ofNat sz.bits (quickValue q)) d m.ccr

/-- ADDQ (43 R374). -/
def execAddq (sz : Size) (q : BitVec 3) (ea : Ea) (s : State) : Host.Outcome State Fault Refusal :=
  run68k (.addq sz q ea) (quickToEa sz q ea (· + ·) aluAdd) s

/-- ADDX (43 R375). -/
def execAddx (sz : Size) (mem : Bool) (y x : Reg) (s : State) : Host.Outcome State Fault Refusal :=
  run68k (.addx sz mem y x) (extended sz mem y x aluAddX) s

/-- SUB to Dn (43 R376). -/
def execSubToDn (sz : Size) (ea : Ea) (n : Reg) (s : State) : Host.Outcome State Fault Refusal :=
  run68k (.subToDn sz ea n) (eaToDn sz ea n aluSub) s

/-- SUB to memory (43 R376). -/
def execSubToEa (sz : Size) (n : Reg) (ea : Ea) (s : State) : Host.Outcome State Fault Refusal :=
  run68k (.subToEa sz n ea) (dnToEa sz n ea aluSub) s

/-- SUBA (43 R377). -/
def execSuba (sz : Size) (ea : Ea) (n : Reg) (s : State) : Host.Outcome State Fault Refusal :=
  run68k (.suba sz ea n) (do
    let v ← readEaLong sz ea
    setM68k fun m => m.setA n (m.areg n - v)
    pure []) s

/-- SUBI (43 R378). -/
def execSubi (sz : Size) (imm : Long) (ea : Ea) (s : State) : Host.Outcome State Fault Refusal :=
  run68k (.subi sz imm ea) (immToEa sz imm ea aluSub) s

/-- SUBQ (43 R379). -/
def execSubq (sz : Size) (q : BitVec 3) (ea : Ea) (s : State) : Host.Outcome State Fault Refusal :=
  run68k (.subq sz q ea) (quickToEa sz q ea (· - ·) aluSub) s

/-- SUBX (43 R380). -/
def execSubx (sz : Size) (mem : Bool) (y x : Reg) (s : State) : Host.Outcome State Fault Refusal :=
  run68k (.subx sz mem y x) (extended sz mem y x aluSubX) s

/-- NEG (43 R381). -/
def execNeg (sz : Size) (ea : Ea) (s : State) : Host.Outcome State Fault Refusal :=
  run68k (.neg sz ea) (updateEa sz ea fun d _ => (0#sz.bits - d, flagsNeg d (0#sz.bits - d))) s

/-- NEGX (43 R382). -/
def execNegx (sz : Size) (ea : Ea) (s : State) : Host.Outcome State Fault Refusal :=
  run68k (.negx sz ea) (updateEa sz ea fun d m =>
    let r := 0#sz.bits - d - bitOf sz.bits m.ccr.x
    (r, flagsNegX d r m.ccr)) s

/-- CLR: no read of the destination (43 R383). -/
def execClr (sz : Size) (ea : Ea) (s : State) : Host.Outcome State Fault Refusal :=
  run68k (.clr sz ea) (do
    let t ← resolve sz ea
    writeLoc sz t 0#sz.bits
    let f ← getCcr
    setCcr { x := f.x, n := false, z := true, v := false, c := false }
    pure []) s

/-- The flags of a comparison of `d` with `s` (41 R305). -/
def compareOp {n : Nat} (s d : BitVec n) : Op (List Nat) := do
  let f ← getCcr
  setCcr (flagsCmp s d (d - s) f)
  pure []

/-- CMP (43 R384). -/
def execCmp (sz : Size) (ea : Ea) (n : Reg) (s : State) : Host.Outcome State Fault Refusal :=
  run68k (.cmp sz ea n) (do
    let v ← readEa sz ea
    let m ← m68kRegs
    compareOp v ((m.dreg n).setWidth sz.bits)) s

/-- CMPA, at width 32 (43 R385). -/
def execCmpa (sz : Size) (ea : Ea) (n : Reg) (s : State) : Host.Outcome State Fault Refusal :=
  run68k (.cmpa sz ea n) (do
    let v ← readEaLong sz ea
    let m ← m68kRegs
    compareOp v (m.areg n)) s

/-- CMPI (43 R386). -/
def execCmpi (sz : Size) (imm : Long) (ea : Ea) (s : State) : Host.Outcome State Fault Refusal :=
  run68k (.cmpi sz imm ea) (do
    skipWords (immWords sz)
    let d ← readEa sz ea
    compareOp (imm.setWidth sz.bits) d) s

/-- CMPM (43 R387). -/
def execCmpm (sz : Size) (y x : Reg) (s : State) : Host.Outcome State Fault Refusal :=
  run68k (.cmpm sz y x) (do
    let v ← readEa sz (.post y)
    let d ← readEa sz (.post x)
    compareOp v d) s

/-- TST (43 R388). -/
def execTst (sz : Size) (ea : Ea) (s : State) : Host.Outcome State Fault Refusal :=
  run68k (.tst sz ea) (do
    let v ← readEa sz ea
    let f ← getCcr
    setCcr (flagsLogic v f)
    pure []) s

/-- A whole data register written with its 32-bit flags (41 R306). -/
def setProduct (n : Reg) (v : Long) : Op Unit := setM68k fun m => (m.setD n v).setCcr (flagsLogic v m.ccr)

/-- MULU (43 R389). Cycles data: the source. -/
def execMulu (ea : Ea) (n : Reg) (s : State) : Host.Outcome State Fault Refusal :=
  run68k (.mulu ea n) (do
    let v ← readEa .w ea
    let m ← m68kRegs
    setProduct n (BitVec.ofNat 32 (((m.dreg n).setWidth 16).toNat * v.toNat))
    pure [v.toNat]) s

/-- MULS (43 R390). Cycles data: the source. -/
def execMuls (ea : Ea) (n : Reg) (s : State) : Host.Outcome State Fault Refusal :=
  run68k (.muls ea n) (do
    let v ← readEa .w ea
    let m ← m68kRegs
    setProduct n (BitVec.ofInt 32 (((m.dreg n).setWidth 16).toInt * v.toInt))
    pure [v.toNat]) s

/-- A zero divisor: C is 0, N Z V are free, vector 5 (43 R391, R392). -/
def zeroDivide : Op Unit := do
  let n ← draw68k
  let z ← draw68k
  let v ← draw68k
  let m ← m68kRegs
  setCcr { x := m.ccr.x, n := n, z := z, v := v, c := false }
  raise68k 5 m.pc

/-- Quotient overflow: V is 1, C is 0, N Z are free, the register is kept (43 R391). -/
def divideOverflow : Op Unit := do
  let n ← draw68k
  let z ← draw68k
  let f ← getCcr
  setCcr { x := f.x, n := n, z := z, v := true, c := false }

/-- The register and flags of a division (43 R391). -/
def divideResult (n : Reg) (q rem : Word) : Op Unit :=
  setM68k fun m => (m.setD n (rem ++ q)).setCcr { x := m.ccr.x, n := q.msb, z := q = 0#16, v := false, c := false }

/-- DIVU (43 R391). Cycles data: the dividend, the divisor, and whether it overflowed. -/
def execDivu (ea : Ea) (n : Reg) (s : State) : Host.Outcome State Fault Refusal :=
  run68k (.divu ea n) (do
    let v ← readEa .w ea
    if v = 0#16 then zeroDivide
    let m ← m68kRegs
    let q := (m.dreg n).toNat / v.toNat
    let r := (m.dreg n).toNat % v.toNat
    if 0xFFFF < q then divideOverflow else divideResult n (BitVec.ofNat 16 q) (BitVec.ofNat 16 r)
    pure [(m.dreg n).toNat, v.toNat, if 0xFFFF < q then 1 else 0]) s

/-- DIVS, the quotient truncated toward zero (43 R392). Cycles data: as DIVU. -/
def execDivs (ea : Ea) (n : Reg) (s : State) : Host.Outcome State Fault Refusal :=
  run68k (.divs ea n) (do
    let v ← readEa .w ea
    if v = 0#16 then zeroDivide
    let m ← m68kRegs
    let q := (m.dreg n).toInt.tdiv v.toInt
    let r := (m.dreg n).toInt - q * v.toInt
    if q < -32768 ∨ 32767 < q then divideOverflow else divideResult n (BitVec.ofInt 16 q) (BitVec.ofInt 16 r)
    pure [(m.dreg n).toNat, v.toNat, if q < -32768 ∨ 32767 < q then 1 else 0]) s

/-- EXT.W (43 R393). -/
def execExtW (n : Reg) (s : State) : Host.Outcome State Fault Refusal :=
  run68k (.extW n) (do
    let m ← m68kRegs
    let r : Word := ((m.dreg n).setWidth 8).signExtend 16
    setM68k fun m => (m.setDPart n .w r).setCcr (flagsLogic r m.ccr)
    pure []) s

/-- EXT.L (43 R393). -/
def execExtL (n : Reg) (s : State) : Host.Outcome State Fault Refusal :=
  run68k (.extL n) (do
    let m ← m68kRegs
    setProduct n (((m.dreg n).setWidth 16).signExtend 32)
    pure []) s

/-- CHK (43 R394): vector 6 when the register is negative or above the bound; Z V C are free, N too in bounds. -/
def execChk (ea : Ea) (n : Reg) (s : State) : Host.Outcome State Fault Refusal :=
  run68k (.chk ea n) (do
    let b ← readEa .w ea
    let z ← draw68k
    let v ← draw68k
    let c ← draw68k
    let m ← m68kRegs
    let w := ((m.dreg n).setWidth 16).toInt
    if w < 0 then do
      setCcr { x := m.ccr.x, n := true, z := z, v := v, c := c }
      raise68k 6 m.pc
    else if b.toInt < w then do
      setCcr { x := m.ccr.x, n := false, z := z, v := v, c := c }
      raise68k 6 m.pc
    else do
      let free ← draw68k
      setCcr { x := m.ccr.x, n := free, z := z, v := v, c := c }
    pure []) s

end Sys2Proof.Machine
end

