-- ==== Sys2Proof/Machine/M68kControl.lean ====
section
/-! DEFINITION. M68K program control, traps and system instructions (spec/45_m68k_control_system.md). -/

namespace Sys2Proof.Machine

/-- `jump(t)`: the target is not checked (45 R470). -/
def jump (t : Long) : Op Unit := setM68k fun m => { m with pc := t }

/-- The displacement of a branch, its extension word fetched (45 R471). -/
def branchDisp (d : Disp) : Op Long :=
  match d with
  | .short b => pure (b.signExtend 32)
  | .word w => do
    skipWords 1
    pure (w.signExtend 32)

/-- Cycles data of a branch: its displacement size in words. -/
def dispWords : Disp → Nat
  | .short _ => 0
  | .word _ => 1

/-- Bcc (45 R471). Cycles data: taken, and the displacement size. -/
def execBcc (cnd : Cond) (disp : Disp) (s : State) : Host.Outcome State Fault Refusal :=
  run68k (.bcc cnd disp) (do
    let base ← m68kRegs
    let d ← branchDisp disp
    let f ← getCcr
    if f.holds cnd then jump (base.pc + d)
    pure [(f.holds cnd).toNat, dispWords disp]) s

/-- BRA (45 R472). Cycles data: as Bcc, taken. -/
def execBra (disp : Disp) (s : State) : Host.Outcome State Fault Refusal :=
  run68k (.bra disp) (do
    let base ← m68kRegs
    let d ← branchDisp disp
    jump (base.pc + d)
    pure [1, dispWords disp]) s

/-- BSR (45 R473); its rule names no cycles data. -/
def execBsr (disp : Disp) (s : State) : Host.Outcome State Fault Refusal :=
  run68k (.bsr disp) (do
    let base ← m68kRegs
    let d ← branchDisp disp
    let m ← m68kRegs
    push68k .l m.pc
    jump (base.pc + d)
    pure []) s

/-- DBcc (45 R474). Cycles data: 0 condition true, 1 counter expired, 2 branch taken. -/
def execDbcc (cnd : Cond) (n : Reg) (d : Word) (s : State) : Host.Outcome State Fault Refusal :=
  run68k (.dbcc cnd n d) (do
    let base ← m68kRegs
    skipWords 1
    let f ← getCcr
    if f.holds cnd then pure [0]
    else do
      let m ← m68kRegs
      let k : Word := (m.dreg n).setWidth 16 - 1#16
      setM68k fun m => m.setDPart n .w k
      if k = 0xFFFF#16 then pure [1]
      else do
        jump (base.pc + d.signExtend 32)
        pure [2]) s

/-- Scc: no read of the destination (45 R475); its rule names no cycles data. -/
def execScc (cnd : Cond) (ea : Ea) (s : State) : Host.Outcome State Fault Refusal :=
  run68k (.scc cnd ea) (do
    let t ← resolve .b ea
    let f ← getCcr
    writeLoc .b t (if f.holds cnd then 0xFF#8 else 0x00#8)
    pure []) s

/-- JMP (45 R476). -/
def execJmp (ea : Ea) (s : State) : Host.Outcome State Fault Refusal :=
  run68k (.jmp ea) (do
    let a ← resolveAddress .l ea
    jump a
    pure []) s

/-- JSR (45 R477). -/
def execJsr (ea : Ea) (s : State) : Host.Outcome State Fault Refusal :=
  run68k (.jsr ea) (do
    let a ← resolveAddress .l ea
    let m ← m68kRegs
    push68k .l m.pc
    jump a
    pure []) s

/-- RTS (45 R478). -/
def execRts (s : State) : Host.Outcome State Fault Refusal :=
  run68k .rts (do
    let t ← pop68k .l
    jump t
    pure []) s

/-- RTR (45 R479). -/
def execRtr (s : State) : Host.Outcome State Fault Refusal :=
  run68k .rtr (do
    let c ← pop68k .w
    setCcr (Ccr.ofBits (c.setWidth 5))
    let t ← pop68k .l
    jump t
    pure []) s

/-- RTE, privileged (45 R480). -/
def execRte (s : State) : Host.Outcome State Fault Refusal :=
  run68k .rte (do
    privileged
    returnException
    pure []) s

/-- TRAP (45 R481): vector 32 + v. -/
def execTrap (v : BitVec 4) (s : State) : Host.Outcome State Fault Refusal :=
  run68k (.trap v) (do
    let m ← m68kRegs
    raise68k (32 + v.toNat) m.pc) s

/-- TRAPV (45 R482): vector 7 when V is set. -/
def execTrapv (s : State) : Host.Outcome State Fault Refusal :=
  run68k .trapv (do
    let m ← m68kRegs
    if m.ccr.v then raise68k 7 m.pc
    pure []) s

/-- NOP (45 R483). -/
def execNop (s : State) : Host.Outcome State Fault Refusal := run68k .nop (pure []) s

/-- RESET, privileged: an event for OWNER's devices (45 R484). -/
def execReset (s : State) : Host.Outcome State Fault Refusal :=
  run68k .reset (do
    privileged
    Op.modify (·.record .resetDevices)
    pure []) s

/-- STOP, privileged (45 R485). -/
def execStop (imm : Word) (s : State) : Host.Outcome State Fault Refusal :=
  run68k (.stop imm) (do
    privileged
    skipWords 1
    setM68k fun m => m.writeSr imm
    setM68k fun m => { m with run := .stopped }
    pure []) s

/-- ILLEGAL and every word with no row (45 R486, 60 R714): the policy, vector 4. -/
def execIllegal (w : Word) (s : State) : Host.Outcome State Fault Refusal :=
  run68k (.illegal w) (do illegalPolicy 4; pure []) s

/-- Line A (45 R487): the policy, vector 10. -/
def execLineA (w : BitVec 12) (s : State) : Host.Outcome State Fault Refusal :=
  run68k (.lineA w) (do illegalPolicy 10; pure []) s

/-- Line F (45 R488): the policy, vector 11. -/
def execLineF (w : BitVec 12) (s : State) : Host.Outcome State Fault Refusal :=
  run68k (.lineF w) (do illegalPolicy 11; pure []) s

/-- The CCR forms: the five flags combined with bits 4:0 of the immediate (45 R489 to R491). -/
def immToCcr (imm : Word) (f : BitVec 5 → BitVec 5 → BitVec 5) : Op (List Nat) := do
  skipWords 1
  let old ← getCcr
  setCcr (Ccr.ofBits (f old.bits (imm.setWidth 5)))
  pure []

/-- ORI to CCR (45 R489). -/
def execOriToCcr (imm : Word) (s : State) : Host.Outcome State Fault Refusal :=
  run68k (.oriToCcr imm) (immToCcr imm (· ||| ·)) s

/-- ANDI to CCR (45 R490). -/
def execAndiToCcr (imm : Word) (s : State) : Host.Outcome State Fault Refusal :=
  run68k (.andiToCcr imm) (immToCcr imm (· &&& ·)) s

/-- EORI to CCR (45 R491). -/
def execEoriToCcr (imm : Word) (s : State) : Host.Outcome State Fault Refusal :=
  run68k (.eoriToCcr imm) (immToCcr imm (· ^^^ ·)) s

/-- The SR forms, privileged (45 R492 to R494). -/
def immToSr (imm : Word) (f : Word → Word → Word) : Op (List Nat) := do
  privileged
  skipWords 1
  setM68k fun m => m.writeSr (f m.getSr imm)
  pure []

/-- ORI to SR (45 R492). -/
def execOriToSr (imm : Word) (s : State) : Host.Outcome State Fault Refusal :=
  run68k (.oriToSr imm) (immToSr imm (· ||| ·)) s

/-- ANDI to SR (45 R493). -/
def execAndiToSr (imm : Word) (s : State) : Host.Outcome State Fault Refusal :=
  run68k (.andiToSr imm) (immToSr imm (· &&& ·)) s

/-- EORI to SR (45 R494). -/
def execEoriToSr (imm : Word) (s : State) : Host.Outcome State Fault Refusal :=
  run68k (.eoriToSr imm) (immToSr imm (· ^^^ ·)) s

end Sys2Proof.Machine
end

