-- ==== Sys2Proof/Machine/M68kLogic.lean ====
section
/-! DEFINITION. M68K logic, shift, rotate and bit instructions (spec/44_m68k_logic_shift_bit.md). -/

namespace Sys2Proof.Machine

/-- AND to Dn (44 R421). -/
def execAndToDn (sz : Size) (ea : Ea) (n : Reg) (s : State) : Host.Outcome State Fault Refusal :=
  run68k (.andToDn sz ea n) (eaToDn sz ea n aluAnd) s

/-- AND to memory (44 R421). -/
def execAndToEa (sz : Size) (n : Reg) (ea : Ea) (s : State) : Host.Outcome State Fault Refusal :=
  run68k (.andToEa sz n ea) (dnToEa sz n ea aluAnd) s

/-- ANDI (44 R422). -/
def execAndi (sz : Size) (imm : Long) (ea : Ea) (s : State) : Host.Outcome State Fault Refusal :=
  run68k (.andi sz imm ea) (immToEa sz imm ea aluAnd) s

/-- OR to Dn (44 R423). -/
def execOrToDn (sz : Size) (ea : Ea) (n : Reg) (s : State) : Host.Outcome State Fault Refusal :=
  run68k (.orToDn sz ea n) (eaToDn sz ea n aluOr) s

/-- OR to memory (44 R423). -/
def execOrToEa (sz : Size) (n : Reg) (ea : Ea) (s : State) : Host.Outcome State Fault Refusal :=
  run68k (.orToEa sz n ea) (dnToEa sz n ea aluOr) s

/-- ORI (44 R424). -/
def execOri (sz : Size) (imm : Long) (ea : Ea) (s : State) : Host.Outcome State Fault Refusal :=
  run68k (.ori sz imm ea) (immToEa sz imm ea aluOr) s

/-- EOR (44 R425). -/
def execEor (sz : Size) (n : Reg) (ea : Ea) (s : State) : Host.Outcome State Fault Refusal :=
  run68k (.eor sz n ea) (dnToEa sz n ea aluEor) s

/-- EORI (44 R426). -/
def execEori (sz : Size) (imm : Long) (ea : Ea) (s : State) : Host.Outcome State Fault Refusal :=
  run68k (.eori sz imm ea) (immToEa sz imm ea aluEor) s

/-- NOT (44 R427). -/
def execNotOp (sz : Size) (ea : Ea) (s : State) : Host.Outcome State Fault Refusal :=
  run68k (.notOp sz ea) (updateEa sz ea fun d m => (~~~d, flagsLogic (~~~d) m.ccr)) s

/-- TAS (44 R428): a register operation, or one access to memory (20 R128). -/
def execTas (ea : Ea) (s : State) : Host.Outcome State Fault Refusal :=
  run68k (.tas ea) (do
    let t ← resolve .b ea
    match t with
    | .mem a => do
      let v ← tas68k a
      let f ← getCcr
      setCcr (flagsLogic v f)
    | _ => do
      let v ← readLoc .b t
      writeLoc .b t (v ||| 0x80#8)
      let f ← getCcr
      setCcr (flagsLogic v f)
    pure []) s

/-! ### Shifts and rotates -/

/-- The count of a register form (44 R429). -/
def shiftCount (c : ShiftCount) (m : M68k) : Nat :=
  match c with
  | .quick q => quickValue q
  | .reg x => (m.dreg x).toNat % 64

/-- A register form (44 R429). Cycles data: the count. -/
def shiftReg (sz : Size) (c : ShiftCount) (y : Reg) (step : Shift sz.bits → Shift sz.bits) (useV rox : Bool) :
    Op (List Nat) := do
  let m ← m68kRegs
  let k := shiftCount c m
  let r := shiftResult step useV rox k ((m.dreg y).setWidth sz.bits) m.ccr
  setM68k fun m => (m.setDPart y sz r.1).setCcr r.2
  pure [k]

/-- A memory form: one step on a word (44 R429). Cycles data: 1. -/
def shiftMem (ea : Ea) (step : Shift 16 → Shift 16) (useV rox : Bool) : Op (List Nat) := do
  let _ ← updateEa .w ea fun d m => shiftResult step useV rox 1 d m.ccr
  pure [1]

/-- ASR Dn (44 R431). -/
def execAsrReg (sz : Size) (c : ShiftCount) (y : Reg) (s : State) : Host.Outcome State Fault Refusal :=
  run68k (.asrReg sz c y) (shiftReg sz c y stepAsr false false) s

/-- ASL Dn (44 R430). -/
def execAslReg (sz : Size) (c : ShiftCount) (y : Reg) (s : State) : Host.Outcome State Fault Refusal :=
  run68k (.aslReg sz c y) (shiftReg sz c y stepAsl true false) s

/-- LSR Dn (44 R433). -/
def execLsrReg (sz : Size) (c : ShiftCount) (y : Reg) (s : State) : Host.Outcome State Fault Refusal :=
  run68k (.lsrReg sz c y) (shiftReg sz c y stepLsr false false) s

/-- LSL Dn (44 R432). -/
def execLslReg (sz : Size) (c : ShiftCount) (y : Reg) (s : State) : Host.Outcome State Fault Refusal :=
  run68k (.lslReg sz c y) (shiftReg sz c y stepLsl false false) s

/-- ROXR Dn (44 R437). -/
def execRoxrReg (sz : Size) (c : ShiftCount) (y : Reg) (s : State) : Host.Outcome State Fault Refusal :=
  run68k (.roxrReg sz c y) (shiftReg sz c y stepRoxr false true) s

/-- ROXL Dn (44 R436). -/
def execRoxlReg (sz : Size) (c : ShiftCount) (y : Reg) (s : State) : Host.Outcome State Fault Refusal :=
  run68k (.roxlReg sz c y) (shiftReg sz c y stepRoxl false true) s

/-- ROR Dn (44 R435). -/
def execRorReg (sz : Size) (c : ShiftCount) (y : Reg) (s : State) : Host.Outcome State Fault Refusal :=
  run68k (.rorReg sz c y) (shiftReg sz c y stepRor false false) s

/-- ROL Dn (44 R434). -/
def execRolReg (sz : Size) (c : ShiftCount) (y : Reg) (s : State) : Host.Outcome State Fault Refusal :=
  run68k (.rolReg sz c y) (shiftReg sz c y stepRol false false) s

/-- ASR in memory (44 R431). -/
def execAsrMem (ea : Ea) (s : State) : Host.Outcome State Fault Refusal :=
  run68k (.asrMem ea) (shiftMem ea stepAsr false false) s

/-- ASL in memory (44 R430). -/
def execAslMem (ea : Ea) (s : State) : Host.Outcome State Fault Refusal :=
  run68k (.aslMem ea) (shiftMem ea stepAsl true false) s

/-- LSR in memory (44 R433). -/
def execLsrMem (ea : Ea) (s : State) : Host.Outcome State Fault Refusal :=
  run68k (.lsrMem ea) (shiftMem ea stepLsr false false) s

/-- LSL in memory (44 R432). -/
def execLslMem (ea : Ea) (s : State) : Host.Outcome State Fault Refusal :=
  run68k (.lslMem ea) (shiftMem ea stepLsl false false) s

/-- ROXR in memory (44 R437). -/
def execRoxrMem (ea : Ea) (s : State) : Host.Outcome State Fault Refusal :=
  run68k (.roxrMem ea) (shiftMem ea stepRoxr false true) s

/-- ROXL in memory (44 R436). -/
def execRoxlMem (ea : Ea) (s : State) : Host.Outcome State Fault Refusal :=
  run68k (.roxlMem ea) (shiftMem ea stepRoxl false true) s

/-- ROR in memory (44 R435). -/
def execRorMem (ea : Ea) (s : State) : Host.Outcome State Fault Refusal :=
  run68k (.rorMem ea) (shiftMem ea stepRor false false) s

/-- ROL in memory (44 R434). -/
def execRolMem (ea : Ea) (s : State) : Host.Outcome State Fault Refusal :=
  run68k (.rolMem ea) (shiftMem ea stepRol false false) s

/-! ### Bit operations -/

/-- The operand with one bit changed. -/
abbrev BitChange := {n : Nat} → BitVec n → BitVec n → BitVec n

/-- BTST (44 R439): Z from one bit, nothing written. -/
def bitTest (ea : Ea) (k : Long) : Op (List Nat) := do
  let v ← readEa (bitOpSize ea) ea
  let f ← getCcr
  setCcr { f with z := !v.getLsbD (bitNumber (bitOpSize ea) k) }
  pure []

/-- BCHG, BCLR and BSET (44 R440 to R442): Z from the bit before the change. -/
def bitUpdate (ea : Ea) (k : Long) (change : BitChange) : Op (List Nat) :=
  updateEa (bitOpSize ea) ea fun d m =>
    let b := bitNumber (bitOpSize ea) k
    (change d (1#(bitOpSize ea).bits <<< b), { m.ccr with z := !d.getLsbD b })

/-- The bit number of a static form: bits 7:0 of its word (44 R438). -/
def staticBit (k : Word) : Long := (k.setWidth 8).setWidth 32

/-- BCHG's change (44 R440). -/
def bitFlip : BitChange := fun v b => v ^^^ b

/-- BCLR's change (44 R441). -/
def bitClear : BitChange := fun v b => v &&& ~~~b

/-- BSET's change (44 R442). -/
def bitSet : BitChange := fun v b => v ||| b

/-- BTST, static (44 R439). -/
def execBtstImm (k : Word) (ea : Ea) (s : State) : Host.Outcome State Fault Refusal :=
  run68k (.btstImm k ea) (do skipWords 1; bitTest ea (staticBit k)) s

/-- BCHG, static (44 R440). -/
def execBchgImm (k : Word) (ea : Ea) (s : State) : Host.Outcome State Fault Refusal :=
  run68k (.bchgImm k ea) (do skipWords 1; bitUpdate ea (staticBit k) bitFlip) s

/-- BCLR, static (44 R441). -/
def execBclrImm (k : Word) (ea : Ea) (s : State) : Host.Outcome State Fault Refusal :=
  run68k (.bclrImm k ea) (do skipWords 1; bitUpdate ea (staticBit k) bitClear) s

/-- BSET, static (44 R442). -/
def execBsetImm (k : Word) (ea : Ea) (s : State) : Host.Outcome State Fault Refusal :=
  run68k (.bsetImm k ea) (do skipWords 1; bitUpdate ea (staticBit k) bitSet) s

/-- BTST, dynamic (44 R439). -/
def execBtstReg (n : Reg) (ea : Ea) (s : State) : Host.Outcome State Fault Refusal :=
  run68k (.btstReg n ea) (do let m ← m68kRegs; bitTest ea (m.dreg n)) s

/-- BCHG, dynamic (44 R440). -/
def execBchgReg (n : Reg) (ea : Ea) (s : State) : Host.Outcome State Fault Refusal :=
  run68k (.bchgReg n ea) (do let m ← m68kRegs; bitUpdate ea (m.dreg n) bitFlip) s

/-- BCLR, dynamic (44 R441). -/
def execBclrReg (n : Reg) (ea : Ea) (s : State) : Host.Outcome State Fault Refusal :=
  run68k (.bclrReg n ea) (do let m ← m68kRegs; bitUpdate ea (m.dreg n) bitClear) s

/-- BSET, dynamic (44 R442). -/
def execBsetReg (n : Reg) (ea : Ea) (s : State) : Host.Outcome State Fault Refusal :=
  run68k (.bsetReg n ea) (do let m ← m68kRegs; bitUpdate ea (m.dreg n) bitSet) s

/-- ABCD: decimal arithmetic is refused (30 R196). -/
def execAbcd (_mem : Bool) (_y _x : Reg) (s : State) : Host.Outcome State Fault Refusal := refuse .unimplementedBcd s

/-- SBCD: decimal arithmetic is refused (30 R196). -/
def execSbcd (_mem : Bool) (_y _x : Reg) (s : State) : Host.Outcome State Fault Refusal := refuse .unimplementedBcd s

/-- NBCD: decimal arithmetic is refused (30 R196). -/
def execNbcd (_ea : Ea) (s : State) : Host.Outcome State Fault Refusal := refuse .unimplementedBcd s

end Sys2Proof.Machine
end

