-- ==== Sys2Proof/Machine/M68kMove.lean ====
section
/-! DEFINITION. M68K data movement (spec/42_m68k_move.md). -/

namespace Sys2Proof.Machine

/-- MOVE: both operands are resolved, then the source is read and the destination written (42 R331). -/
def moveOp (sz : Size) (src dst : Ea) : Op (List Nat) := do
  let s ← resolve sz src
  let t ← resolve sz dst
  let v ← readLoc sz s
  writeLoc sz t v
  let f ← getCcr
  setCcr (flagsLogic v f)
  pure []

/-- MOVE.B (42 R331). -/
def execMoveB (src dst : Ea) (s : State) : Host.Outcome State Fault Refusal :=
  run68k (.moveB src dst) (moveOp .b src dst) s

/-- MOVE.L (42 R331). -/
def execMoveL (src dst : Ea) (s : State) : Host.Outcome State Fault Refusal :=
  run68k (.moveL src dst) (moveOp .l src dst) s

/-- MOVE.W (42 R331). -/
def execMoveW (src dst : Ea) (s : State) : Host.Outcome State Fault Refusal :=
  run68k (.moveW src dst) (moveOp .w src dst) s

/-- MOVEA: a word is sign-extended (42 R332). -/
def moveaOp (sz : Size) (src : Ea) (n : Reg) : Op (List Nat) := do
  let v ← readEa sz src
  setM68k fun m => m.setA n (v.signExtend 32)
  pure []

/-- MOVEA.L (42 R332). -/
def execMoveaL (src : Ea) (n : Reg) (s : State) : Host.Outcome State Fault Refusal :=
  run68k (.moveaL src n) (moveaOp .l src n) s

/-- MOVEA.W (42 R332). -/
def execMoveaW (src : Ea) (n : Reg) (s : State) : Host.Outcome State Fault Refusal :=
  run68k (.moveaW src n) (moveaOp .w src n) s

/-- Write a whole data register and the flags of the 32-bit result (41 R306). -/
def setDLogic (n : Reg) (v : Long) : Op Unit := setM68k fun m => (m.setD n v).setCcr (flagsLogic v m.ccr)

/-- MOVEQ (42 R333). -/
def execMoveq (n : Reg) (d : Byte) (s : State) : Host.Outcome State Fault Refusal :=
  run68k (.moveq n d) (do setDLogic n (d.signExtend 32); pure []) s

/-- The registers a MOVEM mask selects, in the order they are transferred: bit 0 first (42 R334, R335). -/
def maskBits (mask : Word) : List (BitVec 4) :=
  ((List.range 16).filter fun i => mask.getLsbD i).map (BitVec.ofNat 4)

/-- MOVEM stores at falling addresses; the base register is stored as it was at first (42 R334). Bit `i` of the mask selects
register `15 - i`. -/
def movemStoreDown (sz : Size) (base : Reg) (a0 : Long) : List (BitVec 4) → Long → Op Long
  | [], a => pure a
  | i :: r, a => do
    let m ← m68kRegs
    let k := 15#4 - i
    let a := a - BitVec.ofNat 32 sz.bytes
    let v := if k = 1#1 ++ base then a0 else m.regFile k
    store68k sz a (v.setWidth sz.bits)
    movemStoreDown sz base a0 r a

/-- MOVEM stores at rising addresses (42 R334). -/
def movemStoreUp (sz : Size) : List (BitVec 4) → Long → Op Unit
  | [], _ => pure ()
  | i :: r, a => do
    let m ← m68kRegs
    store68k sz a ((m.regFile i).setWidth sz.bits)
    movemStoreUp sz r (a + BitVec.ofNat 32 sz.bytes)

/-- MOVEM loads at rising addresses, words sign-extended (42 R335). -/
def movemLoadUp (sz : Size) : List (BitVec 4) → Long → Op Long
  | [], a => pure a
  | i :: r, a => do
    let v ← load68k sz a
    setM68k fun m => m.setRegFile i (v.signExtend 32)
    movemLoadUp sz r (a + BitVec.ofNat 32 sz.bytes)

/-- MOVEM registers to memory (42 R334); its rule names no cycles data. -/
def execMovemStore (sz : Size) (mask : Word) (ea : Ea) (s : State) : Host.Outcome State Fault Refusal :=
  run68k (.movemStore sz mask ea) (do
    skipWords 1
    match ea with
    | .pre n => do
      let m ← m68kRegs
      let a ← movemStoreDown sz n (m.areg n) (maskBits mask) (m.areg n)
      setM68k fun m => m.setA n a
    | _ => do
      let a ← resolveAddress sz ea
      movemStoreUp sz (maskBits mask) a
    pure []) s

/-- MOVEM memory to registers (42 R335); its rule names no cycles data. -/
def execMovemLoad (sz : Size) (mask : Word) (ea : Ea) (s : State) : Host.Outcome State Fault Refusal :=
  run68k (.movemLoad sz mask ea) (do
    skipWords 1
    match ea with
    | .post n => do
      let m ← m68kRegs
      let a ← movemLoadUp sz (maskBits mask) (m.areg n)
      setM68k fun m => m.setA n a
    | _ => do
      let a ← resolveAddress sz ea
      let _ ← movemLoadUp sz (maskBits mask) a
    pure []) s

/-- The bytes MOVEP moves: every second address (42 R336). -/
def movepCount : Size → Nat
  | .l => 4
  | _ => 2

/-- MOVEP's byte loads, the highest byte of the register first (42 R336). -/
def movepRead : Nat → Long → Long → Op Long
  | 0, _, v => pure v
  | k + 1, a, v => do
    let b ← load68k .b a
    movepRead k (a + 2#32) ((v <<< 8) ||| b.setWidth 32)

/-- MOVEP's byte stores, the highest byte of the register first (42 R337). -/
def movepWrite : Nat → Long → Long → Op Unit
  | 0, _, _ => pure ()
  | k + 1, a, v => do
    store68k .b a ((v >>> (8 * k)).setWidth 8)
    movepWrite k (a + 2#32) v

/-- MOVEP memory to register (42 R336). -/
def execMovepLoad (sz : Size) (x y : Reg) (d : Word) (s : State) : Host.Outcome State Fault Refusal :=
  run68k (.movepLoad sz x y d) (do
    skipWords 1
    let m ← m68kRegs
    let v ← movepRead (movepCount sz) (m.areg y + d.signExtend 32) 0
    setM68k fun m => m.setDPart x sz (v.setWidth sz.bits)
    pure []) s

/-- MOVEP register to memory (42 R337). -/
def execMovepStore (sz : Size) (x y : Reg) (d : Word) (s : State) : Host.Outcome State Fault Refusal :=
  run68k (.movepStore sz x y d) (do
    skipWords 1
    let m ← m68kRegs
    movepWrite (movepCount sz) (m.areg y + d.signExtend 32) (m.dreg x)
    pure []) s

/-- LEA (42 R338). -/
def execLea (ea : Ea) (n : Reg) (s : State) : Host.Outcome State Fault Refusal :=
  run68k (.lea ea n) (do
    let a ← resolveAddress .l ea
    setM68k fun m => m.setA n a
    pure []) s

/-- PEA (42 R339). -/
def execPea (ea : Ea) (s : State) : Host.Outcome State Fault Refusal :=
  run68k (.pea ea) (do
    let a ← resolveAddress .l ea
    push68k .l a
    pure []) s

/-- EXG Dx,Dy (42 R340). -/
def execExgDD (x y : Reg) (s : State) : Host.Outcome State Fault Refusal :=
  run68k (.exgDD x y) (do setM68k fun m => (m.setD x (m.dreg y)).setD y (m.dreg x); pure []) s

/-- EXG Ax,Ay (42 R340). -/
def execExgAA (x y : Reg) (s : State) : Host.Outcome State Fault Refusal :=
  run68k (.exgAA x y) (do setM68k fun m => (m.setA x (m.areg y)).setA y (m.areg x); pure []) s

/-- EXG Dx,Ay (42 R340). -/
def execExgDA (x y : Reg) (s : State) : Host.Outcome State Fault Refusal :=
  run68k (.exgDA x y) (do setM68k fun m => (m.setD x (m.areg y)).setA y (m.dreg x); pure []) s

/-- SWAP (42 R341). -/
def execSwap (n : Reg) (s : State) : Host.Outcome State Fault Refusal :=
  run68k (.swap n) (do
    let m ← m68kRegs
    let v := m.dreg n
    setDLogic n (v.extractLsb' 0 16 ++ v.extractLsb' 16 16)
    pure []) s

/-- LINK; LINK A7 is refused (42 R342). -/
def execLink (n : Reg) (d : Word) (s : State) : Host.Outcome State Fault Refusal :=
  run68k (.link n d) (do
    skipWords 1
    if n = 7#3 then Op.stop (.refused .linkA7)
    let m ← m68kRegs
    push68k .l (m.areg n)
    setM68k fun m => m.setA n m.sp
    setM68k fun m => m.setSp (m.sp + d.signExtend 32)
    pure []) s

/-- UNLK; UNLK A7 is refused (42 R343). -/
def execUnlk (n : Reg) (s : State) : Host.Outcome State Fault Refusal :=
  run68k (.unlk n) (do
    if n = 7#3 then Op.stop (.refused .linkA7)
    setM68k fun m => m.setSp (m.areg n)
    let m ← m68kRegs
    let v ← load68k .l m.sp
    setM68k fun m => m.setA n v
    setM68k fun m => m.setSp (m.sp + 4#32)
    pure []) s

/-- MOVE to CCR (42 R344). -/
def execMoveToCcr (ea : Ea) (s : State) : Host.Outcome State Fault Refusal :=
  run68k (.moveToCcr ea) (do
    let v ← readEa .w ea
    setCcr (Ccr.ofBits (v.setWidth 5))
    pure []) s

/-- MOVE to SR, privileged (42 R345). -/
def execMoveToSr (ea : Ea) (s : State) : Host.Outcome State Fault Refusal :=
  run68k (.moveToSr ea) (do
    privileged
    let v ← readEa .w ea
    setM68k fun m => m.writeSr v
    pure []) s

/-- MOVE from SR: no read of the destination, not privileged (42 R346). -/
def execMoveFromSr (ea : Ea) (s : State) : Host.Outcome State Fault Refusal :=
  run68k (.moveFromSr ea) (do
    let t ← resolve .w ea
    let m ← m68kRegs
    writeLoc .w t m.getSr
    pure []) s

/-- MOVE USP, privileged (42 R347): the other stack pointer is OSP (10 R43). -/
def execMoveUsp (toAn : Bool) (n : Reg) (s : State) : Host.Outcome State Fault Refusal :=
  run68k (.moveUsp toAn n) (do
    privileged
    if toAn then setM68k fun m => m.setA n m.osp else setM68k fun m => { m with osp := m.areg n }
    pure []) s

end Sys2Proof.Machine
end

