-- ==== Sys2Proof/Machine/Z80Arith.lean ====
section
/-! DEFINITION. Z80 arithmetic and logic (spec/47_z80_arith_logic_rotate_bit.md, sections 1 and 2). -/

namespace Sys2Proof.Machine

/-- What an 8-bit ALU instruction leaves in A, and the flags, from A, the source and CF (47 R571 to R578). -/
abbrev Alu8 := Byte → Byte → Bool → Byte × ZFlags

/-- ADD A,s (47 R571). -/
def alu8Add : Alu8 := fun a v _ => add8 a v false

/-- ADC A,s (47 R572). -/
def alu8Adc : Alu8 := fun a v c => add8 a v c

/-- SUB s (47 R573). -/
def alu8Sub : Alu8 := fun a v _ => sub8 a v false

/-- SBC A,s (47 R574). -/
def alu8Sbc : Alu8 := fun a v c => sub8 a v c

/-- AND s (47 R575). -/
def alu8And : Alu8 := fun a v _ => (a &&& v, logicFlags (a &&& v) true)

/-- OR s (47 R576). -/
def alu8Or : Alu8 := fun a v _ => (a ||| v, logicFlags (a ||| v) false)

/-- XOR s (47 R577). -/
def alu8Xor : Alu8 := fun a v _ => (a ^^^ v, logicFlags (a ^^^ v) false)

/-- CP s: A is unchanged (47 R578). -/
def alu8Cp : Alu8 := fun a v _ => (a, (sub8 a v false).2)

/-- An 8-bit ALU instruction on a source value. -/
def accumulate (f : Alu8) (v : Byte) : Op (List Nat) := do
  let z ← z80Regs
  let r := f z.a v z.flags.c
  setZ80 fun z => { z with a := r.1 }
  setFlags r.2
  pure []

/-- ADD with a register or (HL) (47 R571). -/
def execZAddR (o : ZOp8) (s : State) : Host.Outcome State Fault Refusal :=
  runZ80 (.zAddR o) (fun _ => do
    let v ← readOp8 o
    accumulate alu8Add v) s

/-- ADD n (47 R571). -/
def execZAddN (n : Byte) (s : State) : Host.Outcome State Fault Refusal :=
  runZ80 (.zAddN n) (fun _ => accumulate alu8Add n) s

/-- ADD with (IX+d) or (IY+d) (47 R571). -/
def execZAddXd (x : Idx) (d : Byte) (s : State) : Host.Outcome State Fault Refusal :=
  runZ80 (.zAddXd x d) (fun _ => do
    let v ← readXd x d
    accumulate alu8Add v) s

/-- ADC with a register or (HL) (47 R572). -/
def execZAdcR (o : ZOp8) (s : State) : Host.Outcome State Fault Refusal :=
  runZ80 (.zAdcR o) (fun _ => do
    let v ← readOp8 o
    accumulate alu8Adc v) s

/-- ADC n (47 R572). -/
def execZAdcN (n : Byte) (s : State) : Host.Outcome State Fault Refusal :=
  runZ80 (.zAdcN n) (fun _ => accumulate alu8Adc n) s

/-- ADC with (IX+d) or (IY+d) (47 R572). -/
def execZAdcXd (x : Idx) (d : Byte) (s : State) : Host.Outcome State Fault Refusal :=
  runZ80 (.zAdcXd x d) (fun _ => do
    let v ← readXd x d
    accumulate alu8Adc v) s

/-- SUB with a register or (HL) (47 R573). -/
def execZSubR (o : ZOp8) (s : State) : Host.Outcome State Fault Refusal :=
  runZ80 (.zSubR o) (fun _ => do
    let v ← readOp8 o
    accumulate alu8Sub v) s

/-- SUB n (47 R573). -/
def execZSubN (n : Byte) (s : State) : Host.Outcome State Fault Refusal :=
  runZ80 (.zSubN n) (fun _ => accumulate alu8Sub n) s

/-- SUB with (IX+d) or (IY+d) (47 R573). -/
def execZSubXd (x : Idx) (d : Byte) (s : State) : Host.Outcome State Fault Refusal :=
  runZ80 (.zSubXd x d) (fun _ => do
    let v ← readXd x d
    accumulate alu8Sub v) s

/-- SBC with a register or (HL) (47 R574). -/
def execZSbcR (o : ZOp8) (s : State) : Host.Outcome State Fault Refusal :=
  runZ80 (.zSbcR o) (fun _ => do
    let v ← readOp8 o
    accumulate alu8Sbc v) s

/-- SBC n (47 R574). -/
def execZSbcN (n : Byte) (s : State) : Host.Outcome State Fault Refusal :=
  runZ80 (.zSbcN n) (fun _ => accumulate alu8Sbc n) s

/-- SBC with (IX+d) or (IY+d) (47 R574). -/
def execZSbcXd (x : Idx) (d : Byte) (s : State) : Host.Outcome State Fault Refusal :=
  runZ80 (.zSbcXd x d) (fun _ => do
    let v ← readXd x d
    accumulate alu8Sbc v) s

/-- AND with a register or (HL) (47 R575). -/
def execZAndR (o : ZOp8) (s : State) : Host.Outcome State Fault Refusal :=
  runZ80 (.zAndR o) (fun _ => do
    let v ← readOp8 o
    accumulate alu8And v) s

/-- AND n (47 R575). -/
def execZAndN (n : Byte) (s : State) : Host.Outcome State Fault Refusal :=
  runZ80 (.zAndN n) (fun _ => accumulate alu8And n) s

/-- AND with (IX+d) or (IY+d) (47 R575). -/
def execZAndXd (x : Idx) (d : Byte) (s : State) : Host.Outcome State Fault Refusal :=
  runZ80 (.zAndXd x d) (fun _ => do
    let v ← readXd x d
    accumulate alu8And v) s

/-- XOR with a register or (HL) (47 R577). -/
def execZXorR (o : ZOp8) (s : State) : Host.Outcome State Fault Refusal :=
  runZ80 (.zXorR o) (fun _ => do
    let v ← readOp8 o
    accumulate alu8Xor v) s

/-- XOR n (47 R577). -/
def execZXorN (n : Byte) (s : State) : Host.Outcome State Fault Refusal :=
  runZ80 (.zXorN n) (fun _ => accumulate alu8Xor n) s

/-- XOR with (IX+d) or (IY+d) (47 R577). -/
def execZXorXd (x : Idx) (d : Byte) (s : State) : Host.Outcome State Fault Refusal :=
  runZ80 (.zXorXd x d) (fun _ => do
    let v ← readXd x d
    accumulate alu8Xor v) s

/-- OR with a register or (HL) (47 R576). -/
def execZOrR (o : ZOp8) (s : State) : Host.Outcome State Fault Refusal :=
  runZ80 (.zOrR o) (fun _ => do
    let v ← readOp8 o
    accumulate alu8Or v) s

/-- OR n (47 R576). -/
def execZOrN (n : Byte) (s : State) : Host.Outcome State Fault Refusal :=
  runZ80 (.zOrN n) (fun _ => accumulate alu8Or n) s

/-- OR with (IX+d) or (IY+d) (47 R576). -/
def execZOrXd (x : Idx) (d : Byte) (s : State) : Host.Outcome State Fault Refusal :=
  runZ80 (.zOrXd x d) (fun _ => do
    let v ← readXd x d
    accumulate alu8Or v) s

/-- CP with a register or (HL) (47 R578). -/
def execZCpR (o : ZOp8) (s : State) : Host.Outcome State Fault Refusal :=
  runZ80 (.zCpR o) (fun _ => do
    let v ← readOp8 o
    accumulate alu8Cp v) s

/-- CP n (47 R578). -/
def execZCpN (n : Byte) (s : State) : Host.Outcome State Fault Refusal :=
  runZ80 (.zCpN n) (fun _ => accumulate alu8Cp n) s

/-- CP with (IX+d) or (IY+d) (47 R578). -/
def execZCpXd (x : Idx) (d : Byte) (s : State) : Host.Outcome State Fault Refusal :=
  runZ80 (.zCpXd x d) (fun _ => do
    let v ← readXd x d
    accumulate alu8Cp v) s

/-- INC on a value: its flags are written, and the result answered (47 R579). -/
def incValue (v : Byte) : Op Byte := do
  let f ← getFlags
  setFlags (incFlags v f)
  pure (v + 1#8)

/-- DEC on a value (47 R580). -/
def decValue (v : Byte) : Op Byte := do
  let f ← getFlags
  setFlags (decFlags v f)
  pure (v - 1#8)

/-- INC r and INC (HL) (47 R579). -/
def execZIncR (o : ZOp8) (s : State) : Host.Outcome State Fault Refusal :=
  runZ80 (.zIncR o) (fun _ => do updateOp8 o incValue; pure []) s

/-- INC (IX+d) and INC (IY+d) (47 R579). -/
def execZIncXd (x : Idx) (d : Byte) (s : State) : Host.Outcome State Fault Refusal :=
  runZ80 (.zIncXd x d) (fun _ => do updateXd x d incValue; pure []) s

/-- DEC r and DEC (HL) (47 R580). -/
def execZDecR (o : ZOp8) (s : State) : Host.Outcome State Fault Refusal :=
  runZ80 (.zDecR o) (fun _ => do updateOp8 o decValue; pure []) s

/-- DEC (IX+d) and DEC (IY+d) (47 R580). -/
def execZDecXd (x : Idx) (d : Byte) (s : State) : Host.Outcome State Fault Refusal :=
  runZ80 (.zDecXd x d) (fun _ => do updateXd x d decValue; pure []) s

/-- CPL (47 R581). -/
def execZCpl (s : State) : Host.Outcome State Fault Refusal :=
  runZ80 .zCpl (fun _ => do
    let f ← getFlags
    setZ80 fun z => { z with a := ~~~z.a }
    setFlags { f with h := true, n := true }
    pure []) s

/-- NEG (47 R582). -/
def execZNeg (s : State) : Host.Outcome State Fault Refusal :=
  runZ80 .zNeg (fun _ => do
    let z ← z80Regs
    let r := sub8 0#8 z.a false
    setZ80 fun z => { z with a := r.1 }
    setFlags r.2
    pure []) s

/-- CCF (47 R583). -/
def execZCcf (s : State) : Host.Outcome State Fault Refusal :=
  runZ80 .zCcf (fun _ => do
    let f ← getFlags
    setFlags { f with h := f.c, c := !f.c, n := false }
    pure []) s

/-- SCF (47 R584). -/
def execZScf (s : State) : Host.Outcome State Fault Refusal :=
  runZ80 .zScf (fun _ => do
    let f ← getFlags
    setFlags { f with c := true, h := false, n := false }
    pure []) s

/-- DAA: decimal arithmetic is refused (30 R196). -/
def execZDaa (s : State) : Host.Outcome State Fault Refusal := refuse .unimplementedBcd s

/-! ### 16-bit arithmetic -/

/-- ADD HL,ss (47 R585). -/
def execZAddHl (p : ZPair) (s : State) : Host.Outcome State Fault Refusal :=
  runZ80 (.zAddHl p) (fun _ => do
    let z ← z80Regs
    let r := add16 z.hl (z.pair p) z.flags
    setZ80 fun z => z.setHl r.1
    setFlags r.2
    pure []) s

/-- ADC HL,ss (47 R586). -/
def execZAdcHl (p : ZPair) (s : State) : Host.Outcome State Fault Refusal :=
  runZ80 (.zAdcHl p) (fun _ => do
    let z ← z80Regs
    let r := adc16 z.hl (z.pair p) z.flags.c
    setZ80 fun z => z.setHl r.1
    setFlags r.2
    pure []) s

/-- SBC HL,ss (47 R587). -/
def execZSbcHl (p : ZPair) (s : State) : Host.Outcome State Fault Refusal :=
  runZ80 (.zSbcHl p) (fun _ => do
    let z ← z80Regs
    let r := sbc16 z.hl (z.pair p) z.flags.c
    setZ80 fun z => z.setHl r.1
    setFlags r.2
    pure []) s

/-- ADD IX,pp and ADD IY,pp (47 R588). -/
def execZAddXx (x : Idx) (p : ZPairX) (s : State) : Host.Outcome State Fault Refusal :=
  runZ80 (.zAddXx x p) (fun _ => do
    let z ← z80Regs
    let r := add16 (z.idx x) (z.pairX x p) z.flags
    setZ80 fun z => z.setIdx x r.1
    setFlags r.2
    pure []) s

/-- INC ss (47 R589). -/
def execZIncPair (p : ZPair) (s : State) : Host.Outcome State Fault Refusal :=
  runZ80 (.zIncPair p) (fun _ => do setZ80 fun z => z.setPair p (z.pair p + 1#16); pure []) s

/-- DEC ss (47 R590). -/
def execZDecPair (p : ZPair) (s : State) : Host.Outcome State Fault Refusal :=
  runZ80 (.zDecPair p) (fun _ => do setZ80 fun z => z.setPair p (z.pair p - 1#16); pure []) s

/-- INC IX and INC IY (47 R589). -/
def execZIncXx (x : Idx) (s : State) : Host.Outcome State Fault Refusal :=
  runZ80 (.zIncXx x) (fun _ => do setZ80 fun z => z.setIdx x (z.idx x + 1#16); pure []) s

/-- DEC IX and DEC IY (47 R590). -/
def execZDecXx (x : Idx) (s : State) : Host.Outcome State Fault Refusal :=
  runZ80 (.zDecXx x) (fun _ => do setZ80 fun z => z.setIdx x (z.idx x - 1#16); pure []) s

end Sys2Proof.Machine
end

