-- ==== Sys2Proof/Machine/Z80Bit.lean ====
section
/-! DEFINITION. Z80 rotates, shifts and bit operations (spec/47_z80_arith_logic_rotate_bit.md, sections 3 to 5). -/

namespace Sys2Proof.Machine

/-- An accumulator rotate: CF, HF and NF change, SF ZF PF do not (47 R591 to R594). -/
def rotateA (k : Rot) : Op (List Nat) := do
  let z ← z80Regs
  let r := k.apply z.a z.flags.c
  setZ80 fun z => { z with a := r.1 }
  setFlags { z.flags with c := r.2, h := false, n := false }
  pure []

/-- RLCA (47 R591). -/
def execZRlca (s : State) : Host.Outcome State Fault Refusal := runZ80 .zRlca (fun _ => rotateA .rlc) s

/-- RLA (47 R592). -/
def execZRla (s : State) : Host.Outcome State Fault Refusal := runZ80 .zRla (fun _ => rotateA .rl) s

/-- RRCA (47 R593). -/
def execZRrca (s : State) : Host.Outcome State Fault Refusal := runZ80 .zRrca (fun _ => rotateA .rrc) s

/-- RRA (47 R594). -/
def execZRra (s : State) : Host.Outcome State Fault Refusal := runZ80 .zRra (fun _ => rotateA .rr) s

/-- A rotate or shift of the CB page on a value (47 R595 to R601). -/
def rotateValue (k : Rot) (v : Byte) : Op Byte := do
  let f ← getFlags
  let r := k.apply v f.c
  setFlags (rotFlags r.1 r.2)
  pure r.1

/-- RLC on a register or (HL) (47 R595). -/
def execZRlc (o : ZOp8) (s : State) : Host.Outcome State Fault Refusal :=
  runZ80 (.zRlc o) (fun _ => do updateOp8 o (rotateValue .rlc); pure []) s

/-- RLC on (IX+d) or (IY+d) (47 R595). -/
def execZRlcXd (x : Idx) (d : Byte) (s : State) : Host.Outcome State Fault Refusal :=
  runZ80 (.zRlcXd x d) (fun _ => do updateXd x d (rotateValue .rlc); pure []) s

/-- RRC on a register or (HL) (47 R597). -/
def execZRrc (o : ZOp8) (s : State) : Host.Outcome State Fault Refusal :=
  runZ80 (.zRrc o) (fun _ => do updateOp8 o (rotateValue .rrc); pure []) s

/-- RRC on (IX+d) or (IY+d) (47 R597). -/
def execZRrcXd (x : Idx) (d : Byte) (s : State) : Host.Outcome State Fault Refusal :=
  runZ80 (.zRrcXd x d) (fun _ => do updateXd x d (rotateValue .rrc); pure []) s

/-- RL on a register or (HL) (47 R596). -/
def execZRl (o : ZOp8) (s : State) : Host.Outcome State Fault Refusal :=
  runZ80 (.zRl o) (fun _ => do updateOp8 o (rotateValue .rl); pure []) s

/-- RL on (IX+d) or (IY+d) (47 R596). -/
def execZRlXd (x : Idx) (d : Byte) (s : State) : Host.Outcome State Fault Refusal :=
  runZ80 (.zRlXd x d) (fun _ => do updateXd x d (rotateValue .rl); pure []) s

/-- RR on a register or (HL) (47 R598). -/
def execZRr (o : ZOp8) (s : State) : Host.Outcome State Fault Refusal :=
  runZ80 (.zRr o) (fun _ => do updateOp8 o (rotateValue .rr); pure []) s

/-- RR on (IX+d) or (IY+d) (47 R598). -/
def execZRrXd (x : Idx) (d : Byte) (s : State) : Host.Outcome State Fault Refusal :=
  runZ80 (.zRrXd x d) (fun _ => do updateXd x d (rotateValue .rr); pure []) s

/-- SLA on a register or (HL) (47 R599). -/
def execZSla (o : ZOp8) (s : State) : Host.Outcome State Fault Refusal :=
  runZ80 (.zSla o) (fun _ => do updateOp8 o (rotateValue .sla); pure []) s

/-- SLA on (IX+d) or (IY+d) (47 R599). -/
def execZSlaXd (x : Idx) (d : Byte) (s : State) : Host.Outcome State Fault Refusal :=
  runZ80 (.zSlaXd x d) (fun _ => do updateXd x d (rotateValue .sla); pure []) s

/-- SRA on a register or (HL) (47 R600). -/
def execZSra (o : ZOp8) (s : State) : Host.Outcome State Fault Refusal :=
  runZ80 (.zSra o) (fun _ => do updateOp8 o (rotateValue .sra); pure []) s

/-- SRA on (IX+d) or (IY+d) (47 R600). -/
def execZSraXd (x : Idx) (d : Byte) (s : State) : Host.Outcome State Fault Refusal :=
  runZ80 (.zSraXd x d) (fun _ => do updateXd x d (rotateValue .sra); pure []) s

/-- SRL on a register or (HL) (47 R601). -/
def execZSrl (o : ZOp8) (s : State) : Host.Outcome State Fault Refusal :=
  runZ80 (.zSrl o) (fun _ => do updateOp8 o (rotateValue .srl); pure []) s

/-- SRL on (IX+d) or (IY+d) (47 R601). -/
def execZSrlXd (x : Idx) (d : Byte) (s : State) : Host.Outcome State Fault Refusal :=
  runZ80 (.zSrlXd x d) (fun _ => do updateXd x d (rotateValue .srl); pure []) s

/-- The flags of RLD and RRD (47 R602). -/
def digitFlags (r : Byte) (old : ZFlags) : ZFlags := { logicFlags r false with c := old.c }

/-- RLD and RRD: `mem` and `acc` give the new byte and the new A from the byte and A. -/
def rotateDigit (mem acc : Byte → Byte → Byte) : Op (List Nat) := do
  let z ← z80Regs
  let v ← loadZ80 z.hl
  storeZ80 z.hl (mem v z.a)
  setZ80 fun z => { z with a := acc v z.a }
  let t ← z80Regs
  setFlags (digitFlags t.a t.flags)
  pure []

/-- RLD (47 R602). -/
def execZRld (s : State) : Host.Outcome State Fault Refusal :=
  runZ80 .zRld (fun _ => rotateDigit (fun v a => v.extractLsb' 0 4 ++ a.extractLsb' 0 4)
    (fun v a => a.extractLsb' 4 4 ++ v.extractLsb' 4 4)) s

/-- RRD (47 R603). -/
def execZRrd (s : State) : Host.Outcome State Fault Refusal :=
  runZ80 .zRrd (fun _ => rotateDigit (fun v a => a.extractLsb' 0 4 ++ v.extractLsb' 4 4)
    (fun v a => a.extractLsb' 4 4 ++ v.extractLsb' 0 4)) s

/-- BIT on a value: SF and PF are free (47 R604). -/
def bitValue (b : BitVec 3) (v : Byte) : Op (List Nat) := do
  let free ← drawZ80
  let f ← getFlags
  setFlags { s := free.getLsbD 7, z := !v.getLsbD b.toNat, h := true, p := free.getLsbD 2, n := false, c := f.c }
  pure []

/-- BIT b,r and BIT b,(HL) (47 R604). -/
def execZBit (b : BitVec 3) (o : ZOp8) (s : State) : Host.Outcome State Fault Refusal :=
  runZ80 (.zBit b o) (fun _ => do
    let v ← readOp8 o
    bitValue b v) s

/-- BIT b,(IX+d) and BIT b,(IY+d) (47 R604). -/
def execZBitXd (x : Idx) (d : Byte) (b : BitVec 3) (s : State) : Host.Outcome State Fault Refusal :=
  runZ80 (.zBitXd x d b) (fun _ => do
    let v ← readXd x d
    bitValue b v) s

/-- SET on a value (47 R605). -/
def setBitValue (b : BitVec 3) (v : Byte) : Op Byte := pure (v ||| (1#8 <<< b.toNat))

/-- RES on a value (47 R606). -/
def resBitValue (b : BitVec 3) (v : Byte) : Op Byte := pure (v &&& ~~~(1#8 <<< b.toNat))

/-- SET b,r and SET b,(HL) (47 R605). -/
def execZSet (b : BitVec 3) (o : ZOp8) (s : State) : Host.Outcome State Fault Refusal :=
  runZ80 (.zSet b o) (fun _ => do updateOp8 o (setBitValue b); pure []) s

/-- SET b,(IX+d) and SET b,(IY+d) (47 R605). -/
def execZSetXd (x : Idx) (d : Byte) (b : BitVec 3) (s : State) : Host.Outcome State Fault Refusal :=
  runZ80 (.zSetXd x d b) (fun _ => do updateXd x d (setBitValue b); pure []) s

/-- RES b,r and RES b,(HL) (47 R606). -/
def execZRes (b : BitVec 3) (o : ZOp8) (s : State) : Host.Outcome State Fault Refusal :=
  runZ80 (.zRes b o) (fun _ => do updateOp8 o (resBitValue b); pure []) s

/-- RES b,(IX+d) and RES b,(IY+d) (47 R606). -/
def execZResXd (x : Idx) (d : Byte) (b : BitVec 3) (s : State) : Host.Outcome State Fault Refusal :=
  runZ80 (.zResXd x d b) (fun _ => do updateXd x d (resBitValue b); pure []) s

end Sys2Proof.Machine
end

