-- ==== Sys2Proof/Machine/Z80Load.lean ====
section
/-! DEFINITION. Z80 loads, exchanges, stack and block transfer (spec/46_z80_load_exchange_block.md). -/

namespace Sys2Proof.Machine

/-! ### 8-bit loads -/

/-- LD r,r' (46 R521). -/
def execZLdRR (dst src : ZReg) (s : State) : Host.Outcome State Fault Refusal :=
  runZ80 (.zLdRR dst src) (fun _ => do setZ80 fun z => z.setReg dst (z.reg src); pure []) s

/-- LD r,n (46 R522). -/
def execZLdRImm (r : ZReg) (n : Byte) (s : State) : Host.Outcome State Fault Refusal :=
  runZ80 (.zLdRImm r n) (fun _ => do setZ80 fun z => z.setReg r n; pure []) s

/-- LD r,(HL) (46 R523). -/
def execZLdRHl (r : ZReg) (s : State) : Host.Outcome State Fault Refusal :=
  runZ80 (.zLdRHl r) (fun _ => do
    let v ← readOp8 .hl
    setZ80 fun z => z.setReg r v
    pure []) s

/-- LD r,(IX+d) and LD r,(IY+d) (46 R523). -/
def execZLdRXd (x : Idx) (r : ZReg) (d : Byte) (s : State) : Host.Outcome State Fault Refusal :=
  runZ80 (.zLdRXd x r d) (fun _ => do
    let v ← readXd x d
    setZ80 fun z => z.setReg r v
    pure []) s

/-- LD (HL),r (46 R524). -/
def execZLdHlR (r : ZReg) (s : State) : Host.Outcome State Fault Refusal :=
  runZ80 (.zLdHlR r) (fun _ => do
    let z ← z80Regs
    writeOp8 .hl (z.reg r)
    pure []) s

/-- LD (IX+d),r and LD (IY+d),r (46 R524). -/
def execZLdXdR (x : Idx) (r : ZReg) (d : Byte) (s : State) : Host.Outcome State Fault Refusal :=
  runZ80 (.zLdXdR x r d) (fun _ => do
    let a ← xxd x d
    let z ← z80Regs
    storeZ80 a (z.reg r)
    pure []) s

/-- LD (HL),n (46 R525). -/
def execZLdHlImm (n : Byte) (s : State) : Host.Outcome State Fault Refusal :=
  runZ80 (.zLdHlImm n) (fun _ => do writeOp8 .hl n; pure []) s

/-- LD (IX+d),n and LD (IY+d),n (46 R525). -/
def execZLdXdImm (x : Idx) (d n : Byte) (s : State) : Host.Outcome State Fault Refusal :=
  runZ80 (.zLdXdImm x d n) (fun _ => do
    let a ← xxd x d
    storeZ80 a n
    pure []) s

/-- LD A,(BC) and LD A,(DE) (46 R526). -/
def execZLdAInd (p : BcDe) (s : State) : Host.Outcome State Fault Refusal :=
  runZ80 (.zLdAInd p) (fun _ => do
    let z ← z80Regs
    let v ← loadZ80 (z.bcDe p)
    setZ80 fun z => { z with a := v }
    pure []) s

/-- LD A,(nn) (46 R527). -/
def execZLdANn (nn : Word) (s : State) : Host.Outcome State Fault Refusal :=
  runZ80 (.zLdANn nn) (fun _ => do
    let v ← loadZ80 nn
    setZ80 fun z => { z with a := v }
    pure []) s

/-- LD (BC),A and LD (DE),A (46 R528). -/
def execZLdIndA (p : BcDe) (s : State) : Host.Outcome State Fault Refusal :=
  runZ80 (.zLdIndA p) (fun _ => do
    let z ← z80Regs
    storeZ80 (z.bcDe p) z.a
    pure []) s

/-- LD (nn),A (46 R529). -/
def execZLdNnA (nn : Word) (s : State) : Host.Outcome State Fault Refusal :=
  runZ80 (.zLdNnA nn) (fun _ => do
    let z ← z80Regs
    storeZ80 nn z.a
    pure []) s

/-! ### Exchanges -/

/-- EX DE,HL (46 R530). -/
def execZExDeHl (s : State) : Host.Outcome State Fault Refusal :=
  runZ80 .zExDeHl (fun _ => do
    setZ80 fun z => { z with d := z.h, e := z.l, h := z.d, l := z.e }
    pure []) s

/-- EX AF,AF' (46 R531). -/
def execZExAf (s : State) : Host.Outcome State Fault Refusal :=
  runZ80 .zExAf (fun _ => do
    setZ80 fun z => { z with a := z.a', f := z.f', a' := z.a, f' := z.f }
    pure []) s

/-- EXX (46 R532). -/
def execZExx (s : State) : Host.Outcome State Fault Refusal :=
  runZ80 .zExx (fun _ => do
    setZ80 fun z => { z with b := z.b', c := z.c', d := z.d', e := z.e', h := z.h', l := z.l', b' := z.b, c' := z.c, d' := z.d, e' := z.e, h' := z.h, l' := z.l }
    pure []) s

/-- The memory side of EX (SP),HLx (46 R533): low read first, high written first. -/
def exchangeTop (v : Word) : Op Word := do
  let z ← z80Regs
  let lo ← loadZ80 z.sp
  let hi ← loadZ80 (z.sp + 1#16)
  storeZ80 (z.sp + 1#16) (v.extractLsb' 8 8)
  storeZ80 z.sp (v.extractLsb' 0 8)
  pure (hi ++ lo)

/-- EX (SP),HL (46 R533). -/
def execZExSpHl (s : State) : Host.Outcome State Fault Refusal :=
  runZ80 .zExSpHl (fun _ => do
    let z ← z80Regs
    let v ← exchangeTop z.hl
    setZ80 fun z => z.setHl v
    pure []) s

/-- EX (SP),IX and EX (SP),IY (46 R533). -/
def execZExSpXx (x : Idx) (s : State) : Host.Outcome State Fault Refusal :=
  runZ80 (.zExSpXx x) (fun _ => do
    let z ← z80Regs
    let v ← exchangeTop (z.idx x)
    setZ80 fun z => z.setIdx x v
    pure []) s

/-! ### Special-register loads -/

/-- The flags of LD A,I and LD A,R (46 R534, R535). -/
def specialFlags (v : Byte) (z : Z80) : ZFlags :=
  { s := v.msb, z := v = 0#8, h := false, p := z.iff2, n := false, c := z.flags.c }

/-- LD A,I (46 R534). -/
def execZLdAI (s : State) : Host.Outcome State Fault Refusal :=
  runZ80 .zLdAI (fun _ => do
    let z ← z80Regs
    setZ80 fun z => { z with a := z.i }
    setFlags (specialFlags z.i z)
    pure []) s

/-- LD A,R: bit 7 as last written, bits 6:0 free (46 R535, 10 R65). -/
def execZLdARf (s : State) : Host.Outcome State Fault Refusal :=
  runZ80 .zLdARf (fun _ => do
    let z ← z80Regs
    let free ← drawZ80
    let v : Byte := z.r.extractLsb' 7 1 ++ free.extractLsb' 0 7
    setZ80 fun z => { z with a := v }
    setFlags (specialFlags v z)
    pure []) s

/-- LD I,A (46 R536). -/
def execZLdIA (s : State) : Host.Outcome State Fault Refusal :=
  runZ80 .zLdIA (fun _ => do setZ80 fun z => { z with i := z.a }; pure []) s

/-- LD R,A (46 R537). -/
def execZLdRfA (s : State) : Host.Outcome State Fault Refusal :=
  runZ80 .zLdRfA (fun _ => do setZ80 fun z => { z with r := z.a }; pure []) s

/-! ### 16-bit loads -/

/-- LD dd,nn (46 R538). -/
def execZLdPairImm (p : ZPair) (nn : Word) (s : State) : Host.Outcome State Fault Refusal :=
  runZ80 (.zLdPairImm p nn) (fun _ => do setZ80 fun z => z.setPair p nn; pure []) s

/-- LD IX,nn and LD IY,nn (46 R538). -/
def execZLdXxImm (x : Idx) (nn : Word) (s : State) : Host.Outcome State Fault Refusal :=
  runZ80 (.zLdXxImm x nn) (fun _ => do setZ80 fun z => z.setIdx x nn; pure []) s

/-- LD HL,(nn) (46 R539). -/
def execZLdHlNn (nn : Word) (s : State) : Host.Outcome State Fault Refusal :=
  runZ80 (.zLdHlNn nn) (fun _ => do
    let v ← load16Z80 nn
    setZ80 fun z => z.setHl v
    pure []) s

/-- LD IX,(nn) and LD IY,(nn) (46 R539). -/
def execZLdXxNn (x : Idx) (nn : Word) (s : State) : Host.Outcome State Fault Refusal :=
  runZ80 (.zLdXxNn x nn) (fun _ => do
    let v ← load16Z80 nn
    setZ80 fun z => z.setIdx x v
    pure []) s

/-- LD dd,(nn) (46 R540). -/
def execZLdPairNn (p : ZPair) (nn : Word) (s : State) : Host.Outcome State Fault Refusal :=
  runZ80 (.zLdPairNn p nn) (fun _ => do
    let v ← load16Z80 nn
    setZ80 fun z => z.setPair p v
    pure []) s

/-- LD (nn),HL (46 R541). -/
def execZLdNnHl (nn : Word) (s : State) : Host.Outcome State Fault Refusal :=
  runZ80 (.zLdNnHl nn) (fun _ => do
    let z ← z80Regs
    store16Z80 nn z.hl
    pure []) s

/-- LD (nn),IX and LD (nn),IY (46 R541). -/
def execZLdNnXx (x : Idx) (nn : Word) (s : State) : Host.Outcome State Fault Refusal :=
  runZ80 (.zLdNnXx x nn) (fun _ => do
    let z ← z80Regs
    store16Z80 nn (z.idx x)
    pure []) s

/-- LD (nn),dd (46 R542). -/
def execZLdNnPair (p : ZPair) (nn : Word) (s : State) : Host.Outcome State Fault Refusal :=
  runZ80 (.zLdNnPair p nn) (fun _ => do
    let z ← z80Regs
    store16Z80 nn (z.pair p)
    pure []) s

/-- LD SP,HL (46 R543). -/
def execZLdSpHl (s : State) : Host.Outcome State Fault Refusal :=
  runZ80 .zLdSpHl (fun _ => do setZ80 fun z => { z with sp := z.hl }; pure []) s

/-- LD SP,IX and LD SP,IY (46 R543). -/
def execZLdSpXx (x : Idx) (s : State) : Host.Outcome State Fault Refusal :=
  runZ80 (.zLdSpXx x) (fun _ => do setZ80 fun z => { z with sp := z.idx x }; pure []) s

/-- PUSH qq (46 R544). -/
def execZPush (q : ZPairQ) (s : State) : Host.Outcome State Fault Refusal :=
  runZ80 (.zPush q) (fun _ => do
    let z ← z80Regs
    pushZ80 (z.pairQ q)
    pure []) s

/-- PUSH IX and PUSH IY (46 R544). -/
def execZPushXx (x : Idx) (s : State) : Host.Outcome State Fault Refusal :=
  runZ80 (.zPushXx x) (fun _ => do
    let z ← z80Regs
    pushZ80 (z.idx x)
    pure []) s

/-- POP qq (46 R545): POP AF loads all eight bits of F. -/
def execZPop (q : ZPairQ) (s : State) : Host.Outcome State Fault Refusal :=
  runZ80 (.zPop q) (fun _ => do
    let v ← popZ80
    setZ80 fun z => z.setPairQ q v
    pure []) s

/-- POP IX and POP IY (46 R545). -/
def execZPopXx (x : Idx) (s : State) : Host.Outcome State Fault Refusal :=
  runZ80 (.zPopXx x) (fun _ => do
    let v ← popZ80
    setZ80 fun z => z.setIdx x v
    pure []) s

/-! ### Block transfer and search -/

/-- The step of HL and DE in a block instruction: up or down by one. -/
def blockStep (down : Bool) (v : Word) : Word := if down then v - 1#16 else v + 1#16

/-- One iteration of LDI or LDD (46 R546, R548). -/
def blockTransfer (down : Bool) : Op Unit := do
  let z ← z80Regs
  let v ← loadZ80 z.hl
  storeZ80 z.de v
  setZ80 fun z => ((z.setDe (blockStep down z.de)).setHl (blockStep down z.hl)).setBc (z.bc - 1#16)
  let z ← z80Regs
  setFlags { z.flags with h := false, n := false, p := z.bc ≠ 0#16 }

/-- One iteration of CPI or CPD (46 R550, R552): the difference. -/
def blockCompare (down : Bool) : Op Byte := do
  let z ← z80Regs
  let v ← loadZ80 z.hl
  let r := z.a - v
  setZ80 fun z => (z.setHl (blockStep down z.hl)).setBc (z.bc - 1#16)
  let t ← z80Regs
  setFlags { s := r.msb, z := r = 0#8, h := lowNibble z.a < lowNibble v, p := t.bc ≠ 0#16, n := true, c := t.flags.c }
  pure r

/-- `if more: PC <- ipc` (46 R547). Cycles data: repeating or terminal, which only LDIR's rule names (log 10). -/
def repeatIf (ipc : Word) (more : Bool) : Op (List Nat) := do
  if more then setZ80 fun z => { z with pc := ipc }
  pure [more.toNat]

/-- The repeating transfers (46 R547, R549). -/
def blockTransferRepeat (down : Bool) (ipc : Word) : Op (List Nat) := do
  blockTransfer down
  let z ← z80Regs
  repeatIf ipc (z.bc ≠ 0#16)

/-- The repeating searches (46 R551, R553). -/
def blockCompareRepeat (down : Bool) (ipc : Word) : Op (List Nat) := do
  let r ← blockCompare down
  let z ← z80Regs
  repeatIf ipc (z.bc ≠ 0#16 && r ≠ 0#8)

/-- LDI (46 R546). -/
def execZLdi (s : State) : Host.Outcome State Fault Refusal :=
  runZ80 .zLdi (fun _ => do blockTransfer false; pure []) s

/-- LDD (46 R548). -/
def execZLdd (s : State) : Host.Outcome State Fault Refusal :=
  runZ80 .zLdd (fun _ => do blockTransfer true; pure []) s

/-- LDIR (46 R547). -/
def execZLdir (s : State) : Host.Outcome State Fault Refusal := runZ80 .zLdir (blockTransferRepeat false) s

/-- LDDR (46 R549). -/
def execZLddr (s : State) : Host.Outcome State Fault Refusal := runZ80 .zLddr (blockTransferRepeat true) s

/-- CPI (46 R550). -/
def execZCpi (s : State) : Host.Outcome State Fault Refusal :=
  runZ80 .zCpi (fun _ => do let _ ← blockCompare false; pure []) s

/-- CPD (46 R552). -/
def execZCpd (s : State) : Host.Outcome State Fault Refusal :=
  runZ80 .zCpd (fun _ => do let _ ← blockCompare true; pure []) s

/-- CPIR (46 R551). -/
def execZCpir (s : State) : Host.Outcome State Fault Refusal := runZ80 .zCpir (blockCompareRepeat false) s

/-- CPDR (46 R553). -/
def execZCpdr (s : State) : Host.Outcome State Fault Refusal := runZ80 .zCpdr (blockCompareRepeat true) s

end Sys2Proof.Machine
end

