-- ==== Sys2Proof/Machine/Z80Control.lean ====
section
/-! DEFINITION. Z80 jumps, calls, port I/O and CPU control (spec/48_z80_control_io.md). -/

namespace Sys2Proof.Machine

/-- `PC <- v`. -/
def jumpZ80 (v : Word) : Op Unit := setZ80 fun z => { z with pc := v }

/-- The relative target (48 R630). -/
def relative (ipc : Word) (e : Byte) : Word := ipc + 2#16 + e.signExtend 16

/-- JP nn (48 R631). -/
def execZJp (nn : Word) (s : State) : Host.Outcome State Fault Refusal := runZ80 (.zJp nn) (fun _ => do jumpZ80 nn; pure []) s

/-- JP cc,nn (48 R632). -/
def execZJpCc (cnd : ZCond) (nn : Word) (s : State) : Host.Outcome State Fault Refusal :=
  runZ80 (.zJpCc cnd nn) (fun _ => do
    let f ← getFlags
    if f.holds cnd then jumpZ80 nn
    pure []) s

/-- JR e (48 R633). -/
def execZJr (e : Byte) (s : State) : Host.Outcome State Fault Refusal :=
  runZ80 (.zJr e) (fun ipc => do jumpZ80 (relative ipc e); pure []) s

/-- JR cc,e (48 R634). Cycles data: taken. -/
def execZJrCc (cnd : ZJrCond) (e : Byte) (s : State) : Host.Outcome State Fault Refusal :=
  runZ80 (.zJrCc cnd e) (fun ipc => do
    let f ← getFlags
    if f.holds (jrCond cnd) then jumpZ80 (relative ipc e)
    pure [(f.holds (jrCond cnd)).toNat]) s

/-- JP (HL): no memory read (48 R635). -/
def execZJpHl (s : State) : Host.Outcome State Fault Refusal :=
  runZ80 .zJpHl (fun _ => do
    let z ← z80Regs
    jumpZ80 z.hl
    pure []) s

/-- JP (IX) and JP (IY) (48 R635). -/
def execZJpXx (x : Idx) (s : State) : Host.Outcome State Fault Refusal :=
  runZ80 (.zJpXx x) (fun _ => do
    let z ← z80Regs
    jumpZ80 (z.idx x)
    pure []) s

/-- DJNZ (48 R636). Cycles data: taken. -/
def execZDjnz (e : Byte) (s : State) : Host.Outcome State Fault Refusal :=
  runZ80 (.zDjnz e) (fun ipc => do
    setZ80 fun z => { z with b := z.b - 1#8 }
    let z ← z80Regs
    if z.b ≠ 0#8 then jumpZ80 (relative ipc e)
    pure [(decide (z.b ≠ 0#8)).toNat]) s

/-- `push(PC); PC <- t` (48 R637). -/
def callZ80 (t : Word) : Op Unit := do
  let z ← z80Regs
  pushZ80 z.pc
  jumpZ80 t

/-- `PC <- pop()` (48 R639). -/
def returnZ80 : Op Unit := do
  let t ← popZ80
  jumpZ80 t

/-- CALL nn (48 R637). -/
def execZCall (nn : Word) (s : State) : Host.Outcome State Fault Refusal := runZ80 (.zCall nn) (fun _ => do callZ80 nn; pure []) s

/-- CALL cc,nn (48 R638). Cycles data: taken, which the rule does not name (log 10). -/
def execZCallCc (cnd : ZCond) (nn : Word) (s : State) : Host.Outcome State Fault Refusal :=
  runZ80 (.zCallCc cnd nn) (fun _ => do
    let f ← getFlags
    if f.holds cnd then callZ80 nn
    pure [(f.holds cnd).toNat]) s

/-- RET (48 R639). -/
def execZRet (s : State) : Host.Outcome State Fault Refusal := runZ80 .zRet (fun _ => do returnZ80; pure []) s

/-- RET cc (48 R640). Cycles data: taken, which the rule does not name (log 10). -/
def execZRetCc (cnd : ZCond) (s : State) : Host.Outcome State Fault Refusal :=
  runZ80 (.zRetCc cnd) (fun _ => do
    let f ← getFlags
    if f.holds cnd then returnZ80
    pure [(f.holds cnd).toNat]) s

/-- RETI (48 R641): an event for OWNER. -/
def execZReti (s : State) : Host.Outcome State Fault Refusal :=
  runZ80 .zReti (fun _ => do
    returnZ80
    setZ80 fun z => { z with iff1 := z.iff2 }
    Op.modify (·.record .reti)
    pure []) s

/-- RETN (48 R642). -/
def execZRetn (s : State) : Host.Outcome State Fault Refusal :=
  runZ80 .zRetn (fun _ => do
    returnZ80
    setZ80 fun z => { z with iff1 := z.iff2 }
    pure []) s

/-- RST p (48 R643): `p = ttt * 8`. -/
def execZRst (t : BitVec 3) (s : State) : Host.Outcome State Fault Refusal :=
  runZ80 (.zRst t) (fun _ => do callZ80 (t.setWidth 16 * 8#16); pure []) s

/-! ### Port input and output -/

/-- IN A,(n) (48 R644). -/
def execZInAN (n : Byte) (s : State) : Host.Outcome State Fault Refusal :=
  runZ80 (.zInAN n) (fun _ => do
    let z ← z80Regs
    let v ← inPort (z.a ++ n)
    setZ80 fun z => { z with a := v }
    pure []) s

/-- IN r,(C) (48 R645). -/
def execZInRC (r : ZReg) (s : State) : Host.Outcome State Fault Refusal :=
  runZ80 (.zInRC r) (fun _ => do
    let z ← z80Regs
    let v ← inPort z.bc
    setZ80 fun z => z.setReg r v
    setFlags { logicFlags v false with c := z.flags.c }
    pure []) s

/-- OUT (n),A (48 R650). -/
def execZOutNA (n : Byte) (s : State) : Host.Outcome State Fault Refusal :=
  runZ80 (.zOutNA n) (fun _ => do
    let z ← z80Regs
    outPort (z.a ++ n) z.a
    pure []) s

/-- OUT (C),r (48 R651). -/
def execZOutCR (r : ZReg) (s : State) : Host.Outcome State Fault Refusal :=
  runZ80 (.zOutCR r) (fun _ => do
    let z ← z80Regs
    outPort z.bc (z.reg r)
    pure []) s

/-- The flags of the block I/O instructions: SF HF PF CF are free (48 R646, R652). -/
def blockIoFlags : Op Unit := do
  let free ← drawZ80
  let z ← z80Regs
  setFlags { s := free.getLsbD 7, z := z.b = 0#8, h := free.getLsbD 4, p := free.getLsbD 2, n := true, c := free.getLsbD 0 }

/-- One iteration of INI or IND (48 R646, R648). -/
def blockIn (down : Bool) : Op Unit := do
  let z ← z80Regs
  let v ← inPort z.bc
  storeZ80 z.hl v
  setZ80 fun z => { z.setHl (blockStep down z.hl) with b := z.b - 1#8 }
  blockIoFlags

/-- One iteration of OUTI or OUTD: the port address has the decremented B (48 R652, R654). -/
def blockOut (down : Bool) : Op Unit := do
  let z ← z80Regs
  let v ← loadZ80 z.hl
  setZ80 fun z => { z with b := z.b - 1#8 }
  let t ← z80Regs
  outPort t.bc v
  setZ80 fun z => z.setHl (blockStep down z.hl)
  blockIoFlags

/-- The repeating forms: again while B is not 0 (48 R647, R653). -/
def blockIoRepeat (once : Op Unit) (ipc : Word) : Op (List Nat) := do
  once
  let z ← z80Regs
  repeatIf ipc (z.b ≠ 0#8)

/-- INI (48 R646). -/
def execZIni (s : State) : Host.Outcome State Fault Refusal := runZ80 .zIni (fun _ => do blockIn false; pure []) s

/-- INIR (48 R647). -/
def execZInir (s : State) : Host.Outcome State Fault Refusal := runZ80 .zInir (blockIoRepeat (blockIn false)) s

/-- IND (48 R648). -/
def execZInd (s : State) : Host.Outcome State Fault Refusal := runZ80 .zInd (fun _ => do blockIn true; pure []) s

/-- INDR (48 R649). -/
def execZIndr (s : State) : Host.Outcome State Fault Refusal := runZ80 .zIndr (blockIoRepeat (blockIn true)) s

/-- OUTI (48 R652). -/
def execZOuti (s : State) : Host.Outcome State Fault Refusal := runZ80 .zOuti (fun _ => do blockOut false; pure []) s

/-- OTIR (48 R653). -/
def execZOtir (s : State) : Host.Outcome State Fault Refusal := runZ80 .zOtir (blockIoRepeat (blockOut false)) s

/-- OUTD (48 R654). -/
def execZOutd (s : State) : Host.Outcome State Fault Refusal := runZ80 .zOutd (fun _ => do blockOut true; pure []) s

/-- OTDR (48 R655). -/
def execZOtdr (s : State) : Host.Outcome State Fault Refusal := runZ80 .zOtdr (blockIoRepeat (blockOut true)) s

/-! ### CPU control -/

/-- NOP (48 R656). -/
def execZNop (s : State) : Host.Outcome State Fault Refusal := runZ80 .zNop (fun _ => pure []) s

/-- HALT (48 R657). -/
def execZHalt (s : State) : Host.Outcome State Fault Refusal :=
  runZ80 .zHalt (fun _ => do setZ80 fun z => { z with halted := true }; pure []) s

/-- DI (48 R658). -/
def execZDi (s : State) : Host.Outcome State Fault Refusal :=
  runZ80 .zDi (fun _ => do setZ80 fun z => { z with iff1 := false, iff2 := false }; pure []) s

/-- EI (48 R659). -/
def execZEi (s : State) : Host.Outcome State Fault Refusal :=
  runZ80 .zEi (fun _ => do setZ80 fun z => { z with iff1 := true, iff2 := true, cooldown := true }; pure []) s

/-- IM 0 (48 R660). -/
def execZIm0 (s : State) : Host.Outcome State Fault Refusal := runZ80 .zIm0 (fun _ => do setZ80 fun z => { z with im := .im0 }; pure []) s

/-- IM 1 (48 R661). -/
def execZIm1 (s : State) : Host.Outcome State Fault Refusal := runZ80 .zIm1 (fun _ => do setZ80 fun z => { z with im := .im1 }; pure []) s

/-- IM 2 (48 R662). -/
def execZIm2 (s : State) : Host.Outcome State Fault Refusal := runZ80 .zIm2 (fun _ => do setZ80 fun z => { z with im := .im2 }; pure []) s

/-! ### Prefixes with no row -/

/-- The bytes that may not follow DD or FD (30 R226). -/
def chains (op : Byte) : Bool := op = 0xDD#8 || op = 0xFD#8 || op = 0xED#8

/-- What a DD or FD prefix before a byte with no row refuses with (30 R226, R236). -/
def refuseXx (op : Byte) (s : State) : Host.Outcome State Fault Refusal :=
  refuse (if chains op then .prefixChain else .undocumentedZ80) s

/-- CB before an undocumented byte (30 R227, R236). -/
def execZCbPrefix (_op : Byte) (s : State) : Host.Outcome State Fault Refusal := refuse .undocumentedZ80 s

/-- ED before an undocumented byte (30 R228, R236). -/
def execZEdPrefix (_op : Byte) (s : State) : Host.Outcome State Fault Refusal := refuse .undocumentedZ80 s

/-- DD before an undocumented byte or another prefix (30 R226, R236). -/
def execZDdPrefix (op : Byte) (s : State) : Host.Outcome State Fault Refusal := refuseXx op s

/-- FD before an undocumented byte or another prefix (30 R226, R236). -/
def execZFdPrefix (op : Byte) (s : State) : Host.Outcome State Fault Refusal := refuseXx op s

/-- DD CB d or FD CB d before an undocumented byte (30 R231, R236). -/
def execZDdcbPrefix (_x : Idx) (_d _op : Byte) (s : State) : Host.Outcome State Fault Refusal := refuse .undocumentedZ80 s

end Sys2Proof.Machine
end

