-- ==== Sys2Proof/Machine/Dispatch.lean ====
section
/-! DEFINITION. Which meaning each instruction has: one arm per constructor of `Instr`. -/

namespace Sys2Proof.Machine

/-- Run one instruction at a boundary of its processor, or again where that processor waited. -/
def exec (i : Instr) (s : State) : Host.Outcome State Fault Refusal :=
  match i with
  | .oriToCcr imm => Sys2Proof.Machine.execOriToCcr imm s
  | .oriToSr imm => Sys2Proof.Machine.execOriToSr imm s
  | .andiToCcr imm => Sys2Proof.Machine.execAndiToCcr imm s
  | .andiToSr imm => Sys2Proof.Machine.execAndiToSr imm s
  | .eoriToCcr imm => Sys2Proof.Machine.execEoriToCcr imm s
  | .eoriToSr imm => Sys2Proof.Machine.execEoriToSr imm s
  | .ori sz imm ea => Sys2Proof.Machine.execOri sz imm ea s
  | .andi sz imm ea => Sys2Proof.Machine.execAndi sz imm ea s
  | .subi sz imm ea => Sys2Proof.Machine.execSubi sz imm ea s
  | .addi sz imm ea => Sys2Proof.Machine.execAddi sz imm ea s
  | .eori sz imm ea => Sys2Proof.Machine.execEori sz imm ea s
  | .cmpi sz imm ea => Sys2Proof.Machine.execCmpi sz imm ea s
  | .btstImm k ea => Sys2Proof.Machine.execBtstImm k ea s
  | .bchgImm k ea => Sys2Proof.Machine.execBchgImm k ea s
  | .bclrImm k ea => Sys2Proof.Machine.execBclrImm k ea s
  | .bsetImm k ea => Sys2Proof.Machine.execBsetImm k ea s
  | .btstReg n ea => Sys2Proof.Machine.execBtstReg n ea s
  | .bchgReg n ea => Sys2Proof.Machine.execBchgReg n ea s
  | .bclrReg n ea => Sys2Proof.Machine.execBclrReg n ea s
  | .bsetReg n ea => Sys2Proof.Machine.execBsetReg n ea s
  | .movepLoad sz x y d => Sys2Proof.Machine.execMovepLoad sz x y d s
  | .movepStore sz x y d => Sys2Proof.Machine.execMovepStore sz x y d s
  | .moveB src dst => Sys2Proof.Machine.execMoveB src dst s
  | .moveL src dst => Sys2Proof.Machine.execMoveL src dst s
  | .moveW src dst => Sys2Proof.Machine.execMoveW src dst s
  | .moveaL src n => Sys2Proof.Machine.execMoveaL src n s
  | .moveaW src n => Sys2Proof.Machine.execMoveaW src n s
  | .negx sz ea => Sys2Proof.Machine.execNegx sz ea s
  | .moveFromSr ea => Sys2Proof.Machine.execMoveFromSr ea s
  | .chk ea n => Sys2Proof.Machine.execChk ea n s
  | .lea ea n => Sys2Proof.Machine.execLea ea n s
  | .clr sz ea => Sys2Proof.Machine.execClr sz ea s
  | .neg sz ea => Sys2Proof.Machine.execNeg sz ea s
  | .moveToCcr ea => Sys2Proof.Machine.execMoveToCcr ea s
  | .notOp sz ea => Sys2Proof.Machine.execNotOp sz ea s
  | .moveToSr ea => Sys2Proof.Machine.execMoveToSr ea s
  | .nbcd ea => Sys2Proof.Machine.execNbcd ea s
  | .swap n => Sys2Proof.Machine.execSwap n s
  | .pea ea => Sys2Proof.Machine.execPea ea s
  | .extW n => Sys2Proof.Machine.execExtW n s
  | .extL n => Sys2Proof.Machine.execExtL n s
  | .movemStore sz mask ea => Sys2Proof.Machine.execMovemStore sz mask ea s
  | .tst sz ea => Sys2Proof.Machine.execTst sz ea s
  | .tas ea => Sys2Proof.Machine.execTas ea s
  | .illegal w => Sys2Proof.Machine.execIllegal w s
  | .movemLoad sz mask ea => Sys2Proof.Machine.execMovemLoad sz mask ea s
  | .trap v => Sys2Proof.Machine.execTrap v s
  | .link n d => Sys2Proof.Machine.execLink n d s
  | .unlk n => Sys2Proof.Machine.execUnlk n s
  | .moveUsp toAn n => Sys2Proof.Machine.execMoveUsp toAn n s
  | .stop imm => Sys2Proof.Machine.execStop imm s
  | .jsr ea => Sys2Proof.Machine.execJsr ea s
  | .jmp ea => Sys2Proof.Machine.execJmp ea s
  | .addq sz q ea => Sys2Proof.Machine.execAddq sz q ea s
  | .subq sz q ea => Sys2Proof.Machine.execSubq sz q ea s
  | .dbcc cnd n d => Sys2Proof.Machine.execDbcc cnd n d s
  | .scc cnd ea => Sys2Proof.Machine.execScc cnd ea s
  | .bra disp => Sys2Proof.Machine.execBra disp s
  | .bsr disp => Sys2Proof.Machine.execBsr disp s
  | .bcc cnd disp => Sys2Proof.Machine.execBcc cnd disp s
  | .moveq n d => Sys2Proof.Machine.execMoveq n d s
  | .divu ea n => Sys2Proof.Machine.execDivu ea n s
  | .divs ea n => Sys2Proof.Machine.execDivs ea n s
  | .sbcd mem y x => Sys2Proof.Machine.execSbcd mem y x s
  | .orToDn sz ea n => Sys2Proof.Machine.execOrToDn sz ea n s
  | .orToEa sz n ea => Sys2Proof.Machine.execOrToEa sz n ea s
  | .subToDn sz ea n => Sys2Proof.Machine.execSubToDn sz ea n s
  | .subToEa sz n ea => Sys2Proof.Machine.execSubToEa sz n ea s
  | .suba sz ea n => Sys2Proof.Machine.execSuba sz ea n s
  | .subx sz mem y x => Sys2Proof.Machine.execSubx sz mem y x s
  | .addToDn sz ea n => Sys2Proof.Machine.execAddToDn sz ea n s
  | .addToEa sz n ea => Sys2Proof.Machine.execAddToEa sz n ea s
  | .adda sz ea n => Sys2Proof.Machine.execAdda sz ea n s
  | .addx sz mem y x => Sys2Proof.Machine.execAddx sz mem y x s
  | .lineA w => Sys2Proof.Machine.execLineA w s
  | .cmp sz ea n => Sys2Proof.Machine.execCmp sz ea n s
  | .cmpa sz ea n => Sys2Proof.Machine.execCmpa sz ea n s
  | .eor sz n ea => Sys2Proof.Machine.execEor sz n ea s
  | .cmpm sz y x => Sys2Proof.Machine.execCmpm sz y x s
  | .mulu ea n => Sys2Proof.Machine.execMulu ea n s
  | .muls ea n => Sys2Proof.Machine.execMuls ea n s
  | .abcd mem y x => Sys2Proof.Machine.execAbcd mem y x s
  | .exgDD x y => Sys2Proof.Machine.execExgDD x y s
  | .exgAA x y => Sys2Proof.Machine.execExgAA x y s
  | .exgDA x y => Sys2Proof.Machine.execExgDA x y s
  | .andToDn sz ea n => Sys2Proof.Machine.execAndToDn sz ea n s
  | .andToEa sz n ea => Sys2Proof.Machine.execAndToEa sz n ea s
  | .asrReg sz c y => Sys2Proof.Machine.execAsrReg sz c y s
  | .aslReg sz c y => Sys2Proof.Machine.execAslReg sz c y s
  | .lsrReg sz c y => Sys2Proof.Machine.execLsrReg sz c y s
  | .lslReg sz c y => Sys2Proof.Machine.execLslReg sz c y s
  | .roxrReg sz c y => Sys2Proof.Machine.execRoxrReg sz c y s
  | .roxlReg sz c y => Sys2Proof.Machine.execRoxlReg sz c y s
  | .rorReg sz c y => Sys2Proof.Machine.execRorReg sz c y s
  | .rolReg sz c y => Sys2Proof.Machine.execRolReg sz c y s
  | .asrMem ea => Sys2Proof.Machine.execAsrMem ea s
  | .aslMem ea => Sys2Proof.Machine.execAslMem ea s
  | .lsrMem ea => Sys2Proof.Machine.execLsrMem ea s
  | .lslMem ea => Sys2Proof.Machine.execLslMem ea s
  | .roxrMem ea => Sys2Proof.Machine.execRoxrMem ea s
  | .roxlMem ea => Sys2Proof.Machine.execRoxlMem ea s
  | .rorMem ea => Sys2Proof.Machine.execRorMem ea s
  | .rolMem ea => Sys2Proof.Machine.execRolMem ea s
  | .lineF w => Sys2Proof.Machine.execLineF w s
  | .zLdPairImm p nn => Sys2Proof.Machine.execZLdPairImm p nn s
  | .zLdIndA p => Sys2Proof.Machine.execZLdIndA p s
  | .zLdAInd p => Sys2Proof.Machine.execZLdAInd p s
  | .zIncPair p => Sys2Proof.Machine.execZIncPair p s
  | .zDecPair p => Sys2Proof.Machine.execZDecPair p s
  | .zIncR o => Sys2Proof.Machine.execZIncR o s
  | .zDecR o => Sys2Proof.Machine.execZDecR o s
  | .zLdRImm r n => Sys2Proof.Machine.execZLdRImm r n s
  | .zLdHlImm n => Sys2Proof.Machine.execZLdHlImm n s
  | .zAddHl p => Sys2Proof.Machine.execZAddHl p s
  | .zDjnz e => Sys2Proof.Machine.execZDjnz e s
  | .zJr e => Sys2Proof.Machine.execZJr e s
  | .zJrCc cnd e => Sys2Proof.Machine.execZJrCc cnd e s
  | .zLdNnHl nn => Sys2Proof.Machine.execZLdNnHl nn s
  | .zLdHlNn nn => Sys2Proof.Machine.execZLdHlNn nn s
  | .zLdNnA nn => Sys2Proof.Machine.execZLdNnA nn s
  | .zLdANn nn => Sys2Proof.Machine.execZLdANn nn s
  | .zLdRR dst src => Sys2Proof.Machine.execZLdRR dst src s
  | .zLdRHl r => Sys2Proof.Machine.execZLdRHl r s
  | .zLdHlR r => Sys2Proof.Machine.execZLdHlR r s
  | .zAddR o => Sys2Proof.Machine.execZAddR o s
  | .zAdcR o => Sys2Proof.Machine.execZAdcR o s
  | .zSubR o => Sys2Proof.Machine.execZSubR o s
  | .zSbcR o => Sys2Proof.Machine.execZSbcR o s
  | .zAndR o => Sys2Proof.Machine.execZAndR o s
  | .zXorR o => Sys2Proof.Machine.execZXorR o s
  | .zOrR o => Sys2Proof.Machine.execZOrR o s
  | .zCpR o => Sys2Proof.Machine.execZCpR o s
  | .zAddN n => Sys2Proof.Machine.execZAddN n s
  | .zAdcN n => Sys2Proof.Machine.execZAdcN n s
  | .zSubN n => Sys2Proof.Machine.execZSubN n s
  | .zSbcN n => Sys2Proof.Machine.execZSbcN n s
  | .zAndN n => Sys2Proof.Machine.execZAndN n s
  | .zXorN n => Sys2Proof.Machine.execZXorN n s
  | .zOrN n => Sys2Proof.Machine.execZOrN n s
  | .zCpN n => Sys2Proof.Machine.execZCpN n s
  | .zRetCc cnd => Sys2Proof.Machine.execZRetCc cnd s
  | .zPop q => Sys2Proof.Machine.execZPop q s
  | .zJpCc cnd nn => Sys2Proof.Machine.execZJpCc cnd nn s
  | .zJp nn => Sys2Proof.Machine.execZJp nn s
  | .zCallCc cnd nn => Sys2Proof.Machine.execZCallCc cnd nn s
  | .zPush q => Sys2Proof.Machine.execZPush q s
  | .zRst t => Sys2Proof.Machine.execZRst t s
  | .zCbPrefix op => Sys2Proof.Machine.execZCbPrefix op s
  | .zCall nn => Sys2Proof.Machine.execZCall nn s
  | .zOutNA n => Sys2Proof.Machine.execZOutNA n s
  | .zInAN n => Sys2Proof.Machine.execZInAN n s
  | .zDdPrefix op => Sys2Proof.Machine.execZDdPrefix op s
  | .zEdPrefix op => Sys2Proof.Machine.execZEdPrefix op s
  | .zFdPrefix op => Sys2Proof.Machine.execZFdPrefix op s
  | .zRlc o => Sys2Proof.Machine.execZRlc o s
  | .zRrc o => Sys2Proof.Machine.execZRrc o s
  | .zRl o => Sys2Proof.Machine.execZRl o s
  | .zRr o => Sys2Proof.Machine.execZRr o s
  | .zSla o => Sys2Proof.Machine.execZSla o s
  | .zSra o => Sys2Proof.Machine.execZSra o s
  | .zSrl o => Sys2Proof.Machine.execZSrl o s
  | .zBit b o => Sys2Proof.Machine.execZBit b o s
  | .zRes b o => Sys2Proof.Machine.execZRes b o s
  | .zSet b o => Sys2Proof.Machine.execZSet b o s
  | .zInRC r => Sys2Proof.Machine.execZInRC r s
  | .zOutCR r => Sys2Proof.Machine.execZOutCR r s
  | .zSbcHl p => Sys2Proof.Machine.execZSbcHl p s
  | .zAdcHl p => Sys2Proof.Machine.execZAdcHl p s
  | .zLdNnPair p nn => Sys2Proof.Machine.execZLdNnPair p nn s
  | .zLdPairNn p nn => Sys2Proof.Machine.execZLdPairNn p nn s
  | .zAddXx x p => Sys2Proof.Machine.execZAddXx x p s
  | .zLdXxImm x nn => Sys2Proof.Machine.execZLdXxImm x nn s
  | .zLdNnXx x nn => Sys2Proof.Machine.execZLdNnXx x nn s
  | .zIncXx x => Sys2Proof.Machine.execZIncXx x s
  | .zLdXxNn x nn => Sys2Proof.Machine.execZLdXxNn x nn s
  | .zDecXx x => Sys2Proof.Machine.execZDecXx x s
  | .zIncXd x d => Sys2Proof.Machine.execZIncXd x d s
  | .zDecXd x d => Sys2Proof.Machine.execZDecXd x d s
  | .zLdXdImm x d n => Sys2Proof.Machine.execZLdXdImm x d n s
  | .zLdRXd x r d => Sys2Proof.Machine.execZLdRXd x r d s
  | .zLdXdR x r d => Sys2Proof.Machine.execZLdXdR x r d s
  | .zAddXd x d => Sys2Proof.Machine.execZAddXd x d s
  | .zAdcXd x d => Sys2Proof.Machine.execZAdcXd x d s
  | .zSubXd x d => Sys2Proof.Machine.execZSubXd x d s
  | .zSbcXd x d => Sys2Proof.Machine.execZSbcXd x d s
  | .zAndXd x d => Sys2Proof.Machine.execZAndXd x d s
  | .zXorXd x d => Sys2Proof.Machine.execZXorXd x d s
  | .zOrXd x d => Sys2Proof.Machine.execZOrXd x d s
  | .zCpXd x d => Sys2Proof.Machine.execZCpXd x d s
  | .zPopXx x => Sys2Proof.Machine.execZPopXx x s
  | .zExSpXx x => Sys2Proof.Machine.execZExSpXx x s
  | .zPushXx x => Sys2Proof.Machine.execZPushXx x s
  | .zJpXx x => Sys2Proof.Machine.execZJpXx x s
  | .zLdSpXx x => Sys2Proof.Machine.execZLdSpXx x s
  | .zDdcbPrefix x d op => Sys2Proof.Machine.execZDdcbPrefix x d op s
  | .zRlcXd x d => Sys2Proof.Machine.execZRlcXd x d s
  | .zRrcXd x d => Sys2Proof.Machine.execZRrcXd x d s
  | .zRlXd x d => Sys2Proof.Machine.execZRlXd x d s
  | .zRrXd x d => Sys2Proof.Machine.execZRrXd x d s
  | .zSlaXd x d => Sys2Proof.Machine.execZSlaXd x d s
  | .zSraXd x d => Sys2Proof.Machine.execZSraXd x d s
  | .zSrlXd x d => Sys2Proof.Machine.execZSrlXd x d s
  | .zBitXd x d b => Sys2Proof.Machine.execZBitXd x d b s
  | .zResXd x d b => Sys2Proof.Machine.execZResXd x d b s
  | .zSetXd x d b => Sys2Proof.Machine.execZSetXd x d b s
  | .reset => Sys2Proof.Machine.execReset s
  | .nop => Sys2Proof.Machine.execNop s
  | .rte => Sys2Proof.Machine.execRte s
  | .rts => Sys2Proof.Machine.execRts s
  | .trapv => Sys2Proof.Machine.execTrapv s
  | .rtr => Sys2Proof.Machine.execRtr s
  | .zNop => Sys2Proof.Machine.execZNop s
  | .zRlca => Sys2Proof.Machine.execZRlca s
  | .zExAf => Sys2Proof.Machine.execZExAf s
  | .zRrca => Sys2Proof.Machine.execZRrca s
  | .zRla => Sys2Proof.Machine.execZRla s
  | .zRra => Sys2Proof.Machine.execZRra s
  | .zDaa => Sys2Proof.Machine.execZDaa s
  | .zCpl => Sys2Proof.Machine.execZCpl s
  | .zScf => Sys2Proof.Machine.execZScf s
  | .zCcf => Sys2Proof.Machine.execZCcf s
  | .zHalt => Sys2Proof.Machine.execZHalt s
  | .zRet => Sys2Proof.Machine.execZRet s
  | .zExx => Sys2Proof.Machine.execZExx s
  | .zExSpHl => Sys2Proof.Machine.execZExSpHl s
  | .zJpHl => Sys2Proof.Machine.execZJpHl s
  | .zExDeHl => Sys2Proof.Machine.execZExDeHl s
  | .zDi => Sys2Proof.Machine.execZDi s
  | .zLdSpHl => Sys2Proof.Machine.execZLdSpHl s
  | .zEi => Sys2Proof.Machine.execZEi s
  | .zNeg => Sys2Proof.Machine.execZNeg s
  | .zRetn => Sys2Proof.Machine.execZRetn s
  | .zReti => Sys2Proof.Machine.execZReti s
  | .zIm0 => Sys2Proof.Machine.execZIm0 s
  | .zIm1 => Sys2Proof.Machine.execZIm1 s
  | .zIm2 => Sys2Proof.Machine.execZIm2 s
  | .zLdIA => Sys2Proof.Machine.execZLdIA s
  | .zLdRfA => Sys2Proof.Machine.execZLdRfA s
  | .zLdAI => Sys2Proof.Machine.execZLdAI s
  | .zLdARf => Sys2Proof.Machine.execZLdARf s
  | .zRrd => Sys2Proof.Machine.execZRrd s
  | .zRld => Sys2Proof.Machine.execZRld s
  | .zLdi => Sys2Proof.Machine.execZLdi s
  | .zCpi => Sys2Proof.Machine.execZCpi s
  | .zIni => Sys2Proof.Machine.execZIni s
  | .zOuti => Sys2Proof.Machine.execZOuti s
  | .zLdd => Sys2Proof.Machine.execZLdd s
  | .zCpd => Sys2Proof.Machine.execZCpd s
  | .zInd => Sys2Proof.Machine.execZInd s
  | .zOutd => Sys2Proof.Machine.execZOutd s
  | .zLdir => Sys2Proof.Machine.execZLdir s
  | .zCpir => Sys2Proof.Machine.execZCpir s
  | .zInir => Sys2Proof.Machine.execZInir s
  | .zOtir => Sys2Proof.Machine.execZOtir s
  | .zLddr => Sys2Proof.Machine.execZLddr s
  | .zCpdr => Sys2Proof.Machine.execZCpdr s
  | .zIndr => Sys2Proof.Machine.execZIndr s
  | .zOtdr => Sys2Proof.Machine.execZOtdr s

end Sys2Proof.Machine
end

