-- ==== Sys2Proof/Machine/Agents.lean ====
section
/-! DEFINITION. The steps of the three agents: fetching and decoding, the instruction boundary of each processor, the resume
of a waiting processor, and OWNER's service (20 R150 to R160, 48 R670, 60 R711, R740 to R753). -/

namespace Sys2Proof.Machine

/-! ### OWNER's accesses -/

/-- The bit a word, or the first byte, of a control register carries: 8 of a word, 0 of a byte (60 R750, R752). -/
def controlBit : Size → Nat
  | .b => 0
  | _ => 8

/-- `v` with bit `k` set to `b`. -/
def withBit (v : Long) (k : Nat) (b : Bool) : Long :=
  if b then v ||| (1#32 <<< k) else v &&& ~~~(1#32 <<< k)

/-- The bus-request register (60 R750). -/
def busReqAccess (s : State) (a : Addr24) (sz : Size) (ps : List Place) (first : Bool) : RowAccess :=
  if first then
    { read := let x := s.plainRead ps; (withBit x.1 (controlBit sz) (!s.bus.busAck), x.2)
      write := fun v t => t.mapBus fun b => { b with busReq := v.getLsbD (controlBit sz) } }
  else plainAccess s a sz ps

/-- The Z80 reset register (60 R752): 0 asserts, 1 releases; any read is free. -/
def z80ResetAccess (s : State) (a : Addr24) (sz : Size) (ps : List Place) (first : Bool) : RowAccess :=
  if first then
    { read := s.plainRead ps
      write := fun v t => t.mapBus fun b =>
        if v.getLsbD (controlBit sz) then { b with z80ResetHeld := false }
        else { b with z80ResetHeld := true, z80ResetPulse := true } }
  else plainAccess s a sz ps

/-- OWNER performs M68K's transaction (20 R133, R136, R152). -/
def ownerAccess68k (s : State) (m : Mailbox 24) : Except Fault (Long × State) :=
  match places68k s.launch m.addr m.len with
  | none => .error .unmapped
  | some ps =>
    match s.zramFault ps m.len with
    | some f => .error f
    | none =>
      match ps.head? with
      | some (.busReq first) => .ok (transact m s (busReqAccess s m.addr m.len ps first))
      | some (.z80Reset first) => .ok (transact m s (z80ResetAccess s m.addr m.len ps first))
      | _ => .ok (transact m s (plainAccess s m.addr m.len ps))

/-- OWNER performs Z80's transaction (20 R133, R137, R152, 60 R753). -/
def ownerAccessZ80 (s : State) (m : Mailbox 16) : Except Fault (Long × State) :=
  match m.op with
  | .portRead | .portWrite => .ok (transact m s (portAccess s m.addr))
  | _ =>
    match placeZ80 s.launch m.addr with
    | none => .error .unmapped
    | some p => (accessAtZ80 s m.addr p).map (transact m s)

/-! ### Marks -/

/-- A Z80 that faulted or was refused is `Failed` (10 R72). -/
def State.failZ80 (s : State) : State := s.mapZ80 fun z => { z with run := .failed }

/-- The refused or faulted mark of an agent, which takes no further step; a halt is no such mark (60 R711): log 14. -/
def State.dead (s : State) (ag : Agent) : Option (Host.Outcome State Fault Refusal) :=
  match s.refusedMarks.find? fun m => m.1 = ag with
  | some m => some (.refused m.2)
  | none =>
    match s.faultedMarks.find? fun m => decide (m.1 = ag) && (match m.2 with | .fault _ => true | .halt _ => false) with
    | some (_, .fault f) => some (.fault f)
    | _ => none

/-- M68K's failures set its mark, in the state before the failing step (10 R83): log 14. -/
def settle68k (s : State) : Host.Outcome State Fault Refusal → Host.Outcome State Fault Refusal
  | .next t => .next t
  | .fault f => .next (s.markFault .m68k (.fault f))
  | .refused r => .next (s.markRefused .m68k r)

/-- Z80's failures set its mark and its run state (10 R72, R83): log 14. -/
def settleZ80 (s : State) : Host.Outcome State Fault Refusal → Host.Outcome State Fault Refusal
  | .next t => .next t
  | .fault f => .next (s.failZ80.markFault .z80 (.fault f))
  | .refused r => .next (s.failZ80.markRefused .z80 r)

/-! ### OWNER's steps -/

/-- `MB[cpu].op <- None`, and the answer of a read (20 R152). -/
def Mailbox.answer {w : Nat} (m : Mailbox w) (v : Long) : Mailbox w :=
  match m.op with
  | .memRead | .portRead => { m with op := .none, value := v }
  | _ => { m with op := .none }

/-- OWNER serves M68K's mailbox (20 R152); a fault of the access is M68K's: log 11. -/
def service68k (s : State) : Host.Outcome State Fault Refusal :=
  if s.bus.mb68k.op = .none ∨ (s.dead .m68k).isSome then .next s
  else
    match ownerAccess68k s s.bus.mb68k with
    | .error f => settle68k s (.fault f)
    | .ok (v, t) => .next (t.mapBus fun b => { b with mb68k := b.mb68k.answer v })

/-- OWNER serves Z80's mailbox (20 R152); a fault of the access is Z80's: log 11. -/
def serviceZ80 (s : State) : Host.Outcome State Fault Refusal :=
  if s.bus.mbZ80.op = .none ∨ (s.dead .z80).isSome then .next s
  else
    match ownerAccessZ80 s s.bus.mbZ80 with
    | .error f => settleZ80 s (.fault f)
    | .ok (v, t) => .next (t.mapBus fun b => { b with mbZ80 := b.mbZ80.answer v })

/-- OWNER writes M68K's interrupt slot (20 R159). -/
def postInt68k (level : Nat) (s : State) : Host.Outcome State Fault Refusal :=
  if 7 < level then .next (s.markFault .owner (.fault .badIntLevel))
  else .next (s.mapBus fun b => { b with mb68k := { b.mb68k with intLevel := level } })

/-- OWNER writes Z80's interrupt slot (20 R159). -/
def postIntZ80 (level : Nat) (s : State) : Host.Outcome State Fault Refusal :=
  .next (s.mapBus fun b => { b with mbZ80 := { b.mbZ80 with intLevel := level } })

/-- An OWNER step, unless OWNER has faulted. -/
def ownerTurn (f : State → Host.Outcome State Fault Refusal) (s : State) : Host.Outcome State Fault Refusal :=
  match s.dead .owner with
  | some x => x
  | none => f s

/-! ### M68K's step -/

/-- The privileged instructions (60 R715). -/
def privilegedTag : Tag68k → Bool
  | .moveToSr | .moveUsp | .rte | .reset | .stop | .oriToSr | .andiToSr | .eoriToSr => true
  | _ => false

/-- The next words of the instruction. -/
def fetchWords : Nat → Op (List Word)
  | 0 => pure []
  | k + 1 => do
    let w ← fetch16
    let ws ← fetchWords k
    pure (w :: ws)

/-- How many extension words are fetched after an operation word (30 R185): none where its step ends before its rule reads one,
at the refusal of a BCD instruction (60 R711) and at a privileged instruction in user mode (45 R495). -/
def fetchedExt68k (w : Word) (super : Bool) : Nat :=
  if (privilegedTag (tag68k w) && !super) || decide (tag68k w = .nbcd) then 0 else words68k w - 1

/-- Fetch and decode (60 R711). -/
def fetchInstr68k : Op Instr := do
  let m ← m68kRegs
  let w ← fetch16
  let ws ← fetchWords (fetchedExt68k w m.super)
  pure (decode68k (w :: ws)).1

/-- Fetch, decode and execute, afresh or again (60 R711). -/
def fetchExec68k (s : State) : Host.Outcome State Fault Refusal :=
  match fetchInstr68k s.start68k with
  | .ok i c => exec i { c.st with m68k := s.start68k.st.m68k }
  | .error .wait c => .next { c.st with wait68k := some { act := .fetch, snap := s.start68k.st.m68k, log := c.done } }
  | .error .ended c => .next c.st
  | .error (.fault f) _ => .fault f
  | .error (.refused r) _ => .refused r

/-- Enter the autovector of a level (60 R710), afresh or again. -/
def enterInterrupt68k (level : Nat) (s : State) : Host.Outcome State Fault Refusal :=
  finish68k (.irq level) s <| (do
    let m ← m68kRegs
    enterException (24 + level) m.pc (some (BitVec.ofNat 3 level))) { s.start68k with irq := true }

/-- `MB[M68K].intLevel <- 0` (20 R160). -/
def State.clearInt68k (s : State) : State := s.mapBus fun b => { b with mb68k := { b.mb68k with intLevel := 0 } }

/-- A step of M68K at an instruction boundary (60 R711, R718). -/
def boundary68k (s : State) : Host.Outcome State Fault Refusal :=
  let level := s.bus.mb68k.intLevel
  match s.m68k.run with
  | .halted _ => .next (s.mapM68k fun m => { m with cyc := m.cyc + Config.idleQuantum68k })
  | run =>
    if s.m68k.mask.toNat < level then settle68k s.clearInt68k (enterInterrupt68k level s.clearInt68k)
    else if run = .stopped then .next (s.mapM68k fun m => { m with cyc := m.cyc + Config.idleQuantum68k })
    else if s.m68k.trace then settle68k s (.refused .trace)
    else if s.m68k.pc.getLsbD 0 then .next (s.halt68k .oddPc)
    else settle68k s (fetchExec68k s)

/-- The wait of M68K with the answer of its transaction (20 R153). -/
def State.answered68k (s : State) (w : Wait68k) : State :=
  { s with wait68k := some { w with log := w.log ++ [s.bus.mb68k.value] } }

/-- M68K resumes (20 R153): what it was doing runs again with one more answer (log 4). -/
def resume68k (w : Wait68k) (s : State) : Host.Outcome State Fault Refusal :=
  let t := s.answered68k w
  settle68k s (match w.act with
    | .fetch => fetchExec68k t
    | .exec i => exec i t
    | .irq level => enterInterrupt68k level t)

/-- A turn of M68K: while its transaction is pending it has no step (20 R153). -/
def turn68k (s : State) : Host.Outcome State Fault Refusal :=
  match s.dead .m68k with
  | some x => x
  | none =>
    match s.wait68k with
    | none => boundary68k s
    | some w => if s.bus.mb68k.op = .none then resume68k w s else .next s

/-! ### Z80's step -/

/-- The bytes of the instruction after `bs`, as many as its length asks for (30 R226, R232). -/
def fetchBytes : Nat → List Byte → Op (List Byte)
  | 0, bs => pure bs
  | k + 1, bs =>
    if bytesZ80 bs ≤ bs.length then pure bs
    else do
      let b ← fetch8
      fetchBytes k (bs ++ [b])

/-- Fetch and decode (30 R226): an instruction has 1 to 4 bytes (30 R220). -/
def fetchInstrZ80 : Op Instr := do
  let b ← fetch8
  let bs ← fetchBytes 3 [b]
  pure (decodeZ80 bs).1

/-- Fetch, decode and execute, afresh or again (48 R670). -/
def fetchExecZ80 (s : State) : Host.Outcome State Fault Refusal :=
  match fetchInstrZ80 s.startZ80 with
  | .ok i c => exec i { c.st with z80 := s.startZ80.st.z80 }
  | .error .wait c => .next { c.st with waitZ80 := some { act := .fetch, snap := s.startZ80.st.z80, log := c.done } }
  | .error .ended c => .next c.st
  | .error (.fault f) _ => .fault f
  | .error (.refused r) _ => .refused r

/-- Interrupt acceptance in mode 1; modes 0 and 2 are refused (60 R741). -/
def enterInterruptZ80 (s : State) : Host.Outcome State Fault Refusal :=
  finishZ80 .irq s <| (do
    let z ← z80Regs
    if z.im ≠ IntMode.im1 then Op.stop (.refused .interruptMode)
    setZ80 fun z => { z with halted := false, iff1 := false, iff2 := false }
    pushZ80 z.pc
    setZ80 fun z => { z with pc := 0x0038#16 }
    spendZ80 .intAcceptIM1) s.startZ80

/-- `MB[Z80].intLevel <- 0` (20 R160). -/
def State.clearIntZ80 (s : State) : State := s.mapBus fun b => { b with mbZ80 := { b.mbZ80 with intLevel := 0 } }

/-- `cycZ80 += IdleQuantumZ80` (70 R821). -/
def State.idleZ80 (s : State) : State := s.mapZ80 fun z => { z with cyc := z.cyc + Config.idleQuantumZ80 }

/-- The Z80 applies its reset (48 R670, 70 R803). -/
def State.resetZ80 (s : State) : State :=
  ({ s with z80 := Z80.reset s.z80.cyc s.z80.draws }.mapBus fun b => { b with z80ResetPulse := false, busAck := b.busReq }).idleZ80

/-- A step of Z80 at an instruction boundary (48 R670). -/
def boundaryZ80 (s : State) : Host.Outcome State Fault Refusal :=
  if s.bus.z80ResetHeld || s.bus.z80ResetPulse then .next s.resetZ80
  else if s.bus.busReq then .next (s.mapBus fun b => { b with busAck := true }).idleZ80
  else
    let s := s.mapBus fun b => { b with busAck := false }
    if s.z80.iff1 && !s.z80.cooldown && decide (s.bus.mbZ80.intLevel ≠ 0) then
      settleZ80 s.clearIntZ80 (enterInterruptZ80 s.clearIntZ80)
    else if s.z80.halted then .next s.idleZ80
    else
      let s := s.mapZ80 fun z => { z with cooldown := false, dcache := none }
      settleZ80 s (fetchExecZ80 s)

/-- The wait of Z80 with the answer of its transaction (20 R153). -/
def State.answeredZ80 (s : State) (w : WaitZ80) : State :=
  { s with waitZ80 := some { w with log := w.log ++ [s.bus.mbZ80.value] } }

/-- Z80 resumes (20 R153). -/
def resumeZ80 (w : WaitZ80) (s : State) : Host.Outcome State Fault Refusal :=
  let t := s.answeredZ80 w
  settleZ80 s (match w.act with
    | .fetch => fetchExecZ80 t
    | .exec i => exec i t
    | .irq => enterInterruptZ80 t)

/-- A turn of Z80: while its transaction is pending it has no step (20 R153). -/
def turnZ80 (s : State) : Host.Outcome State Fault Refusal :=
  match s.dead .z80 with
  | some x => x
  | none =>
    match s.waitZ80 with
    | none => boundaryZ80 s
    | some w => if s.bus.mbZ80.op = .none then resumeZ80 w s else .next s

/-! ### Turns -/

/-- The step of the agent whose turn it is (20 R140). -/
def takeTurn (t : Turn) (s : State) : Host.Outcome State Fault Refusal :=
  match t with
  | .m68k => turn68k s
  | .z80 => turnZ80 s
  | .service68k => ownerTurn service68k s
  | .serviceZ80 => ownerTurn serviceZ80 s
  | .postInt68k level => ownerTurn (postInt68k level) s
  | .postIntZ80 level => ownerTurn (postIntZ80 level) s

/-- The agent whose step a turn is (20 R140). -/
def agentOf : Turn → Agent
  | .m68k => .m68k
  | .z80 => .z80
  | _ => .owner

/-- The turns that come round for ever (20 R140, R157): the steps of both processors, and OWNER's service of both mailboxes. -/
def fairTurns : List Turn := [.m68k, .z80, .service68k, .serviceZ80]

/-- The turn that fairness owes: the next of `fairTurns` in their round whose agent has no mark that ends its steps (log 2). -/
def State.fairTurn (s : State) : Turn :=
  (((fairTurns.drop (s.turns % 4)) ++ fairTurns).find? fun t => (s.dead (agentOf t)).isNone).getD .m68k

/-- The next turn: the head of the schedule. Past its end a free block of turns follows, and after the block the turn that
fairness owes; so every schedule is weakly fair, and every weakly fair one is admitted (20 R140, R157): log 2. -/
def State.nextTurn (s : State) : Turn × State :=
  match s.schedule with
  | t :: r => (t, { s with schedule := r })
  | [] =>
    if s.fairDue then (s.fairTurn, { s with turns := s.turns + 1, fairDue := false })
    else
      match Config.turnsBefore s.turns with
      | t :: r => (t, { s with schedule := r, fairDue := true })
      | [] => (s.fairTurn, { s with turns := s.turns + 1 })

/-! ### Placing an instruction -/

/-- The memory key of a byte M68K fetches: one of ROM or WRAM; another place holds no code M68K can fetch (20 R136). -/
def fetchKey68k (l : Launch) (a : Addr24) : Nat :=
  match place68k l a with
  | some (.wram off) => wramKey off
  | some (.rom off) => off
  | _ => a.toNat

/-- Bytes written at the keys of consecutive fetch addresses. -/
def placeBytes68k (l : Launch) (m : Memory) (a : Addr24) : List Byte → Memory
  | [] => m
  | b :: r => placeBytes68k l (m.write (fetchKey68k l a) b) (a + 1#24) r

/-- The memory key of a byte Z80 fetches from ZRAM; the model places no code elsewhere. -/
def fetchKeyZ80 (l : Launch) (a : Word) : Nat :=
  match placeZ80 l a with
  | some (.zram off) => zramKey off
  | _ => zramKey (a.toNat % l.map.zramSize)

/-- Bytes written in ZRAM, where Z80 fetches them. -/
def placeBytesZ80 (l : Launch) (m : Memory) (a : Word) : List Byte → Memory
  | [] => m
  | b :: r => placeBytesZ80 l (m.write (fetchKeyZ80 l a) b) (a + 1#16) r

/-- The state with an M68K instruction at its PC, and M68K ready to take the next turn (log 3). -/
def State.place68k (s : State) (ws : List Word) : State :=
  { s with
    mem := placeBytes68k s.launch s.mem (s.m68k.pc.setWidth 24) (ws.flatMap fun w => [w.extractLsb' 8 8, w.extractLsb' 0 8])
    launch := { s.launch with romLen := 0x400000 }
    m68k := { s.m68k with run := .running, sr := { s.m68k.sr with t := false } }
    wait68k := none
    bus := { s.bus with mb68k := { s.bus.mb68k with intLevel := 0, op := .none } }
    refusedMarks := []
    faultedMarks := []
    schedule := .m68k :: s.schedule }

/-- The state with a Z80 instruction at its PC, and Z80 ready to take the next turn (log 3). -/
def State.placeZ80 (s : State) (bs : List Byte) : State :=
  { s with
    mem := placeBytesZ80 s.launch s.mem s.z80.pc bs
    z80 := { s.z80 with run := .running, halted := false }
    waitZ80 := none
    bus := { s.bus with z80ResetHeld := false, z80ResetPulse := false, busReq := false, mbZ80 := { s.bus.mbZ80 with intLevel := 0, op := .none } }
    refusedMarks := []
    faultedMarks := []
    schedule := .z80 :: s.schedule }

end Sys2Proof.Machine
end

