-- ==== Sys2Proof/Machine/Step.lean ====
section
/-! DEFINITION. One step of the block: the agent whose turn it is (20 R140). -/

namespace Sys2Proof.Machine

/-- One step of the block. -/
def step (s : State) : Host.Outcome State Fault Refusal := takeTurn s.nextTurn.1 s.nextTurn.2

/-- The state with one instruction, in the table's numbering of its bits, placed where the next step runs it: a Z80 row
has 8 bits, an M68K row 16 (log 3, 15). -/
def State.withFetchWord (s : State) (nbits w : Nat) : State :=
  if nbits ≤ 8 then s.placeZ80 (bytesOfNat 4 w) else s.place68k (wordsOfNat 5 w)

end Sys2Proof.Machine
end

