-- ==== Sys2Proof/Safety.lean ====
section
/-! DEFINITION. What counts as a safe run, and the terms statements use: the invariant of the block, what one access that a
processor makes itself reads and leaves, the steps every instruction shares, and which registers, flags and bytes an
instruction may change. -/

namespace Sys2Proof.Machine

/-- `IFF1 = IFF2` (10 R67). -/
def Z80.iffOk (z : Z80) : Prop := z.iff1 = z.iff2

/-- The invariant of the block: memory is canonical, IFF1 equals IFF2, in the registers and in those a waiting Z80 began with,
M68K's slot holds a level, a processor whose transaction is pending is waiting, and one that waits in an instruction waits in one of
its own (10 R50, R67, R73, R80, 20 R154). -/
structure State.Inv (s : State) : Prop where
  memory : s.mem.wf
  iff : s.z80.iffOk
  iffSnap : ∀ w, s.waitZ80 = some w → w.snap.iffOk
  level : s.bus.mb68k.intLevel ≤ 7
  pending68k : s.bus.mb68k.op ≠ .none → s.wait68k ≠ none
  pendingZ80 : s.bus.mbZ80.op ≠ .none → s.waitZ80 ≠ none
  act68k : ∀ w i, s.wait68k = some w → w.act = .exec i → i.is68k = true
  actZ80 : ∀ w i, s.waitZ80 = some w → w.act = .exec i → i.is68k = false

/-- M68K is at an instruction boundary. -/
def State.ready68k (s : State) : Prop := s.wait68k = none

/-- Z80 is at an instruction boundary. -/
def State.readyZ80 (s : State) : Prop := s.waitZ80 = none

/-- A run that neither processor has left: no mark is set (10 R83). -/
def State.safe (s : State) : Prop := s.refusedMarks = [] ∧ s.faultedMarks = []

/-! ### Runs (20 R140, R157) -/

/-- The state after `n` steps, while the run goes on. -/
def State.after : Nat → State → Option State
  | 0, s => some s
  | n + 1, s =>
    match step s with
    | .next t => State.after n t
    | _ => none

/-- The turn has a step to take (20 R140): a processor that is not dead, and whose transaction, if it waits, is answered
(20 R153, 60 R711); OWNER's service, while a transaction is pending (20 R152). OWNER may write a slot at any time (20 R159). -/
def State.enabled (s : State) : Turn → Prop
  | .m68k => s.dead .m68k = none ∧ (s.wait68k = none ∨ s.bus.mb68k.op = .none)
  | .z80 => s.dead .z80 = none ∧ (s.waitZ80 = none ∨ s.bus.mbZ80.op = .none)
  | .service68k => s.dead .owner = none ∧ s.dead .m68k = none ∧ s.bus.mb68k.op ≠ .none
  | .serviceZ80 => s.dead .owner = none ∧ s.dead .z80 = none ∧ s.bus.mbZ80.op ≠ .none
  | .postInt68k _ | .postIntZ80 _ => s.dead .owner = none

/-- Weak fairness of the run from a state (20 R140, R157): each turn of `fairTurns` is taken, or has no step to take, at some
step of the run, unless the run stops before; so a turn that stays enabled is taken. -/
def State.WeaklyFair (s : State) : Prop :=
  ∀ t ∈ fairTurns, ∃ n, ∀ u, s.after n = some u →
    ∃ m < n, ∃ v, s.after m = some v ∧ (v.nextTurn.1 = t ∨ ¬ v.enabled t)

/-- The bytes of the two control registers are apart (00 R13, 60 R750, R752); those of the default addresses are. -/
def Launch.registersApart (l : Launch) : Prop :=
  l.z80ResetAddr ≠ l.busReqAddr ∧ l.z80ResetAddr ≠ l.busReqAddr + 1#24 ∧ l.z80ResetAddr + 1#24 ≠ l.busReqAddr

/-! ### M68K: one access that M68K makes itself -/

/-- The places of an aligned data access that M68K makes itself, and that is no fault (20 R124, R130, R136): none of them is across
the bus. -/
def State.placesHere (s : State) (sz : Size) (a : Long) : Option (List Place) :=
  if oddAccess (a.setWidth 24) sz then none
  else
    match route68k s.launch (a.setWidth 24) sz with
    | .here ps => if (s.zramFault ps sz).isNone then some ps else none
    | _ => none

/-- What such a read answers, and the state after it. -/
def State.loadAt (s : State) (sz : Size) (a : Long) : Option (BitVec sz.bits × State) :=
  (s.placesHere sz a).map fun ps => ((s.plainRead ps).1.setWidth sz.bits, (s.plainRead ps).2)

/-- The state after such a write, one that does not hit the words after the storing instruction (20 R143). -/
def State.storeAt (s : State) (sz : Size) (a : Long) (v : BitVec sz.bits) : Option State :=
  match s.placesHere sz a with
  | some ps => if hitsPrefetch s.launch s.m68k.pc (a.setWidth 24) sz then none else some (s.plainWrite (a.setWidth 24) sz (v.setWidth 32) ps)
  | none => none

/-- `SP <- SP - n`, then a store there. -/
def State.pushAt (s : State) (sz : Size) (v : BitVec sz.bits) : Option State :=
  let t := s.mapM68k fun m => m.setSp (m.sp - BitVec.ofNat 32 sz.bytes)
  t.storeAt sz t.m68k.sp v

/-- A load at SP, then `SP <- SP + n`. -/
def State.popAt (s : State) (sz : Size) : Option (BitVec sz.bits × State) :=
  (s.loadAt sz s.m68k.sp).map fun x => (x.1, x.2.mapM68k fun m => m.setSp (m.sp + BitVec.ofNat 32 sz.bytes))

/-- The location an operand names, and the state after it is resolved once (40 R260, R276). -/
def State.locate (s : State) (sz : Size) (ea : Ea) : Option (Loc × State) :=
  (s.m68k.resolve sz ea).map fun x => (x.1, { s with m68k := x.2.spend (.ea ea.kind sz) })

/-- What a location holds (40 R274). -/
def State.readAt (s : State) (sz : Size) : Loc → Option (BitVec sz.bits × State)
  | .dreg n => some ((s.m68k.dreg n).setWidth sz.bits, s)
  | .areg n => some ((s.m68k.areg n).setWidth sz.bits, s)
  | .mem a => s.loadAt sz a
  | .imm v => some (v.setWidth sz.bits, s)

/-- The state with a location written (40 R275). -/
def State.writeAt (s : State) (sz : Size) (loc : Loc) (v : BitVec sz.bits) : Option State :=
  match loc with
  | .dreg n => some (s.mapM68k fun m => m.setDPart n sz v)
  | .areg n => some (s.mapM68k fun m => m.setA n (v.signExtend 32))
  | .mem a => s.storeAt sz a v
  | .imm _ => some s

/-- PC past `k` words of the instruction. -/
def State.past (s : State) (k : Nat) : State := s.mapM68k fun m => m.skip k

/-- The flags written. -/
def State.withCcr (s : State) (f : Ccr) : State := s.mapM68k fun m => m.setCcr f

/-- `SR[4:0]` after a logical result: N and Z from it, V and C zero, X kept (41 R306). -/
def State.logicCcr {n : Nat} (s : State) (r : BitVec n) : State := s.mapM68k fun m => m.setCcr (flagsLogic r m.ccr)

/-- How many words M68K fetches for an instruction whose first word is `w`: only the first of a BCD instruction (60 R711), and
of a privileged one in user mode (45 R495). -/
def State.fetched68k (s : State) (w : Word) : Nat := 1 + fetchedExt68k w s.m68k.super

/-- `cyc68k += IdleQuantum68k` (70 R821). -/
def State.idle68k (s : State) : State := s.mapM68k fun m => { m with cyc := m.cyc + Config.idleQuantum68k }

/-- The end of an M68K instruction: its cycles are counted (70 R820). -/
def State.ended68k (s : State) (i : Instr) (data : List Nat) : State := s.mapM68k fun m => m.spend (i.cost68k data)

/-- The state after exception entry with vector `v` and stacked PC `spc` (60 R704): the stack is chosen, `spc` and then the
old SR are pushed on it, and the handler's address is loaded. -/
def State.enterAt (s : State) (v : Nat) (spc : Long) : Option State :=
  match (s.mapM68k M68k.enterSuper).pushAt .l spc with
  | none => none
  | some t =>
    match t.pushAt .w s.m68k.getSr with
    | none => none
    | some t =>
      match t.loadAt .l (BitVec.ofNat 32 (v * 4)) with
      | none => none
      | some (h, t) => some (t.mapM68k fun m => { m with pc := h, run := .running }.spend (.exception v))

/-- The state after a push by interrupt entry, which is no storing instruction (20 R143, log 12). -/
def State.pushIrqAt (s : State) (sz : Size) (v : BitVec sz.bits) : Option State :=
  let t := s.mapM68k fun m => m.setSp (m.sp - BitVec.ofNat 32 sz.bytes)
  (t.placesHere sz t.m68k.sp).map fun ps => t.plainWrite (t.m68k.sp.setWidth 24) sz (v.setWidth 32) ps

/-- The state after M68K has taken an interrupt of level `l` (60 R710): the slot is cleared, then entry as in `enterAt`, with
the mask raised to `l` and the boundary's PC stacked. -/
def State.interruptAt (s : State) (l : Nat) : Option State :=
  match (s.clearInt68k.mapM68k fun m => m.enterSuper.setMask (BitVec.ofNat 3 l)).pushIrqAt .l s.m68k.pc with
  | none => none
  | some t =>
    match t.pushIrqAt .w s.m68k.getSr with
    | none => none
    | some t =>
      match t.loadAt .l (BitVec.ofNat 32 ((24 + l) * 4)) with
      | none => none
      | some (h, t) => some (t.mapM68k fun m => { m with pc := h, run := .running }.spend .interrupt)

/-- The value and the length in words of a branch displacement (30 R192). -/
def dispValue : Disp → Long
  | .short d => d.signExtend 32
  | .word d => d.signExtend 32

/-- MOVEM's stores at falling addresses, and the last address (42 R334): bit `i` of the mask selects register `15 - i`, and the
base register is stored as it was at first. -/
def State.movemDownAt (s : State) (sz : Size) (base : Reg) (a0 : Long) : List (BitVec 4) → Long → Option (Long × State)
  | [], a => some (a, s)
  | i :: r, a =>
    let v := if 15#4 - i = 1#1 ++ base then a0 else s.m68k.regFile (15#4 - i)
    match s.storeAt sz (a - BitVec.ofNat 32 sz.bytes) (v.setWidth sz.bits) with
    | none => none
    | some t => t.movemDownAt sz base a0 r (a - BitVec.ofNat 32 sz.bytes)

/-- MOVEM's stores at rising addresses (42 R334). -/
def State.movemUpAt (s : State) (sz : Size) : List (BitVec 4) → Long → Option State
  | [], _ => some s
  | i :: r, a =>
    match s.storeAt sz a ((s.m68k.regFile i).setWidth sz.bits) with
    | none => none
    | some t => t.movemUpAt sz r (a + BitVec.ofNat 32 sz.bytes)

/-- MOVEM's loads at rising addresses, and the address after them; words are sign-extended (42 R335). -/
def State.movemLoadAt (s : State) (sz : Size) : List (BitVec 4) → Long → Option (Long × State)
  | [], a => some (a, s)
  | i :: r, a =>
    match s.loadAt sz a with
    | none => none
    | some (v, t) =>
      (t.mapM68k fun m => m.setRegFile i (v.signExtend 32)).movemLoadAt sz r (a + BitVec.ofNat 32 sz.bytes)

/-- MOVEP's byte loads from every second address, the highest byte first (42 R336). -/
def State.movepLoadAt (s : State) : Nat → Long → Option (List Byte × State)
  | 0, _ => some ([], s)
  | k + 1, a =>
    match s.loadAt .b a with
    | none => none
    | some (b, t) => (t.movepLoadAt k (a + 2#32)).map fun x => (b :: x.1, x.2)

/-- MOVEP's byte stores to every second address, the highest byte first (42 R337). -/
def State.movepStoreAt (s : State) : List Byte → Long → Option State
  | [], _ => some s
  | b :: r, a =>
    match s.storeAt .b a b with
    | none => none
    | some t => t.movepStoreAt r (a + 2#32)

/-! ### Z80: one access that Z80 makes itself -/

/-- What Z80 reads itself at an address of ZRAM (20 R130, R135). -/
def State.peek (s : State) (a : Word) : Option Byte :=
  match Sys2Proof.Machine.placeZ80 s.launch a with
  | some (.zram off) => if s.launch.localZ80 a then some (s.mem.read (zramKey off)) else none
  | _ => none

/-- The state after Z80 writes itself at an address of ZRAM (20 R130, R135). -/
def State.poke (s : State) (a : Word) (v : Byte) : Option State :=
  match Sys2Proof.Machine.placeZ80 s.launch a with
  | some (.zram off) => if s.launch.localZ80 a then some { s with mem := s.mem.write (zramKey off) v } else none
  | _ => none

/-- What `reg(f)` or `m(HL)` holds. -/
def State.peekOp8 (s : State) : ZOp8 → Option Byte
  | .reg r => some (s.z80.reg r)
  | .hl => s.peek s.z80.hl

/-- The state with `reg(f)` or `m(HL)` written. -/
def State.pokeOp8 (s : State) (o : ZOp8) (v : Byte) : Option State :=
  match o with
  | .reg r => some (s.mapZ80 fun z => z.setReg r v)
  | .hl => s.poke s.z80.hl v

/-- A 16-bit read, the low byte first (20 R121). -/
def State.peek16 (s : State) (a : Word) : Option Word :=
  match s.peek a, s.peek (a + 1#16) with
  | some lo, some hi => some (hi ++ lo)
  | _, _ => none

/-- A 16-bit write, the low byte first (20 R121). -/
def State.poke16 (s : State) (a v : Word) : Option State :=
  (s.poke a (v.extractLsb' 0 8)).bind fun t => t.poke (a + 1#16) (v.extractLsb' 8 8)

/-- `push(v)` (46 R544). -/
def State.pushZ (s : State) (v : Word) : Option State :=
  let s1 := s.mapZ80 fun z => { z with sp := z.sp - 1#16 }
  (s1.poke s1.z80.sp (v.extractLsb' 8 8)).bind fun t =>
    let t1 := t.mapZ80 fun z => { z with sp := z.sp - 1#16 }
    t1.poke t1.z80.sp (v.extractLsb' 0 8)

/-- `pop()` (46 R545). -/
def State.popZ (s : State) : Option (Word × State) :=
  (s.peek16 s.z80.sp).map fun v => (v, s.mapZ80 fun z => { z with sp := z.sp + 2#16 })

/-- The registers with six flags written: YF and XF are the next free value's (10 R66, 46 R520). -/
def Z80.flagged (z : Z80) (f : ZFlags) : Z80 :=
  { z with f := f.toF ((Config.drawZ80 z.draws).setWidth 8), draws := z.draws + 1 }

/-- The next free byte of Z80, and the registers after it is drawn. -/
def Z80.freeByte (z : Z80) : Byte × Z80 := ((Config.drawZ80 z.draws).setWidth 8, { z with draws := z.draws + 1 })

/-- The state when the rule of a Z80 instruction begins (46 R520). -/
def State.pastZ80 (s : State) (i : Instr) : State := s.mapZ80 fun z => z.begin (encodeZ80 i).length

/-- The state in which Z80 fetches: the bus is not granted, `cooldown` is over, `dcache` is empty (48 R670). -/
def State.fetchesZ80 (s : State) : State :=
  (s.mapBus fun b => { b with busAck := false }).mapZ80 fun z => { z with cooldown := false, dcache := none }

/-- The end of a Z80 instruction: its cycles are counted (70 R820). -/
def State.endedZ80 (s : State) (i : Instr) (data : List Nat) : State := s.mapZ80 fun z => z.spend (i.costZ80 data)

/-- The displacement is kept (10 R71). -/
def State.displaced (s : State) (d : Byte) : State := s.mapZ80 fun z => { z with dcache := some d }

/-- `xxd()`: the address a displacement makes (46 R520). -/
def State.xxdAt (s : State) (x : Idx) (d : Byte) : Word := s.z80.idx x + d.signExtend 16

/-- Z80 has waited in `i` since the registers `z`, and its transaction is answered with `v` (10 R73, 20 R153). -/
def State.heldZ80 (s : State) (i : Instr) (z : Z80) (v : Long) : Prop :=
  s.waitZ80 = some { act := .exec i, snap := z, log := [v] }

/-- Z80 goes on from the registers it began with. -/
def State.backZ80 (s : State) (z : Z80) : State := { s with z80 := z, waitZ80 := none }

end Sys2Proof.Machine

namespace Sys2Proof

open Sys2Proof.Machine

/-! ### What an M68K instruction may change -/

/-- The flags of CCR (10 R46). -/
inductive Flag | x | n | z | v | c
  deriving DecidableEq, Repr, Inhabited

/-- A flag of SR. -/
def Machine.Sr.flag (r : Sr) : Flag → Bool
  | .x => r.x
  | .n => r.n
  | .z => r.z
  | .v => r.v
  | .c => r.c

/-- The addressing mode updates the address register (40 R265, R266). -/
def Ea.moves (ea : Ea) (r : Reg) : Bool :=
  match ea with
  | .post n | .pre n => n = r
  | _ => false

/-- The operand an M68K instruction writes, and its size. -/
def Instr.target : Instr → Option (Size × Ea)
  | .ori sz _ ea | .andi sz _ ea | .subi sz _ ea | .addi sz _ ea | .eori sz _ ea => some (sz, ea)
  | .bchgImm _ ea | .bclrImm _ ea | .bsetImm _ ea => some (bitOpSize ea, ea)
  | .bchgReg _ ea | .bclrReg _ ea | .bsetReg _ ea => some (bitOpSize ea, ea)
  | .moveB _ dst => some (.b, dst)
  | .moveL _ dst => some (.l, dst)
  | .moveW _ dst => some (.w, dst)
  | .negx sz ea | .clr sz ea | .neg sz ea | .notOp sz ea => some (sz, ea)
  | .moveFromSr ea => some (.w, ea)
  | .tas ea => some (.b, ea)
  | .addq sz _ ea | .subq sz _ ea => some (sz, ea)
  | .scc _ ea => some (.b, ea)
  | .orToEa sz _ ea | .subToEa sz _ ea | .addToEa sz _ ea | .andToEa sz _ ea | .eor sz _ ea => some (sz, ea)
  | .subx sz true _ x | .addx sz true _ x => some (sz, .pre x)
  | .asrMem ea | .aslMem ea | .lsrMem ea | .lslMem ea | .roxrMem ea | .roxlMem ea | .rorMem ea | .rolMem ea => some (.w, ea)
  | _ => none

/-- The data register is a destination of the instruction. -/
def Instr.writesD (i : Instr) (r : Reg) : Bool :=
  i.target.any (fun x => x.2 = .dn r) ||
  match i with
  | .movepLoad _ n _ _ | .swap n | .extW n | .extL n | .dbcc _ n _ | .moveq n _ => n = r
  | .divu _ n | .divs _ n | .mulu _ n | .muls _ n => n = r
  | .orToDn _ _ n | .subToDn _ _ n | .addToDn _ _ n | .andToDn _ _ n => n = r
  | .subx _ false _ n | .addx _ false _ n => n = r
  | .exgDD x y => x = r || y = r
  | .exgDA x _ => x = r
  | .asrReg _ _ n | .aslReg _ _ n | .lsrReg _ _ n | .lslReg _ _ n => n = r
  | .roxrReg _ _ n | .roxlReg _ _ n | .rorReg _ _ n | .rolReg _ _ n => n = r
  | .movemLoad _ mask _ => mask.getLsbD r.toNat
  | _ => false

/-- The instruction is privileged (60 R715). -/
def Instr.isPrivileged : Instr → Bool
  | .oriToSr _ | .andiToSr _ | .eoriToSr _ | .moveToSr _ | .moveUsp _ _ | .stop _ | .reset | .rte => true
  | _ => false

/-- The instruction may enter an exception (60 R700). -/
def Instr.mayTrap (i : Instr) : Bool :=
  i.isPrivileged ||
  match i with
  | .trap _ | .trapv | .chk _ _ | .divu _ _ | .divs _ _ | .illegal _ | .lineA _ | .lineF _ => true
  | _ => false

/-- The vectors of the exceptions the instruction may raise (60 R702, R714). -/
def Instr.vectors (i : Instr) : List Nat :=
  match i with
  | .trap n => [32 + n.toNat]
  | .trapv => [7]
  | .chk _ _ => [6]
  | .divu _ _ | .divs _ _ => [5]
  | .illegal _ => [4]
  | .lineA _ => [10]
  | .lineF _ => [11]
  | _ => if i.isPrivileged then [8] else []

/-- The instruction writes SR as a whole (60 R721). -/
def Instr.writesSr : Instr → Bool
  | .oriToSr _ | .andiToSr _ | .eoriToSr _ | .moveToSr _ | .stop _ | .rte => true
  | _ => false

/-- The address register is a destination of the instruction, or moves with an operand, or is a stack pointer that the
instruction uses or exchanges. -/
def Instr.writesA (i : Instr) (r : Reg) : Bool :=
  i.operands.any (fun ea => ea.moves r) || i.target.any (fun x => x.2 = .an r) || ((i.mayTrap || i.writesSr) && r = 7#3) ||
  match i with
  | .moveaL _ n | .moveaW _ n | .lea _ n | .suba _ _ n | .adda _ _ n | .moveUsp true n => n = r
  | .link n _ | .unlk n => n = r || r = 7#3
  | .pea _ | .jsr _ | .bsr _ | .rts | .rtr => r = 7#3
  | .exgAA x y => x = r || y = r
  | .exgDA _ y => y = r
  | .movemLoad _ mask _ => mask.getLsbD (8 + r.toNat)
  | _ => false

/-- The flags the instruction writes, as its rule says (42 to 45). -/
def Instr.flags68k : Instr → List Flag
  | .oriToCcr _ | .andiToCcr _ | .eoriToCcr _ | .moveToCcr _ | .rtr => [.x, .n, .z, .v, .c]
  | .oriToSr _ | .andiToSr _ | .eoriToSr _ | .moveToSr _ | .stop _ | .rte => [.x, .n, .z, .v, .c]
  | .ori _ _ _ | .andi _ _ _ | .eori _ _ _ | .cmpi _ _ _ => [.n, .z, .v, .c]
  | .subi _ _ _ | .addi _ _ _ | .negx _ _ | .neg _ _ => [.x, .n, .z, .v, .c]
  | .btstImm _ _ | .bchgImm _ _ | .bclrImm _ _ | .bsetImm _ _ => [.z]
  | .btstReg _ _ | .bchgReg _ _ | .bclrReg _ _ | .bsetReg _ _ => [.z]
  | .moveB _ _ | .moveL _ _ | .moveW _ _ | .clr _ _ | .notOp _ _ | .tst _ _ | .tas _ => [.n, .z, .v, .c]
  | .swap _ | .extW _ | .extL _ | .moveq _ _ => [.n, .z, .v, .c]
  | .chk _ _ | .divu _ _ | .divs _ _ | .mulu _ _ | .muls _ _ => [.n, .z, .v, .c]
  | .addq _ _ ea | .subq _ _ ea => if ea.kind = .an then [] else [.x, .n, .z, .v, .c]
  | .orToDn _ _ _ | .orToEa _ _ _ | .andToDn _ _ _ | .andToEa _ _ _ | .eor _ _ _ => [.n, .z, .v, .c]
  | .subToDn _ _ _ | .subToEa _ _ _ | .addToDn _ _ _ | .addToEa _ _ _ => [.x, .n, .z, .v, .c]
  | .subx _ _ _ _ | .addx _ _ _ _ => [.x, .n, .z, .v, .c]
  | .cmp _ _ _ | .cmpa _ _ _ | .cmpm _ _ _ => [.n, .z, .v, .c]
  | .asrReg _ _ _ | .aslReg _ _ _ | .lsrReg _ _ _ | .lslReg _ _ _ | .roxrReg _ _ _ | .roxlReg _ _ _ => [.x, .n, .z, .v, .c]
  | .asrMem _ | .aslMem _ | .lsrMem _ | .lslMem _ | .roxrMem _ | .roxlMem _ => [.x, .n, .z, .v, .c]
  | .rorReg _ _ _ | .rolReg _ _ _ | .rorMem _ | .rolMem _ => [.n, .z, .v, .c]
  | _ => []

/-- The registers when the destination is resolved: past the words before its own, and after the source (40 R276, 20 R158). -/
def Instr.atTarget (i : Instr) (m : M68k) : Option M68k :=
  match i with
  | .ori sz _ _ | .andi sz _ _ | .subi sz _ _ | .addi sz _ _ | .eori sz _ _ => some (m.skip (1 + immWords sz))
  | .bchgImm _ _ | .bclrImm _ _ | .bsetImm _ _ => some (m.skip 2)
  | .moveB src _ => ((m.skip 1).resolve .b src).map fun x => x.2
  | .moveL src _ => ((m.skip 1).resolve .l src).map fun x => x.2
  | .moveW src _ => ((m.skip 1).resolve .w src).map fun x => x.2
  | .subx sz _ y _ | .addx sz _ y _ => ((m.skip 1).resolve sz (.pre y)).map fun x => x.2
  | _ => some (m.skip 1)

/-- The two words an exception stacks (60 R704). -/
def Machine.M68k.frame (m : M68k) : List (Long × Nat) := [(m.enterSuper.sp - 4#32, 4), (m.enterSuper.sp - 6#32, 2)]

/-- The stack slot of a call. -/
def Machine.M68k.slot (m : M68k) : List (Long × Nat) := [(m.sp - 4#32, 4)]

/-- What an M68K instruction stores to, started from the registers `m`: addresses and lengths in bytes. -/
def Instr.stores68k (i : Instr) (m : M68k) : List (Long × Nat) :=
  match i with
  | .pea ea | .jsr ea => (((m.skip 1).resolve .l ea).map fun x => x.2.slot).getD []
  | .bsr _ | .link _ _ => m.slot
  | .movemStore sz mask ea =>
    match ea with
    | .pre n => (List.range (maskBits mask).length).map fun k => (m.areg n - BitVec.ofNat 32 (sz.bytes * (k + 1)), sz.bytes)
    | _ =>
      match (m.skip 2).resolve sz ea with
      | some (.mem a, _) => (List.range (maskBits mask).length).map fun k => (a + BitVec.ofNat 32 (sz.bytes * k), sz.bytes)
      | _ => []
  | .movepStore sz _ y d =>
    (List.range (movepCount sz)).map fun k => (m.areg y + d.signExtend 32 + BitVec.ofNat 32 (2 * k), 1)
  | .chk ea _ | .divu ea _ | .divs ea _ => (((m.skip 1).resolve .w ea).map fun x => x.2.frame).getD []
  | _ =>
    if i.isPrivileged && m.super then []
    else if i.mayTrap then m.frame
    else
      match i.target, i.atTarget m with
      | some (sz, ea), some m' =>
        match m'.resolve sz ea with
        | some (.mem a, _) => [(a, sz.bytes)]
        | _ => []
      | _, _ => []

/-- The key of the memory byte that a write to a place changes; a write to ROM or a device changes none (20 R131, R132). -/
def Machine.Place.key : Place → Option Nat
  | .wram off => some (wramKey off)
  | .zram off => some (zramKey off)
  | _ => none

/-- The key of the memory byte that M68K itself writes at an address, if it writes one there (20 R130, R132). -/
def writtenKey68k (l : Launch) (a : Addr24) : Option Nat :=
  if l.local68k a then (place68k l a).bind Place.key else none

/-- The memory byte `k` is one of the bytes of a store. -/
def coveredBy68k (l : Launch) (k : Nat) (r : Long × Nat) : Bool :=
  (List.range r.2).any fun j => writtenKey68k l (r.1.setWidth 24 + BitVec.ofNat 24 j) = some k

/-! ### What a Z80 instruction may change -/

/-- An operand field names the register. -/
def ZOp8.isReg (o : ZOp8) (r : ZReg) : Bool := o = .reg r

/-- The registers of a pair. -/
def ZPair.has : ZPair → ZReg → Bool
  | .bc, r => r = .b || r = .c
  | .de, r => r = .d || r = .e
  | .hl, r => r = .h || r = .l
  | .sp, _ => false

/-- The registers of a pushed pair. -/
def ZPairQ.has : ZPairQ → ZReg → Bool
  | .bc, r => r = .b || r = .c
  | .de, r => r = .d || r = .e
  | .hl, r => r = .h || r = .l
  | .af, r => r = .a

/-- The 8-bit register is a destination of the instruction. -/
def Instr.writesZ (i : Instr) (r : ZReg) : Bool :=
  match i with
  | .zLdPairImm p _ | .zIncPair p | .zDecPair p | .zLdPairNn p _ => p.has r
  | .zLdAInd _ | .zLdANn _ | .zInAN _ | .zLdAI | .zLdARf | .zRlca | .zRrca | .zRla | .zRra | .zCpl | .zNeg => r = .a
  | .zIncR o | .zDecR o | .zRlc o | .zRrc o | .zRl o | .zRr o | .zSla o | .zSra o | .zSrl o => o.isReg r
  | .zRes _ o | .zSet _ o => o.isReg r
  | .zLdRImm q _ | .zLdRR q _ | .zLdRHl q | .zInRC q | .zLdRXd _ q _ => q = r
  | .zAddHl _ | .zAdcHl _ | .zSbcHl _ | .zLdHlNn _ | .zExSpHl => r = .h || r = .l
  | .zDjnz _ => r = .b
  | .zAddR _ | .zAdcR _ | .zSubR _ | .zSbcR _ | .zAndR _ | .zXorR _ | .zOrR _ => r = .a
  | .zAddN _ | .zAdcN _ | .zSubN _ | .zSbcN _ | .zAndN _ | .zXorN _ | .zOrN _ => r = .a
  | .zAddXd _ _ | .zAdcXd _ _ | .zSubXd _ _ | .zSbcXd _ _ | .zAndXd _ _ | .zXorXd _ _ | .zOrXd _ _ => r = .a
  | .zPop q => q.has r
  | .zExAf => r = .a
  | .zExx => r ≠ .a
  | .zExDeHl => r = .d || r = .e || r = .h || r = .l
  | .zRrd | .zRld => r = .a
  | .zLdi | .zLdd | .zLdir | .zLddr => r ≠ .a
  | .zCpi | .zCpd | .zCpir | .zCpdr => r = .b || r = .c || r = .h || r = .l
  | .zIni | .zInd | .zInir | .zIndr | .zOuti | .zOutd | .zOtir | .zOtdr => r = .b || r = .h || r = .l
  | _ => false

/-- The index register is a destination of the instruction. -/
def Instr.writesIdx (i : Instr) (x : Idx) : Bool :=
  match i with
  | .zAddXx y _ | .zLdXxImm y _ | .zIncXx y | .zLdXxNn y _ | .zDecXx y | .zPopXx y | .zExSpXx y => y = x
  | _ => false

/-- SP is a destination of the instruction, or it uses the stack. -/
def Instr.writesSp : Instr → Bool
  | .zLdPairImm p _ | .zIncPair p | .zDecPair p | .zLdPairNn p _ => p = .sp
  | .zLdSpHl | .zLdSpXx _ | .zPush _ | .zPushXx _ | .zPop _ | .zPopXx _ => true
  | .zCall _ | .zCallCc _ _ | .zRst _ | .zRet | .zRetCc _ | .zReti | .zRetn => true
  | _ => false

/-- The flags of F that instructions compute (10 R66). -/
inductive ZFlag | s | z | h | p | n | c
  deriving DecidableEq, Repr, Inhabited

/-- A flag of F. -/
def Machine.FReg.flag (f : FReg) : ZFlag → Bool
  | .s => f.s
  | .z => f.z
  | .h => f.h
  | .p => f.p
  | .n => f.n
  | .c => f.c

/-- The flags the instruction writes, as its rule says (46 to 48). -/
def Instr.flagsZ80 : Instr → List ZFlag
  | .zIncR _ | .zDecR _ | .zIncXd _ _ | .zDecXd _ _ => [.s, .z, .h, .p, .n]
  | .zAddHl _ | .zAddXx _ _ | .zRlca | .zRrca | .zRla | .zRra | .zScf | .zCcf => [.h, .n, .c]
  | .zAddR _ | .zAdcR _ | .zSubR _ | .zSbcR _ | .zAndR _ | .zXorR _ | .zOrR _ | .zCpR _ => [.s, .z, .h, .p, .n, .c]
  | .zAddN _ | .zAdcN _ | .zSubN _ | .zSbcN _ | .zAndN _ | .zXorN _ | .zOrN _ | .zCpN _ => [.s, .z, .h, .p, .n, .c]
  | .zAddXd _ _ | .zAdcXd _ _ | .zSubXd _ _ | .zSbcXd _ _ => [.s, .z, .h, .p, .n, .c]
  | .zAndXd _ _ | .zXorXd _ _ | .zOrXd _ _ | .zCpXd _ _ => [.s, .z, .h, .p, .n, .c]
  | .zNeg | .zAdcHl _ | .zSbcHl _ | .zExAf => [.s, .z, .h, .p, .n, .c]
  | .zPop q => if q = .af then [.s, .z, .h, .p, .n, .c] else []
  | .zRlc _ | .zRrc _ | .zRl _ | .zRr _ | .zSla _ | .zSra _ | .zSrl _ => [.s, .z, .h, .p, .n, .c]
  | .zRlcXd _ _ | .zRrcXd _ _ | .zRlXd _ _ | .zRrXd _ _ | .zSlaXd _ _ | .zSraXd _ _ | .zSrlXd _ _ =>
    [.s, .z, .h, .p, .n, .c]
  | .zBit _ _ | .zBitXd _ _ _ | .zInRC _ | .zLdAI | .zLdARf | .zRrd | .zRld => [.s, .z, .h, .p, .n]
  | .zCpi | .zCpd | .zCpir | .zCpdr => [.s, .z, .h, .p, .n]
  | .zCpl => [.h, .n]
  | .zLdi | .zLdd | .zLdir | .zLddr => [.h, .p, .n]
  | .zIni | .zInd | .zInir | .zIndr | .zOuti | .zOutd | .zOtir | .zOtdr => [.s, .z, .h, .p, .n, .c]
  | _ => []

/-- The addresses of the bytes a Z80 instruction stores to, started from the registers `z`. -/
def Instr.storesZ80 (i : Instr) (z : Z80) : List Word :=
  match i with
  | .zLdIndA p => [z.bcDe p]
  | .zIncR .hl | .zDecR .hl | .zLdHlImm _ | .zLdHlR _ | .zRrd | .zRld => [z.hl]
  | .zRlc .hl | .zRrc .hl | .zRl .hl | .zRr .hl | .zSla .hl | .zSra .hl | .zSrl .hl | .zRes _ .hl | .zSet _ .hl => [z.hl]
  | .zLdNnHl nn | .zLdNnPair _ nn | .zLdNnXx _ nn => [nn, nn + 1#16]
  | .zLdNnA nn => [nn]
  | .zPush _ | .zPushXx _ | .zCall _ | .zCallCc _ _ | .zRst _ => [z.sp - 1#16, z.sp - 2#16]
  | .zIncXd x d | .zDecXd x d | .zLdXdImm x d _ | .zLdXdR x _ d => [z.idx x + d.signExtend 16]
  | .zRlcXd x d | .zRrcXd x d | .zRlXd x d | .zRrXd x d | .zSlaXd x d | .zSraXd x d | .zSrlXd x d =>
    [z.idx x + d.signExtend 16]
  | .zResXd x d _ | .zSetXd x d _ => [z.idx x + d.signExtend 16]
  | .zExSpHl | .zExSpXx _ => [z.sp, z.sp + 1#16]
  | .zLdi | .zLdd | .zLdir | .zLddr => [z.de]
  | .zIni | .zInd | .zInir | .zIndr => [z.hl]
  | _ => []

/-- The key of the memory byte that Z80 itself writes at an address, if it writes one there (20 R130, R135, R137). -/
def writtenKeyZ80 (s : State) (a : Word) : Option Nat :=
  if s.launch.localZ80 a then
    match placeZ80 s.launch a with
    | some (.zram off) => some (zramKey off)
    | some .window => (place68k s.launch (windowAddress s.bus.bank a)).bind Place.key
    | _ => none
  else none

/-- No row of the Z80 view but those of ZRAM is one that Z80 reaches itself, and no port: so the oracle answers Z80 only when OWNER
asks it (20 R130, R131). The default map is such a map. -/
def Machine.Launch.oracleIsOwners (l : Launch) : Prop := (∀ r ∈ l.map.z80, r.own = true → r.holds = .zram) ∧ l.map.ownPorts = false

end Sys2Proof
end

