-- ==== Sys2Proof/Certificates/Slice0/Obligations.lean ====
section
/-! DEFINITION. The statements for the provers, one `def Obligations.<Name> : Prop` each, with the shapes that completion
statements share. -/

namespace Sys2Proof.Machine

/-! ### The shapes of completion, M68K -/

/-- `<ea>,Dn` (43 R370): the source is read, then the register and the flags are written. -/
def EaToDnCompletes (mk : Size → Ea → Reg → Instr) (f : (n : Nat) → Alu n) : Prop :=
  ∀ (s : State) (sz : Size) (ea : Ea) (n : Reg) (loc : Loc) (s1 : State) (v : BitVec sz.bits) (s2 : State),
    s.ready68k → (s.past 1).locate sz ea = some (loc, s1) → s1.readAt sz loc = some (v, s2) →
    exec (mk sz ea n) s = .next ((s2.mapM68k fun m =>
      (m.setDPart n sz (f sz.bits v ((m.dreg n).setWidth sz.bits) m.ccr).1).setCcr
        (f sz.bits v ((m.dreg n).setWidth sz.bits) m.ccr).2).ended68k (mk sz ea n) [])

/-- A destination that is resolved once, read, written, and gives the flags (40 R276); `k` words of the instruction come before
those of the destination. -/
def UpdateCompletes (i : Instr) (sz : Size) (ea : Ea) (k : Nat)
    (f : BitVec sz.bits → M68k → BitVec sz.bits × Ccr) (data : List Nat) : Prop :=
  ∀ (s : State) (loc : Loc) (s1 : State) (d : BitVec sz.bits) (s2 s3 : State),
    s.ready68k → (s.past k).locate sz ea = some (loc, s1) → s1.readAt sz loc = some (d, s2) →
    s2.writeAt sz loc (f d s2.m68k).1 = some s3 →
    exec i s = .next ((s3.withCcr (f d s2.m68k).2).ended68k i data)

/-- An instruction that computes from a source and the registers only, and writes registers: `f` gives them. -/
def SourceCompletes (i : Instr) (sz : Size) (ea : Ea) (k : Nat) (f : BitVec sz.bits → M68k → M68k)
    (data : BitVec sz.bits → M68k → List Nat) : Prop :=
  ∀ (s : State) (loc : Loc) (s1 : State) (v : BitVec sz.bits) (s2 : State),
    s.ready68k → (s.past k).locate sz ea = some (loc, s1) → s1.readAt sz loc = some (v, s2) →
    exec i s = .next ((s2.mapM68k (f v)).ended68k i (data v s2.m68k))

/-- A destination that is resolved and written without being read; `f` gives the value and the registers after it. -/
def WriteCompletes (i : Instr) (sz : Size) (ea : Ea) (value : M68k → BitVec sz.bits) (after : M68k → M68k)
    (data : M68k → List Nat) : Prop :=
  ∀ (s : State) (loc : Loc) (s1 s2 : State),
    s.ready68k → (s.past 1).locate sz ea = some (loc, s1) → s1.writeAt sz loc (value s1.m68k) = some s2 →
    exec i s = .next ((s2.mapM68k after).ended68k i (data s1.m68k))

/-- An instruction with no operand in memory: `f` gives the registers after it. -/
def RegisterCompletes (i : Instr) (f : M68k → M68k) (data : M68k → List Nat) : Prop :=
  ∀ s : State, s.ready68k → exec i s = .next (((s.past 1).mapM68k f).ended68k i (data s.m68k))

/-- As `RegisterCompletes`, where S must be 1. -/
def SupervisorCompletes (i : Instr) (f : M68k → M68k) : Prop :=
  ∀ s : State, s.ready68k → s.m68k.super = true → exec i s = .next (((s.past 1).mapM68k f).ended68k i [])

/-- An operand that gives an address, and what the instruction does with it. -/
def AddressCompletes (i : Instr) (ea : Ea) (f : Long → M68k → M68k) : Prop :=
  ∀ (s : State) (a : Long) (s1 : State), s.ready68k → (s.past 1).locate .l ea = some (.mem a, s1) →
    exec i s = .next ((s1.mapM68k (f a)).ended68k i [])

/-- The register shifts (44 R429). -/
def ShiftRegCompletes (mk : Size → ShiftCount → Reg → Instr) (step : (n : Nat) → Shift n → Shift n) (useV rox : Bool) : Prop :=
  ∀ (sz : Size) (c : ShiftCount) (y : Reg),
    RegisterCompletes (mk sz c y)
      (fun m =>
        (m.setDPart y sz (shiftResult (step sz.bits) useV rox (shiftCount c m) ((m.dreg y).setWidth sz.bits) m.ccr).1).setCcr
          (shiftResult (step sz.bits) useV rox (shiftCount c m) ((m.dreg y).setWidth sz.bits) m.ccr).2)
      (fun m => [shiftCount c m])

/-- The result and the flags of a shift: N and Z are those of the result (44 R429). -/
def ShiftIs {n : Nat} (r : BitVec n × Ccr) (w : BitVec n) (x v c : Bool) : Prop :=
  r = (w, { x := x, n := w.msb, z := w = 0#n, v := v, c := c })

/-! ### The shapes of completion, Z80 -/

/-- An instruction with no access: `f` gives the registers, from those past its bytes and its own address. -/
def ZRegisterCompletes (i : Instr) (f : Word → Z80 → Z80) (data : Z80 → List Nat) : Prop :=
  ∀ s : State, s.readyZ80 → exec i s = .next (((s.pastZ80 i).mapZ80 (f s.z80.pc)).endedZ80 i (data s.z80))

/-- An instruction that reads one byte of ZRAM at `addr`: `f` gives the registers from it. -/
def ZLoadCompletes (i : Instr) (addr : Z80 → Word) (f : Byte → Z80 → Z80) : Prop :=
  ∀ (s : State) (v : Byte), s.readyZ80 → s.peek (addr s.z80) = some v →
    exec i s = .next (((s.pastZ80 i).mapZ80 (f v)).endedZ80 i [])

/-- An instruction that writes one byte of ZRAM at `addr`, and `f` to its registers. -/
def ZStoreCompletes (i : Instr) (addr : Z80 → Word) (value : Z80 → Byte) (f : Z80 → Z80) : Prop :=
  ∀ s t : State, s.readyZ80 → ((s.pastZ80 i).mapZ80 f).poke (addr s.z80) (value s.z80) = some t →
    exec i s = .next (t.endedZ80 i [])

/-- An instruction that reads a byte of ZRAM at `addr`, writes `value` of it back there, and leaves `f` of it in the registers. -/
def ZUpdateCompletes (i : Instr) (addr : Z80 → Word) (value : Byte → Z80 → Byte) (f : Byte → Z80 → Z80) : Prop :=
  ∀ (s : State) (v : Byte) (t : State), s.readyZ80 → s.peek (addr s.z80) = some v →
    ((s.pastZ80 i).mapZ80 (f v)).poke (addr s.z80) (value v s.z80) = some t → exec i s = .next (t.endedZ80 i [])

/-- `(IX+d)` or `(IY+d)` (46 R520). -/
def atXd (x : Idx) (d : Byte) (z : Z80) : Word := z.idx x + d.signExtend 16

/-- The registers with the displacement kept (10 R71). -/
def keepD (d : Byte) (z : Z80) : Z80 := { z with dcache := some d }

/-- An instruction on a register, on `(HL)` or on `(IX+d)`: `value` of the operand is written back and `f` of it is left in the
registers. -/
def ZOperandCompletes (mk : ZOp8 → Instr) (mkXd : Idx → Byte → Instr) (value : Byte → Z80 → Byte) (f : Byte → Z80 → Z80) :
    Prop :=
  (∀ r, ZRegisterCompletes (mk (.reg r)) (fun _ z => (f (z.reg r) z).setReg r (value (z.reg r) z)) fun _ => []) ∧
  ZUpdateCompletes (mk .hl) Z80.hl value f ∧
  ∀ x d, ZUpdateCompletes (mkXd x d) (atXd x d) value fun v z => f v (keepD d z)

/-- An 8-bit ALU instruction in its three forms (47 R570): `f` gives A and the flags from A, the source and CF. -/
def AluCompletes (mkR : ZOp8 → Instr) (mkN : Byte → Instr) (mkXd : Idx → Byte → Instr) (f : Byte → Byte → Bool → Byte × ZFlags) :
    Prop :=
  (∀ r, ZRegisterCompletes (mkR (.reg r))
    (fun _ z => { z with a := (f z.a (z.reg r) z.flags.c).1 }.flagged (f z.a (z.reg r) z.flags.c).2) fun _ => []) ∧
  ZLoadCompletes (mkR .hl) Z80.hl
    (fun v z => { z with a := (f z.a v z.flags.c).1 }.flagged (f z.a v z.flags.c).2) ∧
  (∀ n, ZRegisterCompletes (mkN n)
    (fun _ z => { z with a := (f z.a n z.flags.c).1 }.flagged (f z.a n z.flags.c).2) fun _ => []) ∧
  ∀ x d, ZLoadCompletes (mkXd x d) (atXd x d)
    (fun v z => { keepD d z with a := (f z.a v z.flags.c).1 }.flagged (f z.a v z.flags.c).2)

/-- The flags SF and ZF of a byte, the others given. -/
def szFlags (r : Byte) (h p n c : Bool) : ZFlags := { s := r.msb, z := r = 0#8, h := h, p := p, n := n, c := c }

/-- A rotate or shift of the CB page (47 R595 to R601). -/
def RotCompletes (mk : ZOp8 → Instr) (mkXd : Idx → Byte → Instr) (res : Byte → Bool → Byte) (out : Byte → Bool) : Prop :=
  ZOperandCompletes mk mkXd (fun v z => res v z.flags.c)
    fun v z => z.flagged (szFlags (res v z.flags.c) false (parity (res v z.flags.c)) false (out v))

/-- The registers after one iteration of a block port instruction (48 R646 to R655): `again` of a repeating one, which goes back to its
own address `ipc`; four flags are given. -/
def portStepped (down again : Bool) (ipc : Word) (fs fh fp fc : Bool) (z : Z80) : Z80 :=
  let z' := { z.setHl (blockStep down z.hl) with b := z.b - 1#8, draws := z.draws + 1 }.flagged
    { s := fs, z := decide (z.b - 1#8 = 0#8), h := fh, p := fp, n := true, c := fc }
  if again && decide (z.b - 1#8 ≠ 0#8) then { z' with pc := ipc } else z'

/-- The oracle's stream is one free byte further (20 R131). -/
def State.drawn (s : State) : State := s.mapBus fun b => { b with draws := b.draws + 1 }

end Sys2Proof.Machine

open Sys2Proof Sys2Proof.Machine

/-- MOVE.B, MOVE.L and MOVE.W (42 R331) complete: both operands are resolved, the source is read, the destination is written
with it, N and Z come from it, V and C are 0, X is kept; no other register, flag or byte changes. The cycles counted are the
opaque parameter of log 10. -/
def Obligations.MoveCompletes : Prop :=
  (∀ sz mk, (sz, mk) ∈ [(Size.b, Instr.moveB), (Size.w, Instr.moveW), (Size.l, Instr.moveL)] →
    ∀ (s : State) (src dst : Ea) (ls : Loc) (s1 : State) (ld : Loc) (s2 : State) (v : BitVec sz.bits) (s3 s4 : State),
      s.ready68k → (s.past 1).locate sz src = some (ls, s1) → s1.locate sz dst = some (ld, s2) →
      s2.readAt sz ls = some (v, s3) → s3.writeAt sz ld v = some s4 →
      exec (mk src dst) s = .next ((s4.logicCcr v).ended68k (mk src dst) []))

/-- MOVEA.L, MOVEA.W, ADDA, SUBA and LEA complete (42 R332, R338, 43 R372, R377): the whole address register is written, a word
source sign-extended, and no flag changes. The cycles counted are the opaque parameter of log 10. -/
def Obligations.AddressRegisterWritesComplete : Prop :=
  (∀ ea n, SourceCompletes (.moveaL ea n) .l ea 1 (fun v m => m.setA n (v.signExtend 32)) fun _ _ => []) ∧
  (∀ ea n, SourceCompletes (.moveaW ea n) .w ea 1 (fun v m => m.setA n (v.signExtend 32)) fun _ _ => []) ∧
  (∀ sz ea n, SourceCompletes (.adda sz ea n) sz ea 1 (fun v m => m.setA n (m.areg n + v.signExtend 32)) fun _ _ => []) ∧
  (∀ sz ea n, SourceCompletes (.suba sz ea n) sz ea 1 (fun v m => m.setA n (m.areg n - v.signExtend 32)) fun _ _ => []) ∧
  (∀ ea n, AddressCompletes (.lea ea n) ea fun a m => m.setA n a)

/-- ADD, SUB, AND and OR to a data register complete (43 R370, R371, R376, 44 R421, R423): the low bits of the register take the
result and its other bits are kept. ADD, SUB, AND, OR and EOR from a data register to a location complete (43 R370, R371, R376,
44 R421, R423, R425). The cycles counted are the opaque parameter of log 10. -/
def Obligations.RegisterAndLocationArithmeticCompletes : Prop :=
  (EaToDnCompletes .addToDn (fun _ s d _ => (d + s, flagsAdd s d (d + s))) ∧
  EaToDnCompletes .subToDn (fun _ s d _ => (d - s, flagsSub s d (d - s))) ∧
  EaToDnCompletes .andToDn (fun _ s d c => (d &&& s, flagsLogic (d &&& s) c)) ∧
  EaToDnCompletes .orToDn (fun _ s d c => (d ||| s, flagsLogic (d ||| s) c))) ∧
  (∀ (sz : Size) (n : Reg) (ea : Ea),
    UpdateCompletes (.addToEa sz n ea) sz ea 1
      (fun d m => (d + (m.dreg n).setWidth _, flagsAdd ((m.dreg n).setWidth _) d (d + (m.dreg n).setWidth _))) [] ∧
    UpdateCompletes (.subToEa sz n ea) sz ea 1
      (fun d m => (d - (m.dreg n).setWidth _, flagsSub ((m.dreg n).setWidth _) d (d - (m.dreg n).setWidth _))) [] ∧
    UpdateCompletes (.andToEa sz n ea) sz ea 1
      (fun d m => (d &&& (m.dreg n).setWidth _, flagsLogic (d &&& (m.dreg n).setWidth _) m.ccr)) [] ∧
    UpdateCompletes (.orToEa sz n ea) sz ea 1
      (fun d m => (d ||| (m.dreg n).setWidth _, flagsLogic (d ||| (m.dreg n).setWidth _) m.ccr)) [] ∧
    UpdateCompletes (.eor sz n ea) sz ea 1
      (fun d m => (d ^^^ (m.dreg n).setWidth _, flagsLogic (d ^^^ (m.dreg n).setWidth _) m.ccr)) [])

/-- ADDI, SUBI, ANDI, ORI and EORI complete (43 R370, R373, R378, 44 R422, R424, R426): the immediate words stand before the
words of the destination. The cycles counted are the opaque parameter of log 10. -/
def Obligations.ImmediateToLocationCompletes : Prop :=
  ∀ (sz : Size) (imm : Long) (ea : Ea),
    UpdateCompletes (.addi sz imm ea) sz ea (1 + immWords sz)
      (fun d _ => (d + imm.setWidth _, flagsAdd (imm.setWidth _) d (d + imm.setWidth _))) [] ∧
    UpdateCompletes (.subi sz imm ea) sz ea (1 + immWords sz)
      (fun d _ => (d - imm.setWidth _, flagsSub (imm.setWidth _) d (d - imm.setWidth _))) [] ∧
    UpdateCompletes (.andi sz imm ea) sz ea (1 + immWords sz)
      (fun d m => (d &&& imm.setWidth _, flagsLogic (d &&& imm.setWidth _) m.ccr)) [] ∧
    UpdateCompletes (.ori sz imm ea) sz ea (1 + immWords sz)
      (fun d m => (d ||| imm.setWidth _, flagsLogic (d ||| imm.setWidth _) m.ccr)) [] ∧
    UpdateCompletes (.eori sz imm ea) sz ea (1 + immWords sz)
      (fun d m => (d ^^^ imm.setWidth _, flagsLogic (d ^^^ imm.setWidth _) m.ccr)) []

/-- ADDQ and SUBQ complete (43 R374, R379): an address register takes all 32 bits and no flag changes; every other location
takes the sum or difference and the flags. A quick field of 0 is 8. The cycles counted are the opaque parameter of log 10. -/
def Obligations.QuickCompletes : Prop :=
  (∀ sz q n, RegisterCompletes (.addq sz q (.an n))
    (fun m => m.setA n (m.areg n + BitVec.ofNat 32 (quickValue q))) fun _ => []) ∧
  (∀ sz q n, RegisterCompletes (.subq sz q (.an n))
    (fun m => m.setA n (m.areg n - BitVec.ofNat 32 (quickValue q))) fun _ => []) ∧
  (∀ sz q ea, ea.kind ≠ .an → UpdateCompletes (.addq sz q ea) sz ea 1
    (fun d _ => (d + BitVec.ofNat _ (quickValue q),
      flagsAdd (BitVec.ofNat _ (quickValue q)) d (d + BitVec.ofNat _ (quickValue q)))) []) ∧
  (∀ sz q ea, ea.kind ≠ .an → UpdateCompletes (.subq sz q ea) sz ea 1
    (fun d _ => (d - BitVec.ofNat _ (quickValue q),
      flagsSub (BitVec.ofNat _ (quickValue q)) d (d - BitVec.ofNat _ (quickValue q)))) [])

/-- ADDX and SUBX complete (43 R375, R380), on data registers and on predecremented memory: X takes part, and Z is cleared by a
result other than 0 and kept otherwise. The cycles counted are the opaque parameter of log 10. -/
def Obligations.ExtendedArithmeticCompletes : Prop :=
  ∀ (mk : Size → Bool → Reg → Reg → Instr) (f : (n : Nat) → Alu n),
    ((mk = .addx ∧ f = fun _ s d c =>
        (d + s + bitOf _ c.x, flagsAddX s d (d + s + bitOf _ c.x) c)) ∨
      (mk = .subx ∧ f = fun _ s d c =>
        (d - s - bitOf _ c.x, flagsSubX s d (d - s - bitOf _ c.x) c))) →
    (∀ sz y x, RegisterCompletes (mk sz false y x)
      (fun m => (m.setDPart x sz (f sz.bits ((m.dreg y).setWidth sz.bits) ((m.dreg x).setWidth sz.bits) m.ccr).1).setCcr
        (f sz.bits ((m.dreg y).setWidth sz.bits) ((m.dreg x).setWidth sz.bits) m.ccr).2) fun _ => []) ∧
    (∀ (s : State) (sz : Size) (y x : Reg) (ls : Loc) (s1 : State) (v : BitVec sz.bits) (s2 : State) (ld : Loc) (s3 : State)
        (d : BitVec sz.bits) (s4 s5 : State),
      s.ready68k → (s.past 1).locate sz (.pre y) = some (ls, s1) → s1.readAt sz ls = some (v, s2) →
      s2.locate sz (.pre x) = some (ld, s3) → s3.readAt sz ld = some (d, s4) →
      s4.writeAt sz ld (f sz.bits v d s4.m68k.ccr).1 = some s5 →
      exec (mk sz true y x) s = .next ((s5.withCcr (f sz.bits v d s4.m68k.ccr).2).ended68k (mk sz true y x) []))

/-- NEG, NEGX and NOT complete (43 R381, R382, 44 R427). CLR, Scc and MOVE from SR complete (43 R383, 45 R475, 42 R346): the
destination is written and not read. The cycles counted are the opaque parameter of log 10. -/
def Obligations.NegationAndWriteOnlyComplete : Prop :=
  (∀ (sz : Size) (ea : Ea),
    UpdateCompletes (.neg sz ea) sz ea 1 (fun d _ => (0 - d, flagsNeg d (0 - d))) [] ∧
    UpdateCompletes (.negx sz ea) sz ea 1 (fun d m =>
      (0 - d - bitOf _ m.ccr.x, flagsNegX d (0 - d - bitOf _ m.ccr.x) m.ccr)) [] ∧
    UpdateCompletes (.notOp sz ea) sz ea 1 (fun d m => (~~~d, flagsLogic (~~~d) m.ccr)) []) ∧
  ((∀ sz ea, WriteCompletes (.clr sz ea) sz ea (fun _ => 0)
    (fun m => m.setCcr { x := m.ccr.x, n := false, z := true, v := false, c := false }) fun _ => []) ∧
  (∀ cnd ea, WriteCompletes (.scc cnd ea) .b ea (fun m => if m.ccr.holds cnd then 0xFF#8 else 0x00#8) id
    fun _ => []) ∧
  (∀ ea, WriteCompletes (.moveFromSr ea) .w ea M68k.getSr id fun _ => []))

/-- CMP, CMPA, CMPI, CMPM and TST complete (43 R384 to R388): N Z V C are the flags of the comparison, X is kept, no register
that is compared and no byte of memory is written; CMPA compares all 32 bits. The cycles counted are the opaque parameter of log
10. -/
def Obligations.ComparesComplete : Prop :=
  (∀ sz ea n, SourceCompletes (.cmp sz ea n) sz ea 1
    (fun v m => m.setCcr (flagsCmp v ((m.dreg n).setWidth _) ((m.dreg n).setWidth _ - v) m.ccr)) fun _ _ => []) ∧
  (∀ sz ea n, SourceCompletes (.cmpa sz ea n) sz ea 1
    (fun v m => m.setCcr (flagsCmp (v.signExtend 32) (m.areg n) (m.areg n - v.signExtend 32) m.ccr)) fun _ _ => []) ∧
  (∀ sz imm ea, SourceCompletes (.cmpi sz imm ea) sz ea (1 + immWords sz)
    (fun d m => m.setCcr (flagsCmp (imm.setWidth _) d (d - imm.setWidth _) m.ccr)) fun _ _ => []) ∧
  (∀ (s : State) (sz : Size) (y x : Reg) (ls : Loc) (s1 : State) (v : BitVec sz.bits) (s2 : State) (ld : Loc) (s3 : State)
      (d : BitVec sz.bits) (s4 : State),
    s.ready68k → (s.past 1).locate sz (.post y) = some (ls, s1) → s1.readAt sz ls = some (v, s2) →
    s2.locate sz (.post x) = some (ld, s3) → s3.readAt sz ld = some (d, s4) →
    exec (.cmpm sz y x) s = .next ((s4.mapM68k fun m => m.setCcr (flagsCmp v d (d - v) m.ccr)).ended68k (.cmpm sz y x) [])) ∧
  (∀ sz ea, SourceCompletes (.tst sz ea) sz ea 1 (fun v m => m.setCcr (flagsLogic v m.ccr)) fun _ _ => [])

/-- MOVEQ, SWAP, EXT.W, EXT.L and the three EXG forms complete (42 R333, R340, R341, 43 R393). The cycles counted are the opaque
parameter of log 10. -/
def Obligations.RegisterMovesComplete : Prop :=
  (∀ n d, RegisterCompletes (.moveq n d)
    (fun m => (m.setD n (d.signExtend 32)).setCcr (flagsLogic (d.signExtend 32 : Long) m.ccr)) fun _ => []) ∧
  (∀ n, RegisterCompletes (.swap n)
    (fun m => (m.setD n ((m.dreg n).rotateLeft 16)).setCcr (flagsLogic ((m.dreg n).rotateLeft 16) m.ccr)) fun _ => []) ∧
  (∀ n, RegisterCompletes (.extW n)
    (fun m => (m.setDPart n .w (((m.dreg n).setWidth 8).signExtend 16)).setCcr
      (flagsLogic (((m.dreg n).setWidth 8).signExtend 16) m.ccr)) fun _ => []) ∧
  (∀ n, RegisterCompletes (.extL n)
    (fun m => (m.setD n (((m.dreg n).setWidth 16).signExtend 32)).setCcr
      (flagsLogic (((m.dreg n).setWidth 16).signExtend 32) m.ccr)) fun _ => []) ∧
  (∀ x y, RegisterCompletes (.exgDD x y) (fun m => (m.setD x (m.dreg y)).setD y (m.dreg x)) fun _ => []) ∧
  (∀ x y, RegisterCompletes (.exgAA x y) (fun m => (m.setA x (m.areg y)).setA y (m.areg x)) fun _ => []) ∧
  (∀ x y, RegisterCompletes (.exgDA x y) (fun m => (m.setD x (m.areg y)).setA y (m.dreg x)) fun _ => [])

/-- PEA, LINK and UNLK complete (42 R339, R342, R343); LINK A7 and UNLK A7 are refused by name. The cycles counted are the
opaque parameter of log 10. -/
def Obligations.FramesComplete : Prop :=
  (∀ (s : State) (ea : Ea) (a : Long) (s1 t : State), s.ready68k → (s.past 1).locate .l ea = some (.mem a, s1) →
    s1.pushAt .l a = some t → exec (.pea ea) s = .next (t.ended68k (.pea ea) [])) ∧
  (∀ (s : State) (n : Reg) (d : Word) (t : State), s.ready68k → n ≠ 7#3 → (s.past 2).pushAt .l (s.m68k.areg n) = some t →
    exec (.link n d) s = .next ((t.mapM68k fun m => (m.setA n m.sp).setSp (m.sp + d.signExtend 32)).ended68k (.link n d) [])) ∧
  (∀ (s : State) (n : Reg) (v : Long) (t : State), s.ready68k → n ≠ 7#3 →
    ((s.past 1).mapM68k fun m => m.setSp (m.areg n)).loadAt .l (s.m68k.areg n) = some (v, t) →
    exec (.unlk n) s = .next ((t.mapM68k fun m => (m.setA n v).setSp (m.sp + 4#32)).ended68k (.unlk n) [])) ∧
  (∀ (s : State) (d : Word), exec (.link 7#3 d) s = .refused .linkA7) ∧
  (∀ s : State, exec (.unlk 7#3) s = .refused .linkA7)

/-- MOVEM completes both ways (42 R334, R335): the registers of the mask are transferred in its order at consecutive addresses;
the predecrement form stores downwards and leaves the last address in the base register, the postincrement form loads and leaves
the address after the last there. MOVEP completes both ways (42 R336, R337): two or four bytes at every second address, the
highest first. The cycles counted are the opaque parameter of log 10. -/
def Obligations.MovemAndMovepComplete : Prop :=
  ((∀ (s : State) (sz : Size) (mask : Word) (n : Reg) (a : Long) (t : State), s.ready68k →
    (s.past 2).movemDownAt sz n (s.m68k.areg n) (maskBits mask) (s.m68k.areg n) = some (a, t) →
    exec (.movemStore sz mask (.pre n)) s =
      .next ((t.mapM68k fun m => m.setA n a).ended68k (.movemStore sz mask (.pre n)) [])) ∧
  (∀ (s : State) (sz : Size) (mask : Word) (ea : Ea) (a : Long) (s1 t : State), s.ready68k → ea.kind ≠ .pre →
    (s.past 2).locate sz ea = some (.mem a, s1) → s1.movemUpAt sz (maskBits mask) a = some t →
    exec (.movemStore sz mask ea) s = .next (t.ended68k (.movemStore sz mask ea) [])) ∧
  (∀ (s : State) (sz : Size) (mask : Word) (n : Reg) (a : Long) (t : State), s.ready68k →
    (s.past 2).movemLoadAt sz (maskBits mask) (s.m68k.areg n) = some (a, t) →
    exec (.movemLoad sz mask (.post n)) s =
      .next ((t.mapM68k fun m => m.setA n a).ended68k (.movemLoad sz mask (.post n)) [])) ∧
  (∀ (s : State) (sz : Size) (mask : Word) (ea : Ea) (a b : Long) (s1 t : State), s.ready68k → ea.kind ≠ .post →
    (s.past 2).locate sz ea = some (.mem a, s1) → s1.movemLoadAt sz (maskBits mask) a = some (b, t) →
    exec (.movemLoad sz mask ea) s = .next (t.ended68k (.movemLoad sz mask ea) []))) ∧
  ((∀ (s : State) (sz : Size) (x y : Reg) (d : Word) (bs : List Byte) (t : State), s.ready68k → sz ≠ .b →
    (s.past 2).movepLoadAt sz.bytes (s.m68k.areg y + d.signExtend 32) = some (bs, t) →
    exec (.movepLoad sz x y d) s =
      .next ((t.mapM68k fun m => m.setDPart x sz ((ofBigEndian bs).setWidth _)).ended68k (.movepLoad sz x y d) [])) ∧
  (∀ (s : State) (sz : Size) (x y : Reg) (d : Word) (t : State), s.ready68k → sz ≠ .b →
    (s.past 2).movepStoreAt (bigEndian sz (s.m68k.dreg x)) (s.m68k.areg y + d.signExtend 32) = some t →
    exec (.movepStore sz x y d) s = .next (t.ended68k (.movepStore sz x y d) [])))

/-- ORI, ANDI and EORI to CCR and MOVE to CCR complete (45 R489 to R491, 42 R344): the five flags are bits 4:0 of the result. In
supervisor mode ORI, ANDI and EORI to SR, MOVE to SR, MOVE USP both ways, STOP and RESET complete (45 R484, R485, R492 to R494,
42 R345, R347). The cycles counted are the opaque parameter of log 10. -/
def Obligations.StatusRegisterInstructionsComplete : Prop :=
  ((∀ imm, RegisterCompletes (.oriToCcr imm)
    (fun m => (m.skip 1).setCcr (Ccr.ofBits (m.ccr.bits ||| imm.setWidth 5))) fun _ => []) ∧
  (∀ imm, RegisterCompletes (.andiToCcr imm)
    (fun m => (m.skip 1).setCcr (Ccr.ofBits (m.ccr.bits &&& imm.setWidth 5))) fun _ => []) ∧
  (∀ imm, RegisterCompletes (.eoriToCcr imm)
    (fun m => (m.skip 1).setCcr (Ccr.ofBits (m.ccr.bits ^^^ imm.setWidth 5))) fun _ => []) ∧
  (∀ ea, SourceCompletes (.moveToCcr ea) .w ea 1 (fun v m => m.setCcr (Ccr.ofBits (v.setWidth 5))) fun _ _ => [])) ∧
  ((∀ imm, SupervisorCompletes (.oriToSr imm) fun m => (m.skip 1).writeSr (m.getSr ||| imm)) ∧
  (∀ imm, SupervisorCompletes (.andiToSr imm) fun m => (m.skip 1).writeSr (m.getSr &&& imm)) ∧
  (∀ imm, SupervisorCompletes (.eoriToSr imm) fun m => (m.skip 1).writeSr (m.getSr ^^^ imm)) ∧
  (∀ (s : State) (ea : Ea) (loc : Loc) (s1 : State) (v : Word) (s2 : State), s.ready68k → s.m68k.super = true →
    (s.past 1).locate .w ea = some (loc, s1) → s1.readAt .w loc = some (v, s2) →
    exec (.moveToSr ea) s = .next ((s2.mapM68k fun m => m.writeSr v).ended68k (.moveToSr ea) [])) ∧
  (∀ n, SupervisorCompletes (.moveUsp true n) fun m => m.setA n m.osp) ∧
  (∀ n, SupervisorCompletes (.moveUsp false n) fun m => { m with osp := m.areg n }) ∧
  (∀ imm, SupervisorCompletes (.stop imm) fun m => { (m.skip 1).writeSr imm with run := .stopped }) ∧
  (∀ s : State, s.ready68k → s.m68k.super = true →
    exec .reset s = .next (((s.past 1).record .resetDevices).ended68k .reset [])))

/-- RTS, RTR and, in supervisor mode, RTE complete (45 R478 to R480): RTR restores the flags only, RTE all of SR, exchanging the
stacks if S changes. The cycles counted are the opaque parameter of log 10. -/
def Obligations.ReturnsComplete : Prop :=
  (∀ (s : State) (a : Long) (t : State), s.ready68k → (s.past 1).popAt .l = some (a, t) →
    exec .rts s = .next ((t.mapM68k fun m => { m with pc := a }).ended68k .rts [])) ∧
  (∀ (s : State) (c : Word) (s1 : State) (a : Long) (t : State), s.ready68k → (s.past 1).popAt .w = some (c, s1) →
    (s1.withCcr (Ccr.ofBits (c.setWidth 5))).popAt .l = some (a, t) →
    exec .rtr s = .next ((t.mapM68k fun m => { m with pc := a }).ended68k .rtr [])) ∧
  (∀ (s : State) (w : Word) (s1 : State) (a : Long) (t : State), s.ready68k → s.m68k.super = true →
    (s.past 1).popAt .w = some (w, s1) → s1.popAt .l = some (a, t) →
    exec .rte s = .next ((t.mapM68k fun m => { m.writeSr w with pc := a }).ended68k .rte []))

/-- MULU and MULS complete (43 R389, R390): the register takes the exact 32-bit product of two words, N and Z come from it, V
and C are 0. DIVU and DIVS complete on a divisor other than 0 (43 R391, R392): with `q` the quotient, truncated toward zero, and
`r` the remainder, `dividend = q * divisor + r`; a quotient that fits a word is written below the remainder, with N and Z from
it and V and C 0; one that does not sets V, clears C, keeps the register, and leaves N and Z free. The flags left free are the
model's draws (log 7). The cycles counted are the opaque parameter of log 10. -/
def Obligations.MultipliesAndDividesComplete : Prop :=
  ((∀ ea n, SourceCompletes (.mulu ea n) .w ea 1
    (fun v m => (m.setD n (((m.dreg n).setWidth 16).setWidth 32 * v.setWidth 32)).setCcr
      (flagsLogic (((m.dreg n).setWidth 16).setWidth 32 * v.setWidth 32 : Long) m.ccr)) fun v _ => [v.toNat]) ∧
  (∀ ea n, SourceCompletes (.muls ea n) .w ea 1
    (fun v m => (m.setD n (((m.dreg n).setWidth 16).signExtend 32 * v.signExtend 32)).setCcr
      (flagsLogic (((m.dreg n).setWidth 16).signExtend 32 * v.signExtend 32 : Long) m.ccr)) fun v _ => [v.toNat])) ∧
  ((∀ (s : State) (ea : Ea) (n : Reg) (loc : Loc) (s1 : State) (v : Word) (s2 : State) (q r : Nat),
    s.ready68k → (s.past 1).locate .w ea = some (loc, s1) → s1.readAt .w loc = some (v, s2) → v ≠ 0 →
    (s2.m68k.dreg n).toNat = q * v.toNat + r → r < v.toNat →
    (q < 65536 → exec (.divu ea n) s = .next ((s2.mapM68k fun m =>
      (m.setD n (BitVec.ofNat 16 r ++ BitVec.ofNat 16 q)).setCcr
        { x := m.ccr.x, n := (BitVec.ofNat 16 q).msb, z := q = 0, v := false, c := false }).ended68k (.divu ea n)
      [(s2.m68k.dreg n).toNat, v.toNat, 0])) ∧
    (65536 ≤ q → ∃ fn fz, exec (.divu ea n) s = .next ((s2.mapM68k fun m =>
      { m.setCcr { x := m.ccr.x, n := fn, z := fz, v := true, c := false } with draws := m.draws + 2 }).ended68k (.divu ea n)
      [(s2.m68k.dreg n).toNat, v.toNat, 1]))) ∧
  (∀ (s : State) (ea : Ea) (n : Reg) (loc : Loc) (s1 : State) (v : Word) (s2 : State) (q r : Int),
    s.ready68k → (s.past 1).locate .w ea = some (loc, s1) → s1.readAt .w loc = some (v, s2) → v ≠ 0 →
    (s2.m68k.dreg n).toInt = q * v.toInt + r → r.natAbs < v.toInt.natAbs → (r ≠ 0 → (r < 0 ↔ (s2.m68k.dreg n).toInt < 0)) →
    (-32768 ≤ q ∧ q ≤ 32767 → exec (.divs ea n) s = .next ((s2.mapM68k fun m =>
      (m.setD n (BitVec.ofInt 16 r ++ BitVec.ofInt 16 q)).setCcr
        { x := m.ccr.x, n := q < 0, z := q = 0, v := false, c := false }).ended68k (.divs ea n)
      [(s2.m68k.dreg n).toNat, v.toNat, 0])) ∧
    (¬(-32768 ≤ q ∧ q ≤ 32767) → ∃ fn fz, exec (.divs ea n) s = .next ((s2.mapM68k fun m =>
      { m.setCcr { x := m.ccr.x, n := fn, z := fz, v := true, c := false } with draws := m.draws + 2 }).ended68k (.divs ea n)
      [(s2.m68k.dreg n).toNat, v.toNat, 1]))))

/-- A divisor of 0 raises vector 5 and a CHK out of bounds vector 6, stacking the address of the next instruction, with the
register kept; CHK in bounds completes (43 R391, R392, R394). The flags the rules leave undefined are free. The free flags are
the model's draws (log 7). The cycles counted are the opaque parameter of log 10. -/
def Obligations.DivideByZeroAndChk : Prop :=
  (∀ (i : Instr) (s : State) (ea : Ea) (n : Reg) (loc : Loc) (s1 s2 : State), i = .divu ea n ∨ i = .divs ea n →
    s.ready68k → (s.past 1).locate .w ea = some (loc, s1) → s1.readAt .w loc = some (0, s2) →
    ∃ fn fz fv, ∀ t, (s2.mapM68k fun m =>
        { m.setCcr { x := m.ccr.x, n := fn, z := fz, v := fv, c := false } with draws := m.draws + 3 }).enterAt 5 s2.m68k.pc = some t →
      exec i s = .next t) ∧
  (∀ (s : State) (ea : Ea) (n : Reg) (loc : Loc) (s1 : State) (v : Word) (s2 : State),
    s.ready68k → (s.past 1).locate .w ea = some (loc, s1) → s1.readAt .w loc = some (v, s2) →
    (((s2.m68k.dreg n).setWidth 16).toInt < 0 ∨ v.toInt < ((s2.m68k.dreg n).setWidth 16).toInt → ∃ fz fv fc, ∀ t,
      (s2.mapM68k fun m =>
        { m.setCcr { x := m.ccr.x, n := ((s2.m68k.dreg n).setWidth 16).toInt < 0, z := fz, v := fv, c := fc } with
          draws := m.draws + 3 }).enterAt 6 s2.m68k.pc = some t → exec (.chk ea n) s = .next t) ∧
    (0 ≤ ((s2.m68k.dreg n).setWidth 16).toInt ∧ ((s2.m68k.dreg n).setWidth 16).toInt ≤ v.toInt → ∃ fn fz fv fc,
      exec (.chk ea n) s = .next ((s2.mapM68k fun m =>
        { m.setCcr { x := m.ccr.x, n := fn, z := fz, v := fv, c := fc } with draws := m.draws + 4 }).ended68k (.chk ea n) [])))

/-- The register shifts and rotates complete (44 R429 to R437): as many steps as the count, which is the quick field (0 is 8) or
a register modulo 64. The memory shifts and rotates complete (44 R429 to R437): one step on the word. What the steps of each add
up to, on an operand of any width: a shift by the count, C and X the bit last shifted out (a count of 0 keeps X and clears C), V
of ASL whether the sign ever changed; a rotation with X kept and C the bit last moved; a rotation of X above the operand, C as
X. The cycles counted are the opaque parameter of log 10. -/
def Obligations.ShiftsComplete : Prop :=
  (ShiftRegCompletes .aslReg (fun _ => stepAsl) true false ∧ ShiftRegCompletes .asrReg (fun _ => stepAsr) false false ∧
  ShiftRegCompletes .lslReg (fun _ => stepLsl) false false ∧ ShiftRegCompletes .lsrReg (fun _ => stepLsr) false false ∧
  ShiftRegCompletes .rolReg (fun _ => stepRol) false false ∧ ShiftRegCompletes .rorReg (fun _ => stepRor) false false ∧
  ShiftRegCompletes .roxlReg (fun _ => stepRoxl) false true ∧ ShiftRegCompletes .roxrReg (fun _ => stepRoxr) false true) ∧
  (∀ ea : Ea,
    UpdateCompletes (.aslMem ea) .w ea 1 (fun d m => shiftResult stepAsl true false 1 d m.ccr) [1] ∧
    UpdateCompletes (.asrMem ea) .w ea 1 (fun d m => shiftResult stepAsr false false 1 d m.ccr) [1] ∧
    UpdateCompletes (.lslMem ea) .w ea 1 (fun d m => shiftResult stepLsl false false 1 d m.ccr) [1] ∧
    UpdateCompletes (.lsrMem ea) .w ea 1 (fun d m => shiftResult stepLsr false false 1 d m.ccr) [1] ∧
    UpdateCompletes (.rolMem ea) .w ea 1 (fun d m => shiftResult stepRol false false 1 d m.ccr) [1] ∧
    UpdateCompletes (.rorMem ea) .w ea 1 (fun d m => shiftResult stepRor false false 1 d m.ccr) [1] ∧
    UpdateCompletes (.roxlMem ea) .w ea 1 (fun d m => shiftResult stepRoxl false true 1 d m.ccr) [1] ∧
    UpdateCompletes (.roxrMem ea) .w ea 1 (fun d m => shiftResult stepRoxr false true 1 d m.ccr) [1]) ∧
  (∀ (n c : Nat) (v : BitVec n) (old : Ccr), 0 < n →
    let keep := fun out => if c = 0 then old.x else out
    let carry := fun out => if c = 0 then false else out
    let left := if c ≤ n then v.getLsbD (n - c) else false
    let right := v.getLsbD (c - 1)
    let arith := if c ≤ n then v.getLsbD (c - 1) else v.msb
    let signChanges := (List.range (c + 1)).any fun j => (v <<< j).msb != v.msb
    let up := (BitVec.cons old.x v).rotateLeft c
    let down := (BitVec.cons old.x v).rotateRight c
    ShiftIs (shiftResult stepAsl true false c v old) (v <<< c) (keep left) signChanges (carry left) ∧
    ShiftIs (shiftResult stepLsl false false c v old) (v <<< c) (keep left) false (carry left) ∧
    ShiftIs (shiftResult stepAsr false false c v old) (v.sshiftRight c) (keep arith) false (carry arith) ∧
    ShiftIs (shiftResult stepLsr false false c v old) (v >>> c) (keep right) false (carry right) ∧
    ShiftIs (shiftResult stepRol false false c v old) (v.rotateLeft c) old.x false (carry ((v.rotateLeft c).getLsbD 0)) ∧
    ShiftIs (shiftResult stepRor false false c v old) (v.rotateRight c) old.x false (carry (v.rotateRight c).msb) ∧
    ShiftIs (shiftResult stepRoxl false true c v old) (up.setWidth n) up.msb false up.msb ∧
    ShiftIs (shiftResult stepRoxr false true c v old) (down.setWidth n) down.msb false down.msb)

/-- BTST, BCHG, BCLR and BSET complete, static and dynamic (44 R438 to R442): the bit number is taken modulo 32 on a data
register and modulo 8 on a byte; Z says whether the bit was 0, and no other flag changes. TAS completes (44 R428, 20 R128): bit
7 of a data register's byte, or of a byte of memory in one access, is set; N and Z come from the byte before, V and C are 0, X
is kept. The cycles counted are the opaque parameter of log 10. -/
def Obligations.BitOperationsAndTasComplete : Prop :=
  (∀ (ea : Ea) (k : Word) (n : Reg),
    SourceCompletes (.btstImm k ea) (bitOpSize ea) ea 2
      (fun v m => m.setCcr { m.ccr with z := !v.getLsbD ((k.setWidth 8).toNat % (bitOpSize ea).bits) }) (fun _ _ => []) ∧
    SourceCompletes (.btstReg n ea) (bitOpSize ea) ea 1
      (fun v m => m.setCcr { m.ccr with z := !v.getLsbD ((m.dreg n).toNat % (bitOpSize ea).bits) }) (fun _ _ => []) ∧
    UpdateCompletes (.bchgImm k ea) (bitOpSize ea) ea 2
      (fun d m => (d ^^^ BitVec.twoPow _ ((k.setWidth 8).toNat % (bitOpSize ea).bits),
        { m.ccr with z := !d.getLsbD ((k.setWidth 8).toNat % (bitOpSize ea).bits) })) [] ∧
    UpdateCompletes (.bclrImm k ea) (bitOpSize ea) ea 2
      (fun d m => (d &&& ~~~BitVec.twoPow _ ((k.setWidth 8).toNat % (bitOpSize ea).bits),
        { m.ccr with z := !d.getLsbD ((k.setWidth 8).toNat % (bitOpSize ea).bits) })) [] ∧
    UpdateCompletes (.bsetImm k ea) (bitOpSize ea) ea 2
      (fun d m => (d ||| BitVec.twoPow _ ((k.setWidth 8).toNat % (bitOpSize ea).bits),
        { m.ccr with z := !d.getLsbD ((k.setWidth 8).toNat % (bitOpSize ea).bits) })) [] ∧
    (∀ (mk : Reg → Ea → Instr) (g : (w : Nat) → BitVec w → BitVec w → BitVec w),
      ((mk = .bchgReg ∧ g = fun _ d b => d ^^^ b) ∨ (mk = .bclrReg ∧ g = fun _ d b => d &&& ~~~b) ∨
        (mk = .bsetReg ∧ g = fun _ d b => d ||| b)) →
      ∀ (s : State) (loc : Loc) (s1 : State) (d : BitVec (bitOpSize ea).bits) (s2 s3 : State),
        s.ready68k → (s.past 1).locate (bitOpSize ea) ea = some (loc, s1) → s1.readAt (bitOpSize ea) loc = some (d, s2) →
        s2.writeAt (bitOpSize ea) loc (g _ d (BitVec.twoPow _ ((s.m68k.dreg n).toNat % (bitOpSize ea).bits))) = some s3 →
        exec (mk n ea) s = .next ((s3.withCcr
          { s2.m68k.ccr with z := !d.getLsbD ((s.m68k.dreg n).toNat % (bitOpSize ea).bits) }).ended68k (mk n ea) []))) ∧
  ((∀ n, RegisterCompletes (.tas (.dn n))
    (fun m => ((m.setDPart n .b ((m.dreg n).setWidth 8 ||| 0x80#8)).setCcr (flagsLogic ((m.dreg n).setWidth 8) m.ccr)).spend
      (.ea .dn .b)) fun _ => []) ∧
  (∀ (s : State) (ea : Ea) (a : Long) (s1 : State) (v : Byte) (s2 t : State), s.ready68k →
    (s.past 1).locate .b ea = some (.mem a, s1) → s1.loadAt .b a = some (v, s2) → s2.storeAt .b a (v ||| 0x80#8) = some t →
    exec (.tas ea) s = .next ((t.logicCcr v).ended68k (.tas ea) [])))

/-- Bcc, BRA, DBcc, JMP, NOP and TRAPV with V clear complete (45 R470 to R472, R474, R476, R482, R483): the base of a
displacement is the address of the instruction plus 2. BSR and JSR complete (45 R473, R477): the address of the next instruction
is pushed. The cycles counted are the opaque parameter of log 10. -/
def Obligations.JumpsAndCallsComplete : Prop :=
  ((∀ cnd disp, RegisterCompletes (.bcc cnd disp)
    (fun m => if m.ccr.holds cnd then { m with pc := m.pc + dispValue disp } else m.skip (dispWords disp))
    fun m => [(m.ccr.holds cnd).toNat, dispWords disp]) ∧
  (∀ disp, RegisterCompletes (.bra disp) (fun m => { m with pc := m.pc + dispValue disp }) fun _ => [1, dispWords disp]) ∧
  (∀ cnd n d, RegisterCompletes (.dbcc cnd n d)
    (fun m =>
      if m.ccr.holds cnd then m.skip 1
      else if (m.dreg n).setWidth 16 = 0#16 then (m.setDPart n .w 0xFFFF#16).skip 1
      else { m.setDPart n .w ((m.dreg n).setWidth 16 - 1#16) with pc := m.pc + d.signExtend 32 })
    fun m => if m.ccr.holds cnd then [0] else if (m.dreg n).setWidth 16 = 0#16 then [1] else [2]) ∧
  (∀ ea, AddressCompletes (.jmp ea) ea fun a m => { m with pc := a }) ∧
  RegisterCompletes .nop id (fun _ => []) ∧
  (∀ s : State, s.ready68k → s.m68k.ccr.v = false → exec .trapv s = .next ((s.past 1).ended68k .trapv []))) ∧
  ((∀ (s : State) (disp : Disp) (t : State), s.ready68k →
    (s.past (1 + dispWords disp)).pushAt .l (s.m68k.pc + 2#32 + BitVec.ofNat 32 (2 * dispWords disp)) = some t →
    exec (.bsr disp) s =
      .next ((t.mapM68k fun m => { m with pc := s.m68k.pc + 2#32 + dispValue disp }).ended68k (.bsr disp) [])) ∧
  (∀ (s : State) (ea : Ea) (a : Long) (s1 t : State), s.ready68k → (s.past 1).locate .l ea = some (.mem a, s1) →
    s1.pushAt .l s1.m68k.pc = some t →
    exec (.jsr ea) s = .next ((t.mapM68k fun m => { m with pc := a }).ended68k (.jsr ea) [])))

/-- TRAP raises vector 32 + n and TRAPV with V set vector 7, stacking the address after them; ILLEGAL and words with no row,
line A and line F follow the policy: `trap` raises vector 4, 10 or 11 at their own address, `ignore` passes them, `crash` halts
M68K (45 R481, R482, R486 to R488, 60 R705, R714). The mark of a crash is the model's (log 14). The cycles counted are the
opaque parameter of log 10. -/
def Obligations.TrapsAndPolicy : Prop :=
  (∀ (s : State) (v : BitVec 4) (t : State), s.ready68k → (s.past 1).enterAt (32 + v.toNat) (s.m68k.pc + 2#32) = some t →
    exec (.trap v) s = .next t) ∧
  (∀ (s t : State), s.ready68k → s.m68k.ccr.v = true → (s.past 1).enterAt 7 (s.m68k.pc + 2#32) = some t →
    exec .trapv s = .next t) ∧
  (∀ (s : State) (i : Instr) (vector : Nat), s.ready68k →
    ((∃ w, i = .illegal w) ∧ vector = 4 ∨ (∃ w, i = .lineA w) ∧ vector = 10 ∨ (∃ w, i = .lineF w) ∧ vector = 11) →
    (s.launch.policy = .trap → ∀ t, (s.past 1).enterAt vector s.m68k.pc = some t → exec i s = .next t) ∧
    (s.launch.policy = .ignore → exec i s = .next ((s.past 1).ended68k i [])) ∧
    (s.launch.policy = .crash → exec i s = .next ((s.past 1).halt68k .crashed)))

/-- A privileged instruction in user mode raises vector 8, stacking its own address, and does nothing else (45 R495). The cycles
counted are the opaque parameter of log 10. -/
def Obligations.PrivilegeViolation : Prop :=
  ∀ (s : State) (i : Instr) (t : State), s.ready68k → s.m68k.super = false →
    ((∃ w, i = .oriToSr w) ∨ (∃ w, i = .andiToSr w) ∨ (∃ w, i = .eoriToSr w) ∨ (∃ ea, i = .moveToSr ea) ∨
      (∃ d n, i = .moveUsp d n) ∨ (∃ w, i = .stop w) ∨ i = .reset ∨ i = .rte) →
    (s.past 1).enterAt 8 s.m68k.pc = some t → exec i s = .next t

/-- The 8-bit loads complete (46 R521 to R529): into a register from a register, a number or ZRAM, with no flag changed. The
8-bit stores complete (46 R524, R525, R528, R529). The cycles counted are the opaque parameter of log 10. -/
def Obligations.Z80ByteLoadsAndStoresComplete : Prop :=
  ((∀ r r', ZRegisterCompletes (.zLdRR r r') (fun _ z => z.setReg r (z.reg r')) fun _ => []) ∧
  (∀ r n, ZRegisterCompletes (.zLdRImm r n) (fun _ z => z.setReg r n) fun _ => []) ∧
  (∀ r, ZLoadCompletes (.zLdRHl r) Z80.hl fun v z => z.setReg r v) ∧
  (∀ x r d, ZLoadCompletes (.zLdRXd x r d) (atXd x d) fun v z => (keepD d z).setReg r v) ∧
  (∀ p, ZLoadCompletes (.zLdAInd p) (fun z => z.bcDe p) fun v z => { z with a := v }) ∧
  (∀ nn, ZLoadCompletes (.zLdANn nn) (fun _ => nn) fun v z => { z with a := v })) ∧
  ((∀ r, ZStoreCompletes (.zLdHlR r) Z80.hl (fun z => z.reg r) id) ∧
  (∀ x r d, ZStoreCompletes (.zLdXdR x r d) (atXd x d) (fun z => z.reg r) (keepD d)) ∧
  (∀ n, ZStoreCompletes (.zLdHlImm n) Z80.hl (fun _ => n) id) ∧
  (∀ x d n, ZStoreCompletes (.zLdXdImm x d n) (atXd x d) (fun _ => n) (keepD d)) ∧
  (∀ p, ZStoreCompletes (.zLdIndA p) (fun z => z.bcDe p) (fun z => z.a) id) ∧
  (∀ nn, ZStoreCompletes (.zLdNnA nn) (fun _ => nn) (fun z => z.a) id))

/-- The exchanges complete (46 R530 to R533): EX (SP) reads both bytes, then writes both. The loads of I and R complete (46 R534
to R537, 10 R64, R65): LD A,I and LD A,R set PF from IFF2 and keep CF; R keeps bit 7 as written, and its other bits read free.
That the low bits of R are a draw is the model's choice (log 7); YF and XF are free values (log 7). The cycles counted are the
opaque parameter of log 10. -/
def Obligations.Z80ExchangesAndSpecialLoadsComplete : Prop :=
  (ZRegisterCompletes .zExDeHl (fun _ z => (z.setDe z.hl).setHl z.de) (fun _ => []) ∧
  ZRegisterCompletes .zExAf (fun _ z => { z with a := z.a', f := z.f', a' := z.a, f' := z.f }) (fun _ => []) ∧
  ZRegisterCompletes .zExx (fun _ z =>
    { z with b := z.b', c := z.c', d := z.d', e := z.e', h := z.h', l := z.l',
             b' := z.b, c' := z.c, d' := z.d, e' := z.e, h' := z.h, l' := z.l }) (fun _ => []) ∧
  (∀ (i : Instr) (get : Z80 → Word) (set : Word → Z80 → Z80) (s : State) (v : Word) (t1 t2 : State),
    (i = .zExSpHl ∧ get = Z80.hl ∧ (set = fun w z => z.setHl w)) ∨
      (∃ x, i = .zExSpXx x ∧ (get = fun z => z.idx x) ∧ (set = fun w z => z.setIdx x w)) →
    s.readyZ80 → s.peek16 s.z80.sp = some v →
    (s.pastZ80 i).poke (s.z80.sp + 1#16) ((get s.z80).extractLsb' 8 8) = some t1 →
    t1.poke s.z80.sp ((get s.z80).extractLsb' 0 8) = some t2 →
    exec i s = .next ((t2.mapZ80 (set v)).endedZ80 i []))) ∧
  (ZRegisterCompletes .zLdAI (fun _ z => { z with a := z.i }.flagged (szFlags z.i false z.iff2 false z.flags.c)) (fun _ => []) ∧
  ZRegisterCompletes .zLdIA (fun _ z => { z with i := z.a }) (fun _ => []) ∧
  ZRegisterCompletes .zLdRfA (fun _ z => { z with r := z.a }) (fun _ => []) ∧
  (∀ s : State, s.readyZ80 → ∃ v : Byte, v.getLsbD 7 = s.z80.r.getLsbD 7 ∧
    exec .zLdARf s = .next (((s.pastZ80 .zLdARf).mapZ80 fun z =>
      { z with a := v, draws := z.draws + 1 }.flagged (szFlags v false z.iff2 false z.flags.c)).endedZ80 .zLdARf [])))

/-- The 16-bit loads complete (46 R538 to R543): the byte at the lower address is the low byte. PUSH and POP complete (46 R544,
R545): POP AF loads all eight bits of F. The cycles counted are the opaque parameter of log 10. -/
def Obligations.Z80PairLoadsAndStackComplete : Prop :=
  ((∀ p nn, ZRegisterCompletes (.zLdPairImm p nn) (fun _ z => z.setPair p nn) fun _ => []) ∧
  (∀ x nn, ZRegisterCompletes (.zLdXxImm x nn) (fun _ z => z.setIdx x nn) fun _ => []) ∧
  (∀ (i : Instr) (set : Word → Z80 → Z80) (s : State) (nn v : Word),
    (i = .zLdHlNn nn ∧ set = fun w z => z.setHl w) ∨ (∃ x, i = .zLdXxNn x nn ∧ set = fun w z => z.setIdx x w) ∨
      (∃ p, i = .zLdPairNn p nn ∧ set = fun w z => z.setPair p w) →
    s.readyZ80 → s.peek16 nn = some v → exec i s = .next (((s.pastZ80 i).mapZ80 (set v)).endedZ80 i [])) ∧
  (∀ (i : Instr) (s : State) (nn v : Word) (t : State),
    (i = .zLdNnHl nn ∧ v = s.z80.hl) ∨ (∃ x, i = .zLdNnXx x nn ∧ v = s.z80.idx x) ∨
      (∃ p, i = .zLdNnPair p nn ∧ v = s.z80.pair p) →
    s.readyZ80 → (s.pastZ80 i).poke16 nn v = some t → exec i s = .next (t.endedZ80 i [])) ∧
  ZRegisterCompletes .zLdSpHl (fun _ z => { z with sp := z.hl }) (fun _ => []) ∧
  (∀ x, ZRegisterCompletes (.zLdSpXx x) (fun _ z => { z with sp := z.idx x }) fun _ => [])) ∧
  ((∀ (s : State) (q : ZPairQ) (t : State), s.readyZ80 → (s.pastZ80 (.zPush q)).pushZ (s.z80.pairQ q) = some t →
    exec (.zPush q) s = .next (t.endedZ80 (.zPush q) [])) ∧
  (∀ (s : State) (x : Idx) (t : State), s.readyZ80 → (s.pastZ80 (.zPushXx x)).pushZ (s.z80.idx x) = some t →
    exec (.zPushXx x) s = .next (t.endedZ80 (.zPushXx x) [])) ∧
  (∀ (s : State) (q : ZPairQ) (v : Word) (t : State), s.readyZ80 → (s.pastZ80 (.zPop q)).popZ = some (v, t) →
    exec (.zPop q) s = .next ((t.mapZ80 fun z => z.setPairQ q v).endedZ80 (.zPop q) [])) ∧
  (∀ (s : State) (x : Idx) (v : Word) (t : State), s.readyZ80 → (s.pastZ80 (.zPopXx x)).popZ = some (v, t) →
    exec (.zPopXx x) s = .next ((t.mapZ80 fun z => z.setIdx x v).endedZ80 (.zPopXx x) [])))

/-- The block transfers complete, one iteration a step (46 R546 to R549): the byte at HL goes to DE, both step up or down, BC
falls, HF and NF are 0 and PF says whether BC is not 0; the repeating forms go back to their own address until it is 0. The
block searches complete, one iteration a step (46 R550 to R553): A is compared with the byte at HL, HL steps, BC falls, CF is
kept; the repeating forms go back to their own address until BC is 0 or the byte is found. YF and XF are free values (log 7).
The cycles counted are the opaque parameter of log 10. -/
def Obligations.Z80BlocksComplete : Prop :=
  (∀ (i : Instr) (down again : Bool) (s : State) (v : Byte) (t : State),
    (i, down, again) ∈ [(Instr.zLdi, false, false), (.zLdd, true, false), (.zLdir, false, true), (.zLddr, true, true)] →
    s.readyZ80 → s.peek s.z80.hl = some v → (s.pastZ80 i).poke s.z80.de v = some t →
    exec i s = .next ((t.mapZ80 fun z =>
      let more := decide (z.bc - 1#16 ≠ 0#16)
      let z' := (((z.setDe (blockStep down z.de)).setHl (blockStep down z.hl)).setBc (z.bc - 1#16)).flagged
        { z.flags with h := false, n := false, p := more }
      if again && more then { z' with pc := s.z80.pc } else z').endedZ80 i
      (if again then [(decide (s.z80.bc - 1#16 ≠ 0#16)).toNat] else []))) ∧
  (∀ (i : Instr) (down again : Bool) (s : State) (v : Byte),
    (i, down, again) ∈ [(Instr.zCpi, false, false), (.zCpd, true, false), (.zCpir, false, true), (.zCpdr, true, true)] →
    s.readyZ80 → s.peek s.z80.hl = some v →
    exec i s = .next (((s.pastZ80 i).mapZ80 fun z =>
      let more := decide (z.bc - 1#16 ≠ 0#16)
      let z' := ((z.setHl (blockStep down z.hl)).setBc (z.bc - 1#16)).flagged
        (szFlags (z.a - v) (decide (lowNibble z.a < lowNibble v)) more true z.flags.c)
      if again && (more && decide (z.a ≠ v)) then { z' with pc := s.z80.pc } else z').endedZ80 i
      (if again then [(decide (s.z80.bc - 1#16 ≠ 0#16) && decide (s.z80.a ≠ v)).toNat] else [])))

/-- ADD, ADC, SUB, SBC, AND, OR, XOR and CP complete in their register, (HL), number and (IX+d) forms (47 R570 to R578). INC and
DEC on bytes complete (47 R579, R580): CF is kept. YF and XF are free values (log 7). The cycles counted are the opaque
parameter of log 10. -/
def Obligations.Z80ByteArithmeticCompletes : Prop :=
  (AluCompletes .zAddR .zAddN .zAddXd (fun a v _ => add8 a v false) ∧
  AluCompletes .zAdcR .zAdcN .zAdcXd (fun a v c => add8 a v c) ∧
  AluCompletes .zSubR .zSubN .zSubXd (fun a v _ => sub8 a v false) ∧
  AluCompletes .zSbcR .zSbcN .zSbcXd (fun a v c => sub8 a v c) ∧
  AluCompletes .zAndR .zAndN .zAndXd (fun a v _ => (a &&& v, szFlags (a &&& v) true (parity (a &&& v)) false false)) ∧
  AluCompletes .zOrR .zOrN .zOrXd (fun a v _ => (a ||| v, szFlags (a ||| v) false (parity (a ||| v)) false false)) ∧
  AluCompletes .zXorR .zXorN .zXorXd (fun a v _ => (a ^^^ v, szFlags (a ^^^ v) false (parity (a ^^^ v)) false false)) ∧
  AluCompletes .zCpR .zCpN .zCpXd (fun a v _ => (a, (sub8 a v false).2))) ∧
  (ZOperandCompletes .zIncR .zIncXd (fun v _ => v + 1#8)
    (fun v z => z.flagged (szFlags (v + 1#8) (decide (lowNibble v = 15)) (decide (v = 0x7F#8)) false z.flags.c)) ∧
  ZOperandCompletes .zDecR .zDecXd (fun v _ => v - 1#8)
    (fun v z => z.flagged (szFlags (v - 1#8) (decide (lowNibble v = 0)) (decide (v = 0x80#8)) true z.flags.c)))

/-- CPL, NEG, CCF and SCF complete (47 R581 to R584). RLCA, RLA, RRCA, RRA, RLD and RRD complete (47 R591 to R594, R602, R603):
the accumulator rotates keep SF, ZF and PF; RLD and RRD rotate the nibbles of A and (HL) and keep CF. YF and XF are free values
(log 7). The cycles counted are the opaque parameter of log 10. -/
def Obligations.Z80AccumulatorComplete : Prop :=
  (ZRegisterCompletes .zCpl (fun _ z => { z with a := ~~~z.a }.flagged { z.flags with h := true, n := true }) (fun _ => []) ∧
  ZRegisterCompletes .zNeg (fun _ z => { z with a := 0#8 - z.a }.flagged (sub8 0#8 z.a false).2) (fun _ => []) ∧
  ZRegisterCompletes .zCcf (fun _ z => z.flagged { z.flags with h := z.flags.c, c := !z.flags.c, n := false }) (fun _ => []) ∧
  ZRegisterCompletes .zScf (fun _ z => z.flagged { z.flags with c := true, h := false, n := false }) (fun _ => [])) ∧
  (ZRegisterCompletes .zRlca (fun _ z => { z with a := z.a.rotateLeft 1 }.flagged
    { z.flags with c := z.a.msb, h := false, n := false }) (fun _ => []) ∧
  ZRegisterCompletes .zRla (fun _ z => { z with a := z.a.extractLsb' 0 7 ++ BitVec.ofBool z.flags.c }.flagged
    { z.flags with c := z.a.msb, h := false, n := false }) (fun _ => []) ∧
  ZRegisterCompletes .zRrca (fun _ z => { z with a := z.a.rotateRight 1 }.flagged
    { z.flags with c := z.a.getLsbD 0, h := false, n := false }) (fun _ => []) ∧
  ZRegisterCompletes .zRra (fun _ z => { z with a := BitVec.ofBool z.flags.c ++ z.a.extractLsb' 1 7 }.flagged
    { z.flags with c := z.a.getLsbD 0, h := false, n := false }) (fun _ => []) ∧
  ZUpdateCompletes .zRld Z80.hl (fun v z => v.extractLsb' 0 4 ++ z.a.extractLsb' 0 4) (fun v z =>
    let a : Byte := z.a.extractLsb' 4 4 ++ v.extractLsb' 4 4
    { z with a := a }.flagged (szFlags a false (parity a) false z.flags.c)) ∧
  ZUpdateCompletes .zRrd Z80.hl (fun v z => z.a.extractLsb' 0 4 ++ v.extractLsb' 4 4) (fun v z =>
    let a : Byte := z.a.extractLsb' 4 4 ++ v.extractLsb' 0 4
    { z with a := a }.flagged (szFlags a false (parity a) false z.flags.c)))

/-- The 16-bit additions, subtractions and counts complete (47 R585 to R590): ADD keeps SF, ZF and PF; INC and DEC change no
flag. YF and XF are free values (log 7). The cycles counted are the opaque parameter of log 10. -/
def Obligations.Z80PairArithmeticCompletes : Prop :=
  (∀ p, ZRegisterCompletes (.zAddHl p) (fun _ z => (z.setHl (z.hl + z.pair p)).flagged (add16 z.hl (z.pair p) z.flags).2)
    fun _ => []) ∧
  (∀ x p, ZRegisterCompletes (.zAddXx x p)
    (fun _ z => (z.setIdx x (z.idx x + z.pairX x p)).flagged (add16 (z.idx x) (z.pairX x p) z.flags).2) fun _ => []) ∧
  (∀ p, ZRegisterCompletes (.zAdcHl p)
    (fun _ z => (z.setHl (z.hl + z.pair p + bitOf 16 z.flags.c)).flagged (adc16 z.hl (z.pair p) z.flags.c).2) fun _ => []) ∧
  (∀ p, ZRegisterCompletes (.zSbcHl p)
    (fun _ z => (z.setHl (z.hl - z.pair p - bitOf 16 z.flags.c)).flagged (sbc16 z.hl (z.pair p) z.flags.c).2) fun _ => []) ∧
  (∀ p, ZRegisterCompletes (.zIncPair p) (fun _ z => z.setPair p (z.pair p + 1#16)) fun _ => []) ∧
  (∀ p, ZRegisterCompletes (.zDecPair p) (fun _ z => z.setPair p (z.pair p - 1#16)) fun _ => []) ∧
  (∀ x, ZRegisterCompletes (.zIncXx x) (fun _ z => z.setIdx x (z.idx x + 1#16)) fun _ => []) ∧
  (∀ x, ZRegisterCompletes (.zDecXx x) (fun _ z => z.setIdx x (z.idx x - 1#16)) fun _ => [])

/-- The rotates and shifts of the CB and DDCB pages complete (47 R595 to R601): CF takes the bit shifted out, PF is parity, HF
and NF are 0. YF and XF are free values (log 7). The cycles counted are the opaque parameter of log 10. -/
def Obligations.Z80RotatesComplete : Prop :=
  RotCompletes .zRlc .zRlcXd (fun v _ => v.rotateLeft 1) BitVec.msb ∧
  RotCompletes .zRl .zRlXd (fun v c => v.extractLsb' 0 7 ++ BitVec.ofBool c) BitVec.msb ∧
  RotCompletes .zRrc .zRrcXd (fun v _ => v.rotateRight 1) (fun v => v.getLsbD 0) ∧
  RotCompletes .zRr .zRrXd (fun v c => BitVec.ofBool c ++ v.extractLsb' 1 7) (fun v => v.getLsbD 0) ∧
  RotCompletes .zSla .zSlaXd (fun v _ => v <<< 1) BitVec.msb ∧
  RotCompletes .zSra .zSraXd (fun v _ => v.sshiftRight 1) (fun v => v.getLsbD 0) ∧
  RotCompletes .zSrl .zSrlXd (fun v _ => v >>> 1) (fun v => v.getLsbD 0)

/-- SET, RES and BIT complete (47 R604 to R606): SET and RES change no flag; BIT sets ZF from the bit, HF 1, NF 0, keeps CF, and
leaves SF and PF free. SF and PF are the model's draws (log 7); YF and XF are free values (log 7). The cycles counted are the
opaque parameter of log 10. -/
def Obligations.Z80BitInstructionsComplete : Prop :=
  (∀ b, ZOperandCompletes (.zSet b) (fun x d => .zSetXd x d b) (fun v _ => v ||| BitVec.twoPow 8 b.toNat) fun _ z => z) ∧
  (∀ b, ZOperandCompletes (.zRes b) (fun x d => .zResXd x d b) (fun v _ => v &&& ~~~BitVec.twoPow 8 b.toNat) fun _ z => z) ∧
  (∀ (s : State) (b : BitVec 3) (o : ZOp8) (v : Byte), s.readyZ80 → s.peekOp8 o = some v → ∃ fs fp,
    exec (.zBit b o) s = .next (((s.pastZ80 (.zBit b o)).mapZ80 fun z => { z with draws := z.draws + 1 }.flagged
      { s := fs, z := !v.getLsbD b.toNat, h := true, p := fp, n := false, c := z.flags.c }).endedZ80 (.zBit b o) [])) ∧
  (∀ (s : State) (x : Idx) (d : Byte) (b : BitVec 3) (v : Byte), s.readyZ80 → s.peek (atXd x d s.z80) = some v → ∃ fs fp,
    exec (.zBitXd x d b) s = .next (((s.pastZ80 (.zBitXd x d b)).mapZ80 fun z =>
      { keepD d z with draws := z.draws + 1 }.flagged
      { s := fs, z := !v.getLsbD b.toNat, h := true, p := fp, n := false, c := z.flags.c }).endedZ80 (.zBitXd x d b) []))

/-- The jumps complete (48 R630 to R636): a relative target is the instruction's address plus 2 plus the displacement. The
cycles counted are the opaque parameter of log 10. -/
def Obligations.Z80JumpsComplete : Prop :=
  (∀ nn, ZRegisterCompletes (.zJp nn) (fun _ z => { z with pc := nn }) fun _ => []) ∧
  (∀ cnd nn, ZRegisterCompletes (.zJpCc cnd nn) (fun _ z => if z.flags.holds cnd then { z with pc := nn } else z)
    fun _ => []) ∧
  (∀ e, ZRegisterCompletes (.zJr e) (fun ipc z => { z with pc := ipc + 2#16 + e.signExtend 16 }) fun _ => []) ∧
  (∀ cnd e, ZRegisterCompletes (.zJrCc cnd e)
    (fun ipc z => if z.flags.holds (jrCond cnd) then { z with pc := ipc + 2#16 + e.signExtend 16 } else z)
    fun z => [(z.flags.holds (jrCond cnd)).toNat]) ∧
  ZRegisterCompletes .zJpHl (fun _ z => { z with pc := z.hl }) (fun _ => []) ∧
  (∀ x, ZRegisterCompletes (.zJpXx x) (fun _ z => { z with pc := z.idx x }) fun _ => []) ∧
  (∀ e, ZRegisterCompletes (.zDjnz e)
    (fun ipc z =>
      if z.b = 1#8 then { z with b := 0#8 } else { z with b := z.b - 1#8, pc := ipc + 2#16 + e.signExtend 16 })
    fun z => [if z.b = 1#8 then 0 else 1])

/-- CALL, RST, RET, RETI and RETN complete (48 R637 to R643): CALL and RST push the address of the next instruction, RETI and
RETN copy IFF2 to IFF1, RETI is reported to OWNER. The cycles counted are the opaque parameter of log 10. -/
def Obligations.Z80CallsComplete : Prop :=
  (∀ (i : Instr) (target : Word) (data : List Nat) (s t : State),
    (i = .zCall target ∧ data = []) ∨ (∃ cnd, i = .zCallCc cnd target ∧ s.z80.flags.holds cnd = true ∧ data = [1]) ∨
      (∃ k, i = .zRst k ∧ target = BitVec.ofNat 16 (8 * k.toNat) ∧ data = []) →
    s.readyZ80 → (s.pastZ80 i).pushZ (s.pastZ80 i).z80.pc = some t →
    exec i s = .next ((t.mapZ80 fun z => { z with pc := target }).endedZ80 i data)) ∧
  (∀ (cnd : ZCond) (nn : Word) (s : State), s.readyZ80 → s.z80.flags.holds cnd = false →
    exec (.zCallCc cnd nn) s = .next ((s.pastZ80 (.zCallCc cnd nn)).endedZ80 (.zCallCc cnd nn) [0])) ∧
  (∀ (cnd : ZCond) (s : State), s.readyZ80 → s.z80.flags.holds cnd = false →
    exec (.zRetCc cnd) s = .next ((s.pastZ80 (.zRetCc cnd)).endedZ80 (.zRetCc cnd) [0])) ∧
  (∀ (i : Instr) (data : List Nat) (s : State) (v : Word) (t : State),
    (i = .zRet ∧ data = []) ∨ (∃ cnd, i = .zRetCc cnd ∧ s.z80.flags.holds cnd = true ∧ data = [1]) →
    s.readyZ80 → (s.pastZ80 i).popZ = some (v, t) →
    exec i s = .next ((t.mapZ80 fun z => { z with pc := v }).endedZ80 i data)) ∧
  (∀ (s : State) (v : Word) (t : State), s.readyZ80 → (s.pastZ80 .zRetn).popZ = some (v, t) →
    exec .zRetn s = .next ((t.mapZ80 fun z => { z with pc := v, iff1 := z.iff2 }).endedZ80 .zRetn [])) ∧
  (∀ (s : State) (v : Word) (t : State), s.readyZ80 → (s.pastZ80 .zReti).popZ = some (v, t) →
    exec .zReti s = .next (((t.mapZ80 fun z => { z with pc := v, iff1 := z.iff2 }).record .reti).endedZ80 .zReti []))

/-- IN and OUT issue one port transaction, and complete with its answer (48 R644, R645, R650, R651, 20 R123, R151, R153): the
port address is A or B above the number or C. Where the map lets Z80 reach its ports itself they complete at once, with the
oracle's byte or an event (20 R130, R131), and so do the block forms. The block port instructions issue their port transaction,
at B and C with B before it falls for the inputs, after it falls and with the byte at HL for the outputs, whether Z80 reads that
byte itself or has waited for it; and they complete with the answer, one iteration a step (48 R646 to R655): B falls, HL steps,
ZF says whether B is 0, NF is 1, SF HF PF CF are free; the repeating forms go back to their own address until B is 0. How a
waiting instruction is held, as the registers it began with and its answers, is the model's choice (log 4), and so are the draws
for the free flags (log 7). The cycles counted are the opaque parameter of log 10. -/
def Obligations.Z80PortsComplete : Prop :=
  ((∀ (s : State) (n : Byte) (z : Z80) (v : Long), s.heldZ80 (.zInAN n) z v →
    exec (.zInAN n) s = .next ((((s.backZ80 z).pastZ80 (.zInAN n)).mapZ80 fun z =>
      { z with a := v.setWidth 8 }).endedZ80 (.zInAN n) [])) ∧
  (∀ (s : State) (r : ZReg) (z : Z80) (v : Long), s.heldZ80 (.zInRC r) z v →
    exec (.zInRC r) s = .next ((((s.backZ80 z).pastZ80 (.zInRC r)).mapZ80 fun z => (z.setReg r (v.setWidth 8)).flagged
      (szFlags (v.setWidth 8) false (parity (v.setWidth 8)) false z.flags.c)).endedZ80 (.zInRC r) [])) ∧
  (∀ (s : State) (n : Byte) (z : Z80) (v : Long), s.heldZ80 (.zOutNA n) z v →
    exec (.zOutNA n) s = .next (((s.backZ80 z).pastZ80 (.zOutNA n)).endedZ80 (.zOutNA n) [])) ∧
  (∀ (s : State) (r : ZReg) (z : Z80) (v : Long), s.heldZ80 (.zOutCR r) z v →
    exec (.zOutCR r) s = .next (((s.backZ80 z).pastZ80 (.zOutCR r)).endedZ80 (.zOutCR r) [])) ∧
  (∀ (s : State) (i : Instr) (k : Access) (port : Word) (v : Byte), s.readyZ80 → s.bus.mbZ80.op = .none →
    s.launch.map.ownPorts = false →
    ((∃ n, i = .zInAN n ∧ k = .portRead ∧ port = s.z80.a ++ n ∧ v = 0) ∨
      (∃ r, i = .zInRC r ∧ k = .portRead ∧ port = s.z80.bc ∧ v = 0) ∨
      (∃ n, i = .zOutNA n ∧ k = .portWrite ∧ port = s.z80.a ++ n ∧ v = s.z80.a) ∨
      (∃ r, i = .zOutCR r ∧ k = .portWrite ∧ port = s.z80.bc ∧ v = s.z80.reg r)) →
    exec i s = .next { (s.pastZ80 i).mapBus fun b => { b with mbZ80 := b.mbZ80.issue k port .b (v.setWidth 32) } with
      waitZ80 := some { act := .exec i, snap := s.z80, log := [] } }) ∧
  (∀ s : State, s.readyZ80 → s.launch.map.ownPorts = true →
    (∀ n, ∃ w : Byte, exec (.zInAN n) s = .next (((s.pastZ80 (.zInAN n)).drawn.mapZ80 fun z =>
      { z with a := w }).endedZ80 (.zInAN n) [])) ∧
    (∀ r, ∃ w : Byte, exec (.zInRC r) s = .next (((s.pastZ80 (.zInRC r)).drawn.mapZ80 fun z => (z.setReg r w).flagged
      (szFlags w false (parity w) false z.flags.c)).endedZ80 (.zInRC r) [])) ∧
    (∀ n, exec (.zOutNA n) s = .next (((s.pastZ80 (.zOutNA n)).record
      (.portWrite (s.z80.a ++ n) s.z80.a)).endedZ80 (.zOutNA n) [])) ∧
    (∀ r, exec (.zOutCR r) s = .next (((s.pastZ80 (.zOutCR r)).record
      (.portWrite s.z80.bc (s.z80.reg r))).endedZ80 (.zOutCR r) [])))) ∧
  ((∀ (i : Instr) (down again : Bool) (s : State) (z : Z80) (v : Long) (t : State),
    (i, down, again) ∈ [(Instr.zIni, false, false), (.zInd, true, false), (.zInir, false, true), (.zIndr, true, true)] →
    s.heldZ80 i z v → ((s.backZ80 z).pastZ80 i).poke z.hl (v.setWidth 8) = some t → ∃ fs fh fp fc,
    exec i s = .next ((t.mapZ80 (portStepped down again z.pc fs fh fp fc)).endedZ80 i
      (if again then [(decide (z.b - 1#8 ≠ 0#8)).toNat] else []))) ∧
  (∀ (i : Instr) (down again : Bool) (s : State) (z : Z80) (v : Long) (w : Byte),
    (i, down, again) ∈ [(Instr.zOuti, false, false), (.zOutd, true, false), (.zOtir, false, true), (.zOtdr, true, true)] →
    s.waitZ80 = some { act := .exec i, snap := z, log := [w.setWidth 32, v] } → ∃ fs fh fp fc,
    exec i s = .next ((((s.backZ80 z).pastZ80 i).mapZ80 (portStepped down again z.pc fs fh fp fc)).endedZ80 i
      (if again then [(decide (z.b - 1#8 ≠ 0#8)).toNat] else []))) ∧
  (∀ (i : Instr) (s : State), i ∈ [Instr.zIni, .zInd, .zInir, .zIndr] → s.readyZ80 → s.bus.mbZ80.op = .none →
    s.launch.map.ownPorts = false →
    exec i s = .next { (s.pastZ80 i).mapBus fun b => { b with mbZ80 := b.mbZ80.issue .portRead s.z80.bc .b 0 } with
      waitZ80 := some { act := .exec i, snap := s.z80, log := [] } }) ∧
  (∀ (i : Instr) (s : State) (v : Byte), i ∈ [Instr.zOuti, .zOutd, .zOtir, .zOtdr] → s.readyZ80 → s.bus.mbZ80.op = .none →
    s.launch.map.ownPorts = false → s.peek s.z80.hl = some v →
    exec i s = .next { ((s.pastZ80 i).mapZ80 fun z => { z with b := z.b - 1#8 }).mapBus fun b =>
        { b with mbZ80 := b.mbZ80.issue .portWrite ((s.z80.b - 1#8) ++ s.z80.c) .b (v.setWidth 32) } with
      waitZ80 := some { act := .exec i, snap := s.z80, log := [v.setWidth 32] } }) ∧
  (∀ (i : Instr) (s : State) (z : Z80) (v : Long), i ∈ [Instr.zOuti, .zOutd, .zOtir, .zOtdr] → s.heldZ80 i z v → s.bus.mbZ80.op = .none →
    s.launch.map.ownPorts = false →
    exec i s = .next { (((s.backZ80 z).pastZ80 i).mapZ80 fun z => { z with b := z.b - 1#8 }).mapBus fun b =>
        { b with mbZ80 := b.mbZ80.issue .portWrite ((z.b - 1#8) ++ z.c) .b ((v.setWidth 8).setWidth 32) } with
      waitZ80 := some { act := .exec i, snap := z, log := [v] } }) ∧
  (∀ (i : Instr) (down again : Bool) (s : State),
    (i, down, again) ∈ [(Instr.zIni, false, false), (.zInd, true, false), (.zInir, false, true), (.zIndr, true, true)] →
    s.readyZ80 → s.launch.map.ownPorts = true → ∃ w : Byte, ∀ t, (s.pastZ80 i).drawn.poke s.z80.hl w = some t →
    ∃ fs fh fp fc, exec i s = .next ((t.mapZ80 (portStepped down again s.z80.pc fs fh fp fc)).endedZ80 i
      (if again then [(decide (s.z80.b - 1#8 ≠ 0#8)).toNat] else []))) ∧
  (∀ (i : Instr) (down again : Bool) (s : State) (v : Byte),
    (i, down, again) ∈ [(Instr.zOuti, false, false), (.zOutd, true, false), (.zOtir, false, true), (.zOtdr, true, true)] →
    s.readyZ80 → s.launch.map.ownPorts = true → s.peek s.z80.hl = some v →
    ∃ fs fh fp fc, exec i s = .next ((((s.pastZ80 i).record (.portWrite ((s.z80.b - 1#8) ++ s.z80.c) v)).mapZ80
      (portStepped down again s.z80.pc fs fh fp fc)).endedZ80 i
      (if again then [(decide (s.z80.b - 1#8 ≠ 0#8)).toNat] else []))))

/-- NOP, HALT, DI, EI and IM 0, 1, 2 complete (48 R656 to R662): EI sets both interrupt flags and defers acceptance by one
instruction. The cycles counted are the opaque parameter of log 10. -/
def Obligations.Z80ControlCompletes : Prop :=
  ZRegisterCompletes .zNop (fun _ z => z) (fun _ => []) ∧
  ZRegisterCompletes .zHalt (fun _ z => { z with halted := true }) (fun _ => []) ∧
  ZRegisterCompletes .zDi (fun _ z => { z with iff1 := false, iff2 := false }) (fun _ => []) ∧
  ZRegisterCompletes .zEi (fun _ z => { z with iff1 := true, iff2 := true, cooldown := true }) (fun _ => []) ∧
  ZRegisterCompletes .zIm0 (fun _ z => { z with im := .im0 }) (fun _ => []) ∧
  ZRegisterCompletes .zIm1 (fun _ z => { z with im := .im1 }) (fun _ => []) ∧
  ZRegisterCompletes .zIm2 (fun _ z => { z with im := .im2 }) (fun _ => [])

/-- The instructions the spec refuses are refused by name, whatever the state (30 R196, R226 to R228, R231, R236). An index
extension word with bits 10:8 not 0 is the refusal IndexExtension (30 R188, 40 R268); a store into one of the four bytes after
the storing instruction is the refusal SelfModifyPrefetch, wherever those bytes stand (20 R143); a level above 7 for M68K is
OWNER's fault BadIntLevel, and any other is written to the slot (20 R159); and an operand without an address, where the resolver
is asked for one, is the fault UnknownEAMode (40 R279). The constructors of unmatched prefix sequences are the model's (log 9),
and so are which addresses count as the words after an instruction (log 12), the mark (log 14) and where an operand has no
address (log 16). -/
def Obligations.RefusedInstructions : Prop :=
  (∀ s : State,
    (∀ m y x, exec (.abcd m y x) s = .refused .unimplementedBcd) ∧
    (∀ m y x, exec (.sbcd m y x) s = .refused .unimplementedBcd) ∧
    (∀ ea, exec (.nbcd ea) s = .refused .unimplementedBcd) ∧
    exec .zDaa s = .refused .unimplementedBcd ∧
    (∀ op, exec (.zCbPrefix op) s = .refused .undocumentedZ80) ∧
    (∀ op, exec (.zEdPrefix op) s = .refused .undocumentedZ80) ∧
    (∀ x d op, exec (.zDdcbPrefix x d op) s = .refused .undocumentedZ80) ∧
    (∀ op, op ∈ [0xDD#8, 0xFD#8, 0xED#8] → exec (.zDdPrefix op) s = .refused .prefixChain ∧
      exec (.zFdPrefix op) s = .refused .prefixChain) ∧
    (∀ op, op ∉ [0xDD#8, 0xFD#8, 0xED#8] → exec (.zDdPrefix op) s = .refused .undocumentedZ80 ∧
      exec (.zFdPrefix op) s = .refused .undocumentedZ80)) ∧
  (∀ (c : Ctx) (sz : Size) (x : Word), x.extractLsb' 8 3 ≠ 0#3 →
    (∀ n, resolve sz (.index n x) c = .error (.refused .indexExtension) c) ∧
    resolve sz (.pcIndex x) c = .error (.refused .indexExtension) c) ∧
  (∀ (s : State) (sz : Size) (n : Reg) (x : Word), s.ready68k → x.extractLsb' 8 3 ≠ 0#3 →
    exec (.tst sz (.index n x)) s = .refused .indexExtension) ∧
  (∀ (c : Ctx) (sz : Size) (a : Long) (v : BitVec sz.bits), c.todo = [] → c.irq = false →
    oddAccess (a.setWidth 24) sz = false → route68k c.st.launch (a.setWidth 24) sz ≠ .nowhere →
    (∃ j < sz.bytes, ∃ k < 4, a.setWidth 24 + BitVec.ofNat 24 j = c.st.m68k.pc.setWidth 24 + BitVec.ofNat 24 k) →
    store68k sz a v c = .error (.refused .selfModifyPrefetch) c ∧
    (sz = .b → tas68k a c = .error (.refused .selfModifyPrefetch) c)) ∧
  (∀ (s : State) (level : Nat),
    (7 < level → postInt68k level s = .next (s.markFault .owner (.fault .badIntLevel))) ∧
    (level ≤ 7 → postInt68k level s = .next (s.mapBus fun b => { b with mb68k := { b.mb68k with intLevel := level } })) ∧
    postIntZ80 level s = .next (s.mapBus fun b => { b with mbZ80 := { b.mbZ80 with intLevel := level } })) ∧
  (∀ (c : Ctx) (sz : Size) (ea : Ea) (loc : Loc) (m : M68k), c.st.m68k.resolve sz ea = some (loc, m) →
    (∀ a, loc ≠ .mem a) → ∃ d, resolveAddress sz ea c = .error (.fault .unknownEaMode) d)

/-- A step of a processor at a boundary, with nothing else to do there, fetches the words or bytes at its PC and is `exec` of
what they decode to, a failure of which sets the processor's mark (60 R711, 48 R670, 30 R226). What a turn of a processor with a
mark answers, and how a mark is set, are the model's choice (log 14). -/
def Obligations.StepRunsDecodedInstruction : Prop :=
  (∀ (s t : State) (ws : List Word), s.nextTurn = (.m68k, t) → t.dead .m68k = none → t.ready68k → t.m68k.run = .running →
    t.bus.mb68k.intLevel ≤ t.m68k.mask.toNat → t.m68k.trace = false → t.m68k.pc.getLsbD 0 = false →
    ws.length = t.fetched68k (wordAt ws 0) →
    (∀ k < ws.length, t.loadAt .w (t.m68k.pc + BitVec.ofNat 32 (2 * k)) = some (wordAt ws k, t)) →
    step s = settle68k t (exec (decode68k ws).1 t)) ∧
  (∀ (s t : State) (bs : List Byte), s.nextTurn = (.z80, t) → t.dead .z80 = none → t.readyZ80 →
    t.bus.z80ResetHeld = false → t.bus.z80ResetPulse = false → t.bus.busReq = false →
    (t.z80.iff1 = false ∨ t.z80.cooldown = true ∨ t.bus.mbZ80.intLevel = 0) → t.z80.halted = false →
    bs.length = bytesZ80 bs → (∀ k < bs.length, 0 < k → k < bytesZ80 (bs.take k)) →
    (∀ k < bs.length, t.peek (t.z80.pc + BitVec.ofNat 16 k) = some (byteAt bs k)) →
    step s = settleZ80 t.fetchesZ80 (exec (decodeZ80 bs).1 t.fetchesZ80))

/-- Decoding the words of a well-formed M68K instruction gives it back with every operand, and leaves what follows them (30 R180
to R194). Words with no row are instructions of their own, as the policy needs. -/
def Obligations.M68kDecodeEncode : Prop :=
  ∀ (i : Instr) (ws : List Word), i.is68k = true → i.wf = true → decode68k (encode68k i ++ ws) = (i, ws)

/-- Decoding the bytes of a well-formed Z80 instruction gives it back with every operand, and leaves what follows them (30 R220
to R236). Unmatched prefix sequences are instructions of their own (log 9). -/
def Obligations.Z80DecodeEncode : Prop :=
  ∀ (i : Instr) (bs : List Byte), i.is68k = false → i.wf = true → decodeZ80 (encodeZ80 i ++ bs) = (i, bs)

/-- Words written out from the encodings of the spec decode to the instructions they stand for, one or more of every family. -/
def Obligations.WrittenWordsDecode : Prop :=
  decode68k [0b0011_010_000_011_001#16] = (.moveW (.post 1) (.dn 2), []) ∧
  decode68k [0b0111_011_0_11111111#16] = (.moveq 3 0xFF, []) ∧
  decode68k [0b1101_001_1_10_000_010#16] = (.addx .l false 2 1, []) ∧
  decode68k [0b00000110_01_000_101#16, 0x1234] = (.addi .w 0x1234 (.dn 5), []) ∧
  decode68k [0b1000_111_011_000_001#16] = (.divu (.dn 1) 7, []) ∧
  decode68k [0b1100_010_1_01_010_011#16] = (.andToEa .w 2 (.ind 3), []) ∧
  decode68k [0b1110_000_1_10_0_00_100#16] = (.aslReg .l (.quick 0) 4, []) ∧
  decode68k [0b0000_101_1_11_010_001#16] = (.bsetReg 5 (.ind 1), []) ∧
  decode68k [0b0110_0111_00001000#16] = (.bcc .eq (.short 8), []) ∧
  decode68k [0b010011100100_0101#16] = (.trap 5, []) ∧
  decode68k [0b0100111001110010#16, 0x2000] = (.stop 0x2000, []) ∧
  decodeZ80 [0b01_010_111#8] = (.zLdRR .d .a, []) ∧
  decodeZ80 [0b00_10_0001#8, 0x34, 0x12] = (.zLdPairImm .hl 0x1234, []) ∧
  decodeZ80 [0b10000_110#8] = (.zAddR .hl, []) ∧
  decodeZ80 [0xCB, 0b01_101_110#8] = (.zBit 5 .hl, []) ∧
  decodeZ80 [0xED, 0b10110000#8] = (.zLdir, []) ∧
  decodeZ80 [0xED, 0b01_001_000#8] = (.zInRC .c, []) ∧
  decodeZ80 [0xFD, 0b01_000_110#8, 0x80] = (.zLdRXd .iy .b 0x80, []) ∧
  decodeZ80 [0xDD, 0xCB, 0x7F, 0b11_000_110#8] = (.zSetXd .ix 0x7F 0, []) ∧
  decodeZ80 [0b11_111_111#8] = (.zRst 7, [])

/-- The invariant of the block holds after power-on, whatever canonical image and launch it starts from, and so at reset (10 R90
to R92). The launch and the empty image of `State.reset` are the model's choice (log 3 and 6). -/
def Obligations.InvariantAtPowerOn : Prop :=
  (∀ (launch : Launch) (image : Memory) (schedule : List Turn), image.wf → (State.powerOn launch image schedule).Inv) ∧
  State.reset.Inv

/-- Every step of every agent keeps the invariant of the block, from every state that has it: memory stays canonical, IFF1 =
IFF2, the M68K level stays at most 7, a pending transaction has a waiting processor, and a processor waits in an instruction of
its own. -/
def Obligations.StepKeepsInvariant : Prop := ∀ s t : State, s.Inv → step s = .next t → t.Inv

/-- A processor never issues a second transaction while one is pending: no step sets the mark ProtocolSecondAccess, and none
reports it unless a mark was set before (20 R154). The spec itself derives this, from the issue and the resume of a transaction.
That an agent with a mark answers it is the model's choice (log 14). -/
def Obligations.NoSecondTransaction : Prop :=
  ∀ s : State, s.Inv →
    (∀ t ag, step s = .next t → (ag, FaultReason.fault .protocolSecondAccess) ∈ t.faultedMarks →
      (ag, FaultReason.fault .protocolSecondAccess) ∈ s.faultedMarks) ∧
    (step s = .fault .protocolSecondAccess → ∃ ag, (ag, FaultReason.fault .protocolSecondAccess) ∈ s.faultedMarks)

/-- The register frame of every M68K instruction, whenever it answers a next state, a waiting one too: a data or address
register that is no destination, no pointer that an addressing mode moves and no stack pointer in use is unchanged; OSP changes
only where S may. -/
def Obligations.M68kRegisterFrame : Prop :=
  ∀ (i : Instr) (s t : State) (r : Reg), i.is68k = true → exec i s = .next t →
    (i.writesD r = false → t.m68k.dreg r = s.start68k.st.m68k.dreg r) ∧
    (i.writesA r = false → t.m68k.areg r = s.start68k.st.m68k.areg r) ∧
    (i.mayTrap = false → i.writesSr = false → t.m68k.osp = s.start68k.st.m68k.osp)

/-- The status frame of every M68K instruction: a flag its rule does not name is unchanged; S, T and the run state change only
by an exception or a write of SR; the mask changes only by a write of SR. -/
def Obligations.M68kStatusFrame : Prop :=
  ∀ (i : Instr) (s t : State), i.is68k = true → exec i s = .next t →
    (∀ f, f ∉ i.flags68k → t.m68k.sr.flag f = s.start68k.st.m68k.sr.flag f) ∧
    (i.mayTrap = false → i.writesSr = false →
      t.m68k.sr.s = s.start68k.st.m68k.sr.s ∧ t.m68k.sr.t = s.start68k.st.m68k.sr.t ∧ t.m68k.run = s.start68k.st.m68k.run) ∧
    (i.writesSr = false → t.m68k.sr.i = s.start68k.st.m68k.sr.i)

/-- The memory frame of every M68K instruction: every byte of memory outside the bytes it stores to, at the addresses its
meaning computes, reads as before. Which places M68K writes itself is the map of log 8. -/
def Obligations.M68kMemoryFrame : Prop :=
  ∀ (i : Instr) (s t : State) (k : Nat), i.is68k = true → s.mem.wf → exec i s = .next t →
    (∀ r ∈ i.stores68k s.start68k.st.m68k, coveredBy68k s.launch k r = false) → t.mem.read k = s.mem.read k

/-- The register frame of every Z80 instruction, whenever it answers a next state: every register, flag and flip-flop that its
rule does not name is unchanged. -/
def Obligations.Z80RegisterFrame : Prop :=
  ∀ (i : Instr) (s t : State), i.is68k = false → exec i s = .next t →
    (∀ r, i.writesZ r = false → t.z80.reg r = s.startZ80.st.z80.reg r) ∧
    (∀ f, f ∉ i.flagsZ80 → t.z80.f.flag f = s.startZ80.st.z80.f.flag f) ∧
    (i.flagsZ80 = [] → t.z80.f = s.startZ80.st.z80.f) ∧
    (i ≠ .zExAf → t.z80.a' = s.startZ80.st.z80.a' ∧ t.z80.f' = s.startZ80.st.z80.f') ∧
    (i ≠ .zExx → t.z80.b' = s.startZ80.st.z80.b' ∧ t.z80.c' = s.startZ80.st.z80.c' ∧ t.z80.d' = s.startZ80.st.z80.d' ∧
      t.z80.e' = s.startZ80.st.z80.e' ∧ t.z80.h' = s.startZ80.st.z80.h' ∧ t.z80.l' = s.startZ80.st.z80.l') ∧
    (∀ x, i.writesIdx x = false → t.z80.idx x = s.startZ80.st.z80.idx x) ∧
    (i.writesSp = false → t.z80.sp = s.startZ80.st.z80.sp) ∧
    (i ≠ .zLdIA → t.z80.i = s.startZ80.st.z80.i) ∧
    (i ≠ .zLdRfA → t.z80.r = s.startZ80.st.z80.r) ∧
    (i ∉ [Instr.zDi, .zEi, .zReti, .zRetn] → t.z80.iff1 = s.startZ80.st.z80.iff1) ∧
    (i ∉ [Instr.zDi, .zEi] → t.z80.iff2 = s.startZ80.st.z80.iff2) ∧
    (i ∉ [Instr.zIm0, .zIm1, .zIm2] → t.z80.im = s.startZ80.st.z80.im) ∧
    (i ≠ .zEi → t.z80.cooldown = s.startZ80.st.z80.cooldown) ∧
    (i ≠ .zHalt → t.z80.halted = s.startZ80.st.z80.halted) ∧
    t.z80.run = s.startZ80.st.z80.run

/-- The memory frame of every Z80 instruction: every byte of memory outside the bytes it stores to, at the addresses its meaning
computes, reads as before. Which places Z80 writes itself is the map of log 8. -/
def Obligations.Z80MemoryFrame : Prop :=
  ∀ (i : Instr) (s t : State) (k : Nat), i.is68k = false → s.mem.wf → exec i s = .next t →
    (∀ a ∈ i.storesZ80 s.startZ80.st.z80, writtenKeyZ80 s a ≠ some k) → t.mem.read k = s.mem.read k

/-- A processor's registers change only in its own steps (20 R145). An instruction changes nothing of the other processor and of
its mailbox, of the bus-request, reset and bank state, of the interrupt slots, the launch parameters and the schedule, and no
mark but that of a crash. A turn of M68K changes nothing of Z80, of its mailbox, or of the bus-request, reset and bank state; a
turn of Z80 nothing of M68K, of its mailbox, of the request, the reset line or the bank register, though it may acknowledge the
request, end a reset pulse, clear its own slot and set its own mark. No turn of OWNER writes a register of either: it sets
mailboxes, the bus state, memory, recorded events and marks, with the run state of a Z80 whose access fails. Where the map lets
Z80 reach neither device, bank window nor port itself, its turns draw nothing from the oracle. Whose fault a served access is,
is the model's reading (log 11), and the marks and events are the model's (log 14); so is the schedule (log 2). -/
def Obligations.ProcessorsAreSeparate : Prop :=
  (∀ (i : Instr) (s t : State), exec i s = .next t →
    t.launch = s.launch ∧ t.refusedMarks = s.refusedMarks ∧ t.schedule = s.schedule ∧ t.turns = s.turns ∧
    t.fairDue = s.fairDue ∧ (∃ l, t.events = l ++ s.events) ∧
    t.bus.busReq = s.bus.busReq ∧ t.bus.busAck = s.bus.busAck ∧ t.bus.z80ResetHeld = s.bus.z80ResetHeld ∧
    t.bus.z80ResetPulse = s.bus.z80ResetPulse ∧ t.bus.bank = s.bus.bank ∧
    t.bus.mb68k.intLevel = s.bus.mb68k.intLevel ∧ t.bus.mbZ80.intLevel = s.bus.mbZ80.intLevel ∧
    (i.is68k = true → t.z80 = s.z80 ∧ t.waitZ80 = s.waitZ80 ∧ t.bus.mbZ80 = s.bus.mbZ80 ∧
      (t.faultedMarks = s.faultedMarks ∨
        (t.m68k.run = .halted .crashed ∧ t.faultedMarks = (.m68k, .halt .crashed) :: s.faultedMarks))) ∧
    (i.is68k = false → t.m68k = s.m68k ∧ t.wait68k = s.wait68k ∧ t.bus.mb68k = s.bus.mb68k ∧
      (s.launch.oracleIsOwners → t.bus.draws = s.bus.draws) ∧ t.faultedMarks = s.faultedMarks)) ∧
  (∀ s t : State, s.Inv → takeTurn .m68k s = .next t →
    t.z80 = s.z80 ∧ t.waitZ80 = s.waitZ80 ∧ t.bus.mbZ80 = s.bus.mbZ80 ∧ t.bus.busReq = s.bus.busReq ∧
    t.bus.busAck = s.bus.busAck ∧ t.bus.z80ResetHeld = s.bus.z80ResetHeld ∧ t.bus.z80ResetPulse = s.bus.z80ResetPulse ∧
    t.bus.bank = s.bus.bank ∧ t.launch = s.launch ∧ t.schedule = s.schedule ∧ t.turns = s.turns ∧ t.fairDue = s.fairDue ∧
    (∀ ag, ag ≠ .m68k → t.dead ag = s.dead ag)) ∧
  (∀ s t : State, s.Inv → takeTurn .z80 s = .next t →
    t.m68k = s.m68k ∧ t.wait68k = s.wait68k ∧ t.bus.mb68k = s.bus.mb68k ∧ t.bus.busReq = s.bus.busReq ∧
    t.bus.z80ResetHeld = s.bus.z80ResetHeld ∧ t.bus.bank = s.bus.bank ∧ (s.launch.oracleIsOwners → t.bus.draws = s.bus.draws) ∧
    t.launch = s.launch ∧ t.schedule = s.schedule ∧ t.turns = s.turns ∧ t.fairDue = s.fairDue ∧
    (∀ ag, ag ≠ .z80 → t.dead ag = s.dead ag)) ∧
  (∀ (n : Turn) (s t : State), n ≠ .m68k → n ≠ .z80 → takeTurn n s = .next t →
    t.m68k = s.m68k ∧ t.z80 = { s.z80 with run := t.z80.run } ∧ t.wait68k = s.wait68k ∧ t.waitZ80 = s.waitZ80 ∧
    t.launch = s.launch ∧ t.schedule = s.schedule ∧ t.turns = s.turns ∧ t.fairDue = s.fairDue)

/-- Supervisor mode is entered only by exception entry (60 R720, R721): where an instruction begins in user mode and M68K is in
supervisor mode after it, or while it waits, the step ended in exception entry (60 R704), run from a user-mode point that the
instruction had reached with its memory, its data registers and OSP as they were, and waiting in it or ended by it: the vector
is one of 60 R702 that an instruction raises, the stacked PC its own address for vectors 4, 8, 10 and 11 and the address it had
reached for the others, S is 1, T is 0, and mask and flags are those of that point. In supervisor mode only MOVE, ANDI and EORI
to SR, RTE and STOP can leave it (60 R721). How a waiting instruction is held is the model's choice (log 4). -/
def Obligations.ModeChanges : Prop :=
  ∀ (i : Instr) (s t : State), i.is68k = true → exec i s = .next t →
    (s.start68k.st.m68k.super = false → t.m68k.super = true →
      ∃ (v : Nat) (spc : Long) (c : Ctx),
        v ∈ i.vectors ∧ c.st.m68k.super = false ∧ c.st.mem = s.mem ∧ c.st.m68k.d = s.start68k.st.m68k.d ∧
        c.st.m68k.osp = s.start68k.st.m68k.osp ∧
        spc = (if v ∈ [4, 8, 10, 11] then s.start68k.st.m68k.pc else c.st.m68k.pc) ∧
        finish68k (.exec i) s (enterException v spc none c) = .next t ∧
        t.m68k.sr = { c.st.m68k.sr with s := true, t := false }) ∧
    (s.start68k.st.m68k.super = true → t.m68k.super = false →
      (∃ ea, i = .moveToSr ea) ∨ (∃ w, i = .andiToSr w) ∨ (∃ w, i = .eoriToSr w) ∨ (∃ w, i = .stop w) ∨ i = .rte)

/-- What a turn of M68K does at a boundary, in the order of 60 R718: idle when halted; take an interrupt whose level exceeds the
mask, a stopped M68K too; idle when stopped; the refusal Trace with T = 1; the halt OddPC at an odd PC (60 R709 to R713, R716).
That an interrupt's own stores are no storing instruction is the model's choice (log 12), and so are the marks (log 14). -/
def Obligations.M68kBoundary : Prop :=
  ∀ s : State, s.dead .m68k = none → s.ready68k →
    (∀ r, s.m68k.run = .halted r → turn68k s = .next s.idle68k) ∧
    (∀ t, (∀ r, s.m68k.run ≠ .halted r) → s.m68k.mask.toNat < s.bus.mb68k.intLevel →
      s.interruptAt s.bus.mb68k.intLevel = some t → turn68k s = .next t) ∧
    (s.bus.mb68k.intLevel ≤ s.m68k.mask.toNat →
      (s.m68k.run = .stopped → turn68k s = .next s.idle68k) ∧
      (s.m68k.run = .running → s.m68k.trace = true → turn68k s = .next (s.markRefused .m68k .trace)) ∧
      (s.m68k.run = .running → s.m68k.trace = false → s.m68k.pc.getLsbD 0 = true → turn68k s = .next (s.halt68k .oddPc)))

/-- What a turn of Z80 does at a boundary, in the order of 48 R670: its reset while held or pulsed; granting the bus; taking an
interrupt in mode 1, or the refusal InterruptMode in another; idle when halted (60 R740, R741, R751, R752, 70 R803). The marks
are the model's choice (log 14), and so are the registers a reset leaves unwritten, which are 0 (log 1). -/
def Obligations.Z80Boundary : Prop :=
  ∀ s : State, s.dead .z80 = none → s.readyZ80 →
    (s.bus.z80ResetHeld = true ∨ s.bus.z80ResetPulse = true →
      turnZ80 s = .next (({ s with z80 := Z80.reset s.z80.cyc s.z80.draws }.mapBus fun b =>
        { b with z80ResetPulse := false, busAck := b.busReq }).idleZ80)) ∧
    (s.bus.z80ResetHeld = false → s.bus.z80ResetPulse = false →
      (s.bus.busReq = true → turnZ80 s = .next (s.mapBus fun b => { b with busAck := true }).idleZ80) ∧
      (s.bus.busReq = false →
        (s.z80.iff1 = true → s.z80.cooldown = false → s.bus.mbZ80.intLevel ≠ 0 →
          (∀ t, s.z80.im = .im1 →
            ((s.mapBus fun b => { b with busAck := false, mbZ80 := { b.mbZ80 with intLevel := 0 } }).mapZ80 fun z =>
              { z with halted := false, iff1 := false, iff2 := false }).pushZ s.z80.pc = some t →
            turnZ80 s = .next (t.mapZ80 fun z => { z with pc := 0x0038#16 }.spend .intAcceptIM1)) ∧
          (s.z80.im ≠ .im1 → turnZ80 s = .next
            (((s.mapBus fun b => { b with busAck := false, mbZ80 := { b.mbZ80 with intLevel := 0 } }).mapZ80 fun z =>
              { z with run := .failed }).markRefused .z80 .interruptMode))) ∧
        (s.z80.iff1 = false ∨ s.z80.cooldown = true ∨ s.bus.mbZ80.intLevel = 0 → s.z80.halted = true →
          turnZ80 s = .next (s.mapBus fun b => { b with busAck := false }).idleZ80)))

/-- A halted M68K takes no interrupt and executes nothing: each of its turns adds the idle quantum to its counter and changes
nothing else, and no step of any agent ends the halt (60 R713). -/
def Obligations.HaltIsTerminal : Prop :=
  (∀ (s : State) (r : HaltReason), s.m68k.run = .halted r → s.dead .m68k = none → s.ready68k →
    turn68k s = .next (s.mapM68k fun m => { m with cyc := m.cyc + Config.idleQuantum68k })) ∧
  (∀ (s t : State) (r : HaltReason), s.Inv → s.m68k.run = .halted r → s.ready68k → step s = .next t →
    t.ready68k ∧ t.m68k = { s.m68k with cyc := t.m68k.cyc })

/-- Exception entry on a stack in WRAM of 6 bytes or more leaves the frame of 60 R704: S = 1, T = 0, mask and flags kept, the
stack pointers exchanged if S was 0, SP six lower, the old SR at SP, the stacked PC at SP + 2, the vector's long, where the
table is in ROM, in PC; and RTE right after it restores SR, PC and both stack pointers (60 R707). The cycles counted are the
opaque parameter of log 10. -/
def Obligations.ExceptionEntryAndReturn : Prop :=
  ∀ (s t : State) (v : Nat) (spc : Long), s.mem.wf → s.ready68k → s.enterAt v spc = some t →
    (∃ off, ∀ j < 6, place68k s.launch ((s.m68k.enterSuper.sp - 6#32).setWidth 24 + BitVec.ofNat 24 j) =
      some (.wram ((off + j) % s.launch.map.wramSize))) →
    6 ≤ s.launch.map.wramSize →
    t.m68k.sr = { s.m68k.sr with s := true, t := false } ∧
    t.m68k.osp = (if s.m68k.super then s.m68k.osp else s.m68k.sp) ∧
    t.m68k.sp = (if s.m68k.super then s.m68k.sp else s.m68k.osp) - 6#32 ∧
    t.m68k.run = .running ∧
    t.loadAt .w t.m68k.sp = some (s.m68k.getSr, t) ∧
    t.loadAt .l (t.m68k.sp + 2#32) = some (spc, t) ∧
    (∀ h, (∀ j < 4, ∃ off, place68k s.launch ((BitVec.ofNat 32 (v * 4)).setWidth 24 + BitVec.ofNat 24 j) = some (.rom off)) →
      s.loadAt .l (BitVec.ofNat 32 (v * 4)) = some (h, s) → t.m68k.pc = h) ∧
    ∃ u, exec .rte t = .next u ∧ u.m68k.sr = s.m68k.sr ∧ u.m68k.pc = spc ∧ u.m68k.sp = s.m68k.sp ∧ u.m68k.osp = s.m68k.osp

/-- A pending transaction leaves its processor no step; every access that a processor cannot make itself, but a store refused as
self-modifying, waits after its issue, with its address, its length and, for a write, its value in the mailbox; and the
instruction goes on with the answer at the resume (20 R127, R130, R151, R153). A port that the map lets Z80 reach itself is
answered at once by the oracle, or keeps an event (20 R130, R131). Shown whole on TST, MOVE from SR, LD r,(HL) and LD (HL),r.
How a waiting instruction is held, as the registers it began with and its answers, is the model's choice (log 4); it runs again
from them, past the accesses it has made. -/
def Obligations.TransactionsWaitAndResume : Prop :=
  (∀ (s : State) (w : Wait68k), s.dead .m68k = none → s.wait68k = some w → s.bus.mb68k.op ≠ .none → turn68k s = .next s) ∧
  (∀ (s : State) (w : WaitZ80), s.dead .z80 = none → s.waitZ80 = some w → s.bus.mbZ80.op ≠ .none → turnZ80 s = .next s) ∧
  (∀ (s : State) (w : Wait68k) (i : Instr), s.dead .m68k = none → s.wait68k = some w → w.act = .exec i →
    s.bus.mb68k.op = .none →
    turn68k s = settle68k s (exec i { s with wait68k := some { w with log := w.log ++ [s.bus.mb68k.value] } })) ∧
  (∀ (s : State) (w : WaitZ80) (i : Instr), s.dead .z80 = none → s.waitZ80 = some w → w.act = .exec i →
    s.bus.mbZ80.op = .none →
    turnZ80 s = settleZ80 s (exec i { s with waitZ80 := some { w with log := w.log ++ [s.bus.mbZ80.value] } })) ∧
  (∀ (c : Ctx) (sz : Size) (a : Long) (v : BitVec sz.bits), c.todo = [] → c.st.bus.mb68k.op = .none →
    oddAccess (a.setWidth 24) sz = false → route68k c.st.launch (a.setWidth 24) sz = .owner →
    load68k sz a c = .error .wait { c with st := c.st.mapBus fun b =>
      { b with mb68k := b.mb68k.issue .read (a.setWidth 24) sz 0 } } ∧
    (c.selfModifies .write (a.setWidth 24) sz = false →
      store68k sz a v c = .error .wait { c with st := c.st.mapBus fun b =>
        { b with mb68k := b.mb68k.issue .write (a.setWidth 24) sz (v.setWidth 32) } }) ∧
    (sz = .b → c.selfModifies .tas (a.setWidth 24) .b = false →
      tas68k a c = .error .wait { c with st := c.st.mapBus fun b =>
        { b with mb68k := b.mb68k.issue .tas (a.setWidth 24) .b 0 } })) ∧
  (∀ (c : Ctx) (sz : Size) (a : Long) (v : BitVec sz.bits) (x : Long) (r : List Long), c.todo = x :: r →
    oddAccess (a.setWidth 24) sz = false →
    load68k sz a c = .ok (x.setWidth sz.bits) { c with todo := r, done := c.done ++ [x] } ∧
    store68k sz a v c = .ok () { c with todo := r, done := c.done ++ [x] } ∧
    tas68k a c = .ok (x.setWidth 8) { c with todo := r, done := c.done ++ [x] }) ∧
  (∀ (c : Ctx) (a : Word) (v : Byte), c.todo = [] → c.st.bus.mbZ80.op = .none →
    (placeZ80 c.st.launch a ≠ none → c.st.launch.localZ80 a = false →
      loadZ80 a c = .error .wait { c with st := c.st.mapBus fun b => { b with mbZ80 := b.mbZ80.issue .read a .b 0 } } ∧
      storeZ80 a v c = .error .wait { c with st := c.st.mapBus fun b =>
        { b with mbZ80 := b.mbZ80.issue .write a .b (v.setWidth 32) } }) ∧
    (c.st.launch.map.ownPorts = false →
      inPort a c = .error .wait { c with st := c.st.mapBus fun b => { b with mbZ80 := b.mbZ80.issue .portRead a .b 0 } } ∧
      outPort a v c = .error .wait { c with st := c.st.mapBus fun b =>
        { b with mbZ80 := b.mbZ80.issue .portWrite a .b (v.setWidth 32) } }) ∧
    (c.st.launch.map.ownPorts = true →
      (∃ w : Byte, inPort a c = .ok w { c with
        st := c.st.mapBus fun b => { b with draws := b.draws + 1 }, done := c.done ++ [w.setWidth 32] }) ∧
      outPort a v c = .ok () { c with st := c.st.record (.portWrite a v), done := c.done ++ [v.setWidth 32] })) ∧
  (∀ (c : Ctx) (a : Word) (v : Byte) (x : Long) (r : List Long), c.todo = x :: r →
    loadZ80 a c = .ok (x.setWidth 8) { c with todo := r, done := c.done ++ [x] } ∧
    storeZ80 a v c = .ok () { c with todo := r, done := c.done ++ [x] } ∧
    inPort a c = .ok (x.setWidth 8) { c with todo := r, done := c.done ++ [x] } ∧
    outPort a v c = .ok () { c with todo := r, done := c.done ++ [x] }) ∧
  (∀ (s : State) (sz : Size) (ea : Ea) (a : Long) (s1 : State), s.ready68k → s.bus.mb68k.op = .none →
    (s.past 1).locate sz ea = some (.mem a, s1) → oddAccess (a.setWidth 24) sz = false →
    route68k s.launch (a.setWidth 24) sz = .owner →
    exec (.tst sz ea) s = .next { s1.mapBus fun b => { b with mb68k := b.mb68k.issue .read (a.setWidth 24) sz 0 } with
      wait68k := some { act := .exec (.tst sz ea), snap := s.m68k, log := [] } }) ∧
  (∀ (s : State) (sz : Size) (ea : Ea) (a : Long) (m : M68k) (s1 : State), s.dead .m68k = none →
    s.wait68k = some { act := .exec (.tst sz ea), snap := m, log := [] } → s.bus.mb68k.op = .none →
    ({ s with m68k := m, wait68k := none }.past 1).locate sz ea = some (.mem a, s1) → oddAccess (a.setWidth 24) sz = false →
    turn68k s = .next ((s1.logicCcr (s.bus.mb68k.value.setWidth sz.bits)).ended68k (.tst sz ea) [])) ∧
  (∀ (s : State) (ea : Ea) (a : Long) (s1 : State), s.ready68k → s.bus.mb68k.op = .none →
    (s.past 1).locate .w ea = some (.mem a, s1) → oddAccess (a.setWidth 24) .w = false →
    route68k s.launch (a.setWidth 24) .w = .owner → hitsPrefetch s.launch s1.m68k.pc (a.setWidth 24) .w = false →
    exec (.moveFromSr ea) s = .next
      { s1.mapBus fun b => { b with mb68k := b.mb68k.issue .write (a.setWidth 24) .w (s1.m68k.getSr.setWidth 32) } with
        wait68k := some { act := .exec (.moveFromSr ea), snap := s.m68k, log := [] } }) ∧
  (∀ (s : State) (ea : Ea) (a : Long) (m : M68k) (s1 : State), s.dead .m68k = none →
    s.wait68k = some { act := .exec (.moveFromSr ea), snap := m, log := [] } → s.bus.mb68k.op = .none →
    ({ s with m68k := m, wait68k := none }.past 1).locate .w ea = some (.mem a, s1) → oddAccess (a.setWidth 24) .w = false →
    turn68k s = .next (s1.ended68k (.moveFromSr ea) [])) ∧
  (∀ (s : State) (r : ZReg), s.readyZ80 → s.bus.mbZ80.op = .none → placeZ80 s.launch s.z80.hl ≠ none →
    s.launch.localZ80 s.z80.hl = false →
    exec (.zLdRHl r) s = .next { (s.pastZ80 (.zLdRHl r)).mapBus fun b =>
        { b with mbZ80 := b.mbZ80.issue .read s.z80.hl .b 0 } with
      waitZ80 := some { act := .exec (.zLdRHl r), snap := s.z80, log := [] } } ∧
    exec (.zLdHlR r) s = .next { (s.pastZ80 (.zLdHlR r)).mapBus fun b =>
        { b with mbZ80 := b.mbZ80.issue .write s.z80.hl .b ((s.z80.reg r).setWidth 32) } with
      waitZ80 := some { act := .exec (.zLdHlR r), snap := s.z80, log := [] } }) ∧
  (∀ (s : State) (r : ZReg) (z : Z80), s.dead .z80 = none → s.bus.mbZ80.op = .none →
    (s.waitZ80 = some { act := .exec (.zLdRHl r), snap := z, log := [] } →
      turnZ80 s = .next ((((s.backZ80 z).pastZ80 (.zLdRHl r)).mapZ80 fun z =>
        z.setReg r (s.bus.mbZ80.value.setWidth 8)).endedZ80 (.zLdRHl r) [])) ∧
    (s.waitZ80 = some { act := .exec (.zLdHlR r), snap := z, log := [] } →
      turnZ80 s = .next (((s.backZ80 z).pastZ80 (.zLdHlR r)).endedZ80 (.zLdHlR r) [])))

/-- OWNER serves the bus-request, Z80 reset and bank registers, wherever the launch parameters place them (60 R750, R752, R753):
which bit a word or byte carries, what a read shows, that a byte at the second address changes nothing, that a TAS is the read
and the write of one event (20 R128), and that a long access issues no transaction but is the fault Unmapped. The other bits of
a read are the model's draws (log 7) and the events kept are the model's (log 14); how the launch parameters place the registers
is log 8, and whose fault a long access is, and that it comes before any issue, log 11. -/
def Obligations.ControlRegistersServed : Prop :=
  (∀ (s : State) (v : Long) (l : Nat) (sz : Size) (k : Nat), s.dead .m68k = none → (sz = .w ∧ k = 8) ∨ (sz = .b ∧ k = 0) →
    s.launch.registersApart →
    (s.bus.mb68k = { op := .memWrite, value := v, addr := s.launch.busReqAddr, len := sz, intLevel := l, rmw := false } →
      service68k s = .next (s.mapBus fun b =>
        { b with busReq := v.getLsbD k, mb68k := { b.mb68k with op := .none } })) ∧
    (s.bus.mb68k = { op := .memWrite, value := v, addr := s.launch.z80ResetAddr, len := sz, intLevel := l, rmw := false } →
      service68k s = .next (s.mapBus fun b =>
        { b with z80ResetHeld := !v.getLsbD k, z80ResetPulse := b.z80ResetPulse || !v.getLsbD k,
                 mb68k := { b.mb68k with op := .none } })) ∧
    (s.bus.mb68k = { op := .memRead, value := v, addr := s.launch.busReqAddr, len := sz, intLevel := l, rmw := false } →
      ∃ w : BitVec sz.bits, w.getLsbD k = !s.bus.busAck ∧ service68k s = .next (s.mapBus fun b =>
        { b with draws := b.draws + sz.bytes, mb68k := { b.mb68k with op := .none, value := w.setWidth 32 } })) ∧
    (s.bus.mb68k = { op := .memRead, value := v, addr := s.launch.z80ResetAddr, len := sz, intLevel := l, rmw := false } →
      ∃ w : BitVec sz.bits, service68k s = .next (s.mapBus fun b =>
        { b with draws := b.draws + sz.bytes, mb68k := { b.mb68k with op := .none, value := w.setWidth 32 } }))) ∧
  (∀ (s : State) (v : Long) (l : Nat) (a : Addr24), s.dead .m68k = none → s.launch.registersApart →
    a = s.launch.busReqAddr + 1#24 ∨ a = s.launch.z80ResetAddr + 1#24 →
    (s.bus.mb68k = { op := .memWrite, value := v, addr := a, len := .b, intLevel := l, rmw := false } →
      service68k s = .next ((s.record (.write68k a .b v)).mapBus fun b => { b with mb68k := { b.mb68k with op := .none } })) ∧
    (s.bus.mb68k = { op := .memRead, value := v, addr := a, len := .b, intLevel := l, rmw := false } →
      ∃ w : Byte, service68k s = .next (s.mapBus fun b =>
        { b with draws := b.draws + 1, mb68k := { b.mb68k with op := .none, value := w.setWidth 32 } })) ∧
    (s.bus.mb68k = { op := .memRead, value := v, addr := a, len := .b, intLevel := l, rmw := true } →
      ∃ w : Byte, service68k s = .next ((s.record (.write68k a .b ((w ||| 0x80#8).setWidth 32))).mapBus fun b =>
        { b with draws := b.draws + 1, mb68k := { b.mb68k with op := .none, value := w.setWidth 32 } }))) ∧
  (∀ (s : State) (v : Long) (l : Nat), s.dead .m68k = none → s.launch.registersApart →
    (s.bus.mb68k = { op := .memRead, value := v, addr := s.launch.busReqAddr, len := .b, intLevel := l, rmw := true } →
      ∃ w : Byte, w.getLsbD 0 = !s.bus.busAck ∧ service68k s = .next (s.mapBus fun b =>
        { b with busReq := !b.busAck, draws := b.draws + 1, mb68k := { b.mb68k with op := .none, value := w.setWidth 32 } })) ∧
    (s.bus.mb68k = { op := .memRead, value := v, addr := s.launch.z80ResetAddr, len := .b, intLevel := l, rmw := true } →
      ∃ w : Byte, service68k s = .next (s.mapBus fun b =>
        { b with z80ResetHeld := !w.getLsbD 0, z80ResetPulse := b.z80ResetPulse || !w.getLsbD 0, draws := b.draws + 1,
                 mb68k := { b.mb68k with op := .none, value := w.setWidth 32 } }))) ∧
  (∀ (c : Ctx) (a v : Long), c.todo = [] → oddAccess (a.setWidth 24) .l = false →
    a.setWidth 24 = c.st.launch.busReqAddr ∨ a.setWidth 24 = c.st.launch.z80ResetAddr →
    route68k c.st.launch (a.setWidth 24) .l = .nowhere ∧
    load68k .l a c = .error (.fault .unmapped) c ∧ store68k .l a v c = .error (.fault .unmapped) c) ∧
  (∀ (s : State) (v : Long) (l : Nat) (a : Word), s.dead .z80 = none → placeZ80 s.launch a = some .bank →
    (s.bus.mbZ80 = { op := .memWrite, value := v, addr := a, len := .b, intLevel := l, rmw := false } →
      serviceZ80 s = .next (s.mapBus fun b =>
        { b with bank := (b.bank >>> 1) ||| ((v.setWidth 9 &&& 1#9) <<< 8), mbZ80 := { b.mbZ80 with op := .none } })) ∧
    (s.bus.mbZ80 = { op := .memRead, value := v, addr := a, len := .b, intLevel := l, rmw := false } →
      ∃ w : Byte, serviceZ80 s = .next (s.mapBus fun b =>
        { b with draws := b.draws + 1, mbZ80 := { b.mbZ80 with op := .none, value := w.setWidth 32 } })))

/-- OWNER serves M68K's access to ZRAM only while the Z80 is off the bus or held in reset, and only bytes, a TAS as one event
(20 R128, R136); it answers a device row of either view, and a port, with free bytes and records a write there (20 R131); and
the Z80's bank window gives the M68K view, with what that view says of ROM past its image and of writes to ROM (20 R132), but
for the rows of the Z80's own bus and of the two control registers (20 R137). That contention comes before width, and whose
fault each is, are the model's reading (log 11); the free bytes are its draws (log 7), the marks and events those of log 14, the
places those of log 8. -/
def Obligations.SharedMemoryServed : Prop :=
  (∀ (s : State) (sz : Size) (a : Addr24) (v : Long) (l : Nat) (op : MbOp) (q : Bool), s.dead .m68k = none →
    op = .memRead ∨ op = .memWrite → (∀ b ∈ bytes68k a sz, ∃ off, place68k s.launch b = some (.zram off)) →
    s.bus.mb68k = { op := op, value := v, addr := a, len := sz, intLevel := l, rmw := q } →
    (s.bus.busAck = false → s.bus.z80ResetHeld = false →
      service68k s = .next (s.markFault .m68k (.fault .zramContention))) ∧
    (s.bus.busAck = true ∨ s.bus.z80ResetHeld = true →
      (sz ≠ .b → service68k s = .next (s.markFault .m68k (.fault .zramWidth))) ∧
      (∀ off, sz = .b → place68k s.launch a = some (.zram off) →
        (op = .memRead → service68k s = .next (
          { s with mem := if q then s.mem.write (zramKey off) (s.mem.read (zramKey off) ||| 0x80#8) else s.mem }.mapBus fun b =>
          { b with mb68k := { b.mb68k with op := .none, value := (s.mem.read (zramKey off)).setWidth 32 } })) ∧
        (op = .memWrite → service68k s = .next
          ({ s with mem := s.mem.write (zramKey off) (v.setWidth 8) }.mapBus fun b =>
            { b with mb68k := { b.mb68k with op := .none } }))))) ∧
  (∀ (s : State) (sz : Size) (a : Addr24) (v : Long) (l : Nat), s.dead .m68k = none →
    (∀ b ∈ bytes68k a sz, place68k s.launch b = some .device) →
    (s.bus.mb68k = { op := .memRead, value := v, addr := a, len := sz, intLevel := l, rmw := false } →
      ∃ w : BitVec sz.bits, service68k s = .next (s.mapBus fun b =>
        { b with draws := b.draws + sz.bytes, mb68k := { b.mb68k with op := .none, value := w.setWidth 32 } })) ∧
    (s.bus.mb68k = { op := .memWrite, value := v, addr := a, len := sz, intLevel := l, rmw := false } →
      service68k s = .next ((s.record (.write68k a sz v)).mapBus fun b => { b with mb68k := { b.mb68k with op := .none } })) ∧
    (s.bus.mb68k = { op := .memRead, value := v, addr := a, len := .b, intLevel := l, rmw := true } → sz = .b →
      ∃ w : Byte, service68k s = .next ((s.record (.write68k a .b ((w ||| 0x80#8).setWidth 32))).mapBus fun b =>
        { b with draws := b.draws + 1, mb68k := { b.mb68k with op := .none, value := w.setWidth 32 } }))) ∧
  (∀ (s : State) (a : Word) (v : Long) (l : Nat) (op : MbOp), s.dead .z80 = none →
    s.bus.mbZ80 = { op := op, value := v, addr := a, len := .b, intLevel := l, rmw := false } →
    ((op = .memRead ∧ placeZ80 s.launch a = some .device) ∨ op = .portRead →
      ∃ w : Byte, serviceZ80 s = .next (s.mapBus fun b =>
        { b with draws := b.draws + 1, mbZ80 := { b.mbZ80 with op := .none, value := w.setWidth 32 } })) ∧
    (op = .memWrite → placeZ80 s.launch a = some .device →
      serviceZ80 s = .next ((s.record (.writeZ80 a (v.setWidth 8))).mapBus fun b =>
        { b with mbZ80 := { b.mbZ80 with op := .none } })) ∧
    (op = .portWrite →
      serviceZ80 s = .next ((s.record (.portWrite a (v.setWidth 8))).mapBus fun b =>
        { b with mbZ80 := { b.mbZ80 with op := .none } }))) ∧
  (∀ (s : State) (a : Word) (v : Long) (l : Nat) (op : MbOp), s.dead .z80 = none → op = .memRead ∨ op = .memWrite →
    placeZ80 s.launch a = some .window →
    s.bus.mbZ80 = { op := op, value := v, addr := a, len := .b, intLevel := l, rmw := false } →
    (∀ off, place68k s.launch (s.bus.bank ++ a.extractLsb' 0 15) = some (.wram off) →
      (op = .memRead → serviceZ80 s = .next (s.mapBus fun b =>
        { b with mbZ80 := { b.mbZ80 with op := .none, value := (s.mem.read (wramKey off)).setWidth 32 } })) ∧
      (op = .memWrite → serviceZ80 s = .next ({ s with mem := s.mem.write (wramKey off) (v.setWidth 8) }.mapBus fun b =>
        { b with mbZ80 := { b.mbZ80 with op := .none } }))) ∧
    (∀ off, place68k s.launch (s.bus.bank ++ a.extractLsb' 0 15) = some (.rom off) → off < s.launch.romLen → op = .memRead →
      serviceZ80 s = .next (s.mapBus fun b =>
        { b with mbZ80 := { b.mbZ80 with op := .none, value := (s.mem.read off).setWidth 32 } })) ∧
    (∀ p, place68k s.launch (s.bus.bank ++ a.extractLsb' 0 15) = some p →
      ((∃ off, p = .rom off ∧ s.launch.romLen ≤ off) ∨ p = .device → op = .memRead →
        ∃ w : Byte, serviceZ80 s = .next (s.mapBus fun b =>
          { b with draws := b.draws + 1, mbZ80 := { b.mbZ80 with op := .none, value := w.setWidth 32 } })) ∧
      ((∃ off, p = .rom off) ∨ p = .device → op = .memWrite →
        serviceZ80 s = .next ((s.record (.write68k (s.bus.bank ++ a.extractLsb' 0 15) .b v)).mapBus fun b =>
          { b with mbZ80 := { b.mbZ80 with op := .none } })) ∧
      ((∃ off, p = .zram off) ∨ (∃ f, p = .busReq f) ∨ (∃ f, p = .z80Reset f) →
        serviceZ80 s = .next ((s.mapZ80 fun z => { z with run := .failed }).markFault .z80 (.fault .bankLoop)))) ∧
    (place68k s.launch (s.bus.bank ++ a.extractLsb' 0 15) = none →
      serviceZ80 s = .next ((s.mapZ80 fun z => { z with run := .failed }).markFault .z80 (.fault .unmapped))))

/-- An access of M68K with a byte in no row of its map, and one of Z80 to an address in no row of its own, is the fault Unmapped
(20 R133), raised by the processor that makes it. The default map is the table of 20 R133: what stands at each address of both
views, which addresses are in no row, and which each processor reaches itself. Where a map lets a processor reach ZRAM or the
bank window itself, the faults of 20 R136 and R137 are raised there as OWNER raises them. That the processor itself raises the
fault, before any issue, is the model's reading (log 11); how the launch parameters give the map is log 8. -/
def Obligations.UnmappedAccessFaults : Prop :=
  (∀ (c : Ctx) (sz : Size) (a : Long) (v : BitVec sz.bits), c.todo = [] → oddAccess (a.setWidth 24) sz = false →
    (∃ b ∈ bytes68k (a.setWidth 24) sz, place68k c.st.launch b = none) →
    load68k sz a c = .error (.fault .unmapped) c ∧ store68k sz a v c = .error (.fault .unmapped) c ∧
    (sz = .b → tas68k a c = .error (.fault .unmapped) c)) ∧
  (∀ (c : Ctx) (a : Word) (v : Byte), c.todo = [] → placeZ80 c.st.launch a = none →
    loadZ80 a c = .error (.fault .unmapped) c ∧ storeZ80 a v c = .error (.fault .unmapped) c) ∧
  (∀ l : Launch, l.map = PlatformMap.default → l.busReqAddr = 0xA11100 → l.z80ResetAddr = 0xA11200 →
    (∀ a : Addr24, place68k l a =
      if a.toNat ≤ 0x3FFFFF then some (.rom a.toNat)
      else if a.toNat ≤ 0x9FFFFF then some .device
      else if a.toNat ≤ 0xA03FFF then some (.zram ((a.toNat - 0xA00000) % 0x2000))
      else if a.toNat ≤ 0xA1001F then some .device
      else if a.toNat = 0xA11100 then some (.busReq true)
      else if a.toNat = 0xA11101 then some (.busReq false)
      else if a.toNat = 0xA11200 then some (.z80Reset true)
      else if a.toNat = 0xA11201 then some (.z80Reset false)
      else if 0xA14000 ≤ a.toNat ∧ a.toNat ≤ 0xA14003 then some .device
      else if 0xC00000 ≤ a.toNat ∧ a.toNat ≤ 0xC0001F then some .device
      else if 0xE00000 ≤ a.toNat then some (.wram (a.toNat % 0x10000))
      else none) ∧
    (∀ a : Addr24, l.local68k a = true ↔ a.toNat ≤ 0x3FFFFF ∨ 0xE00000 ≤ a.toNat) ∧
    (∀ a : Word, placeZ80 l a =
      if a.toNat ≤ 0x3FFF then some (.zram (a.toNat % 0x2000))
      else if a.toNat ≤ 0x5FFF then some .device
      else if a.toNat ≤ 0x60FF then some .bank
      else if 0x7F00 ≤ a.toNat ∧ a.toNat ≤ 0x7F1F then some .device
      else if 0x8000 ≤ a.toNat then some .window
      else none) ∧
    (∀ a : Word, l.localZ80 a = true ↔ a.toNat ≤ 0x3FFF) ∧ l.map.ownPorts = false ∧ l.oracleIsOwners) ∧
  (∀ (c : Ctx) (sz : Size) (a : Long) (v : BitVec sz.bits) (ps : List Place), c.todo = [] →
    oddAccess (a.setWidth 24) sz = false → route68k c.st.launch (a.setWidth 24) sz = .here ps → ps.any Place.isZram = true →
    c.selfModifies .write (a.setWidth 24) sz = false →
    (c.st.bus.busAck = false → c.st.bus.z80ResetHeld = false →
      load68k sz a c = .error (.fault .zramContention) c ∧ store68k sz a v c = .error (.fault .zramContention) c) ∧
    (c.st.bus.busAck = true ∨ c.st.bus.z80ResetHeld = true → sz ≠ .b →
      load68k sz a c = .error (.fault .zramWidth) c ∧ store68k sz a v c = .error (.fault .zramWidth) c)) ∧
  (∀ (c : Ctx) (a : Word) (v : Byte), c.todo = [] → placeZ80 c.st.launch a = some .window → c.st.launch.localZ80 a = true →
    (∃ p, place68k c.st.launch (c.st.bus.bank ++ a.extractLsb' 0 15) = some p ∧ (p.isZram || p.isControl) = true) →
    loadZ80 a c = .error (.fault .bankLoop) c ∧ storeZ80 a v c = .error (.fault .bankLoop) c)

/-- Any turn may be scheduled next, and every schedule is weakly fair (20 R140): in the run from any state each processor and
each service of OWNER takes a turn, or has no step to take at some point, within a number of steps that the run determines,
unless the run stops before. So an issued transaction is served (20 R157), unless its processor or OWNER takes no further step.
How turns follow the schedule, and the turn that fairness owes, are the model's (log 2); whose marks end whose steps is log 14.
-/
def Obligations.SchedulesAreFair : Prop :=
  (∀ (s : State) (t : Turn) (r : List Turn), s.schedule = t :: r → step s = takeTurn t { s with schedule := r }) ∧
  (∀ s : State, s.WeaklyFair) ∧
  (∀ s : State, s.bus.mb68k.op ≠ .none → ∃ n, ∀ u, s.after n = some u →
    ∃ m ≤ n, ∃ v, s.after m = some v ∧ (v.bus.mb68k.op = .none ∨ v.dead .m68k ≠ none ∨ v.dead .owner ≠ none)) ∧
  (∀ s : State, s.bus.mbZ80.op ≠ .none → ∃ n, ∀ u, s.after n = some u →
    ∃ m ≤ n, ∃ v, s.after m = some v ∧ (v.bus.mbZ80.op = .none ∨ v.dead .z80 ≠ none ∨ v.dead .owner ≠ none))

/-- Power-on leaves the values the spec gives (10 R90 to R92, 70 R800, R804): SP and PC from the image's first two longs, S = 1,
T = 0, mask 7, M68K running; the Z80's PC, I, R, flip-flops and mode 0 and its reset held; empty mailboxes; no mark. -/
def Obligations.PowerOnValues : Prop :=
  ∀ (launch : Launch) (image : Memory) (schedule : List Turn), 8 ≤ launch.romLen →
    let s := State.powerOn launch image schedule
    s.m68k.sp = image.read 0 ++ image.read 1 ++ image.read 2 ++ image.read 3 ∧
    s.m68k.pc = image.read 4 ++ image.read 5 ++ image.read 6 ++ image.read 7 ∧
    s.m68k.trace = false ∧ s.m68k.super = true ∧ s.m68k.mask = 7#3 ∧ s.m68k.run = .running ∧ s.m68k.cyc = 0 ∧
    s.wait68k = none ∧
    s.z80.pc = 0 ∧ s.z80.i = 0 ∧ s.z80.r = 0 ∧ s.z80.iff1 = false ∧ s.z80.iff2 = false ∧ s.z80.im = .im0 ∧
    s.z80.cooldown = false ∧ s.z80.halted = false ∧ s.z80.run = .running ∧ s.z80.cyc = 0 ∧ s.waitZ80 = none ∧
    s.bus.mb68k.op = .none ∧ s.bus.mbZ80.op = .none ∧ s.bus.mb68k.intLevel = 0 ∧ s.bus.mbZ80.intLevel = 0 ∧
    s.bus.busReq = false ∧ s.bus.busAck = false ∧ s.bus.z80ResetHeld = true ∧ s.bus.z80ResetPulse = false ∧
    s.mem = image ∧ s.refusedMarks = [] ∧ s.faultedMarks = []

/-- An M68K word or long data access at an odd address is the fault MisalignedData under the policy `fault`, and under `split`
is made as byte accesses at rising addresses, the most significant byte first; a byte access is never misaligned (20 R124). -/
def Obligations.MisalignedAccess : Prop :=
  (∀ (c : Ctx) (sz : Size) (a : Long) (v : BitVec sz.bits), sz ≠ .b → a.getLsbD 0 = true →
    c.st.launch.misaligned = .fault →
    load68k sz a c = .error (.fault .misalignedData) c ∧ store68k sz a v c = .error (.fault .misalignedData) c) ∧
  (∀ (c d : Ctx) (a : Long) (v : Byte), load68k .b a c ≠ .error (.fault .misalignedData) d ∧
    store68k .b a v c ≠ .error (.fault .misalignedData) d) ∧
  (∀ (s s1 s2 : State) (a : Long) (x0 x1 : Byte) (q : Bool), a.getLsbD 0 = true → s.launch.misaligned = .split →
    s.loadAt .b a = some (x0, s1) → s1.loadAt .b (a + 1#32) = some (x1, s2) →
    (∃ d, load68k .w a ⟨s, [], [], q⟩ = .ok (x0 ++ x1) ⟨s2, [], d, q⟩) ∧
    ∀ (s3 s4 : State) (x2 x3 : Byte), s2.loadAt .b (a + 2#32) = some (x2, s3) → s3.loadAt .b (a + 3#32) = some (x3, s4) →
      ∃ d, load68k .l a ⟨s, [], [], q⟩ = .ok (x0 ++ x1 ++ x2 ++ x3) ⟨s4, [], d, q⟩) ∧
  (∀ (s s1 s2 : State) (a : Long) (v : Word) (q : Bool), a.getLsbD 0 = true → s.launch.misaligned = .split →
    s.storeAt .b a (v.extractLsb' 8 8) = some s1 → s1.storeAt .b (a + 1#32) (v.extractLsb' 0 8) = some s2 →
    ∃ d, store68k .w a v ⟨s, [], [], q⟩ = .ok () ⟨s2, [], d, q⟩) ∧
  (∀ (s s1 s2 s3 s4 : State) (a v : Long) (q : Bool), a.getLsbD 0 = true → s.launch.misaligned = .split →
    s.storeAt .b a (v.extractLsb' 24 8) = some s1 → s1.storeAt .b (a + 1#32) (v.extractLsb' 16 8) = some s2 →
    s2.storeAt .b (a + 2#32) (v.extractLsb' 8 8) = some s3 → s3.storeAt .b (a + 3#32) (v.extractLsb' 0 8) = some s4 →
    ∃ d, store68k .l a v ⟨s, [], [], q⟩ = .ok () ⟨s4, [], d, q⟩)

/-- After a compare of any width the conditions mean the orders: GE LT GT LE the signed order of destination and source, HI LS
CC CS the unsigned one, EQ and NE equality; and the V and C of an addition say that the signed or the unsigned sum does not fit
(41 R301, R303, R305, R309). -/
def Obligations.ConditionsMeanOrders : Prop :=
  ∀ (n : Nat) (s d : BitVec n) (old : Ccr), 0 < n →
    let f := flagsCmp s d (d - s) old
    (f.holds .ge = true ↔ s.toInt ≤ d.toInt) ∧ (f.holds .lt = true ↔ d.toInt < s.toInt) ∧
    (f.holds .gt = true ↔ s.toInt < d.toInt) ∧ (f.holds .le = true ↔ d.toInt ≤ s.toInt) ∧
    (f.holds .hi = true ↔ s.toNat < d.toNat) ∧ (f.holds .ls = true ↔ d.toNat ≤ s.toNat) ∧
    (f.holds .cc = true ↔ s.toNat ≤ d.toNat) ∧ (f.holds .cs = true ↔ d.toNat < s.toNat) ∧
    (f.holds .eq = true ↔ d = s) ∧ (f.holds .ne = true ↔ d ≠ s) ∧ f.x = old.x ∧
    ((flagsAdd s d (d + s)).v = true ↔ (d + s).toInt ≠ d.toInt + s.toInt) ∧
    ((flagsAdd s d (d + s)).c = true ↔ (d + s).toNat ≠ d.toNat + s.toNat) ∧
    ((flagsSub s d (d - s)).v = true ↔ (d - s).toInt ≠ d.toInt - s.toInt)
end

