-- ==== Sys2Proof/Laws/Memory.lean ====
section
/-! SUPPORT. Laws of byte memory: what a read after a write answers, and that every memory operation keeps the canonical
form. -/

namespace Sys2Proof.Laws

open Sys2Proof.Machine

/-- The keys of a memory are rising. -/
abbrev Rising (m : Memory) : Prop := m.Pairwise fun c e => c.1 < e.1

/-- A key below every listed key reads as unlisted. -/
theorem read_below {m : Memory} {k : Nat} (h : ∀ c ∈ m, k < c.1) : m.read k = Memory.unlisted := by
  cases m with
  | nil => rfl
  | cons c r =>
    have := h c (by simp)
    rw [Memory.read, if_neg (by omega), if_pos this]

/-- A read after a write to the same key. -/
theorem read_write_same (m : Memory) (k : Nat) (v : Byte) (h : Rising m) : (m.write k v).read k = v := by
  induction m with
  | nil => by_cases hv : v = Memory.unlisted <;> simp [Memory.write, Memory.read, hv]
  | cons c r ih =>
    have hr := List.pairwise_cons.1 h
    by_cases h1 : c.1 = k
    · by_cases hv : v = Memory.unlisted
      · simp only [Memory.write, h1, if_true, hv]
        exact read_below fun e he => by have := hr.1 e he; omega
      · simp [Memory.write, h1, hv, Memory.read]
    · by_cases h2 : k < c.1
      · by_cases hv : v = Memory.unlisted <;> simp [Memory.write, h1, h2, hv, Memory.read]
      · simp [Memory.write, h1, h2, Memory.read, ih hr.2]

/-- A write leaves every other key alone. -/
theorem read_write_other (m : Memory) (k j : Nat) (v : Byte) (h : Rising m) (hj : j ≠ k) :
    (m.write k v).read j = m.read j := by
  induction m with
  | nil =>
    by_cases hv : v = Memory.unlisted
    · simp [Memory.write, hv]
    · have hk : k ≠ j := fun e => hj e.symm
      simp [Memory.write, Memory.read, hv, hk]
  | cons c r ih =>
    have hr := List.pairwise_cons.1 h
    by_cases h1 : c.1 = k
    · have hcj : c.1 ≠ j := by omega
      by_cases hv : v = Memory.unlisted
      · simp only [Memory.write, h1, if_true, hv]
        rw [Memory.read, if_neg hcj]
        by_cases hlt : j < c.1
        · rw [if_pos hlt]
          exact read_below fun e he => by have := hr.1 e he; omega
        · rw [if_neg hlt]
      · have hkj : k ≠ j := fun e => hj e.symm
        simp [Memory.write, h1, hv, Memory.read, hkj]
    · by_cases h2 : k < c.1
      · by_cases hv : v = Memory.unlisted
        · simp [Memory.write, h1, h2, hv]
        · have hkj : k ≠ j := fun e => hj e.symm
          simp only [Memory.write, h1, h2, if_true, hv, if_false]
          rw [Memory.read, if_neg (show ¬(k, v).1 = j from hkj)]
          by_cases hlt : j < k
          · rw [if_pos hlt]
            exact (read_below fun e he => by
              rcases List.mem_cons.1 he with rfl | he
              · omega
              · have := hr.1 e he; omega).symm
          · rw [if_neg hlt]
      · simp only [Memory.write, h1, h2, if_false]
        rw [Memory.read, Memory.read, ih hr.2]

/-- A key of the memory after a write is the key written, or a key it had. -/
theorem mem_write {m : Memory} {k : Nat} {v : Byte} {c : Host.Cell} (h : c ∈ m.write k v) :
    c ∈ m ∨ (c = (k, v) ∧ v ≠ Memory.unlisted) := by
  induction m with
  | nil =>
    by_cases hv : v = Memory.unlisted
    · simp [Memory.write, hv] at h
    · simp [Memory.write, hv] at h; exact .inr ⟨h, hv⟩
  | cons e r ih =>
    rw [Memory.write] at h
    split at h
    · split at h
      · exact .inl (List.mem_cons_of_mem _ h)
      · rcases List.mem_cons.1 h with rfl | h
        · exact .inr ⟨rfl, ‹_›⟩
        · exact .inl (List.mem_cons_of_mem _ h)
    · split at h
      · split at h
        · exact .inl h
        · rcases List.mem_cons.1 h with rfl | h
          · exact .inr ⟨rfl, ‹_›⟩
          · exact .inl h
      · rcases List.mem_cons.1 h with rfl | h
        · exact .inl (by simp)
        · rcases ih h with h | h
          · exact .inl (List.mem_cons_of_mem _ h)
          · exact .inr h

/-- A write keeps the keys rising. -/
theorem rising_write {m : Memory} (k : Nat) (v : Byte) (h : Rising m) : Rising (m.write k v) := by
  induction m with
  | nil => by_cases hv : v = Memory.unlisted <;> simp [Memory.write, Rising, hv]
  | cons e r ih =>
    have hr := List.pairwise_cons.1 h
    rw [Memory.write]
    split
    · rename_i he
      split
      · exact hr.2
      · exact List.pairwise_cons.2 ⟨fun x hx => by have := hr.1 x hx; simp only; omega, hr.2⟩
    · split
      · rename_i hk
        split
        · exact h
        · refine List.pairwise_cons.2 ⟨fun x hx => ?_, h⟩
          rcases List.mem_cons.1 hx with rfl | hx
          · exact hk
          · have := hr.1 x hx; simp only; omega
      · refine List.pairwise_cons.2 ⟨fun x hx => ?_, ih hr.2⟩
        rcases mem_write hx with hx | ⟨rfl, -⟩
        · exact hr.1 x hx
        · simp only; omega

/-- A write keeps the canonical form. -/
theorem wf_write {m : Memory} (k : Nat) (v : Byte) (h : m.wf) : (m.write k v).wf :=
  ⟨rising_write k v h.1, fun c hc => by
    rcases mem_write hc with hc | ⟨rfl, hv⟩
    · exact h.2 c hc
    · exact hv⟩

/-- A run of writes keeps the canonical form. -/
theorem wf_writeList {m : Memory} (k : Nat) (bs : List Byte) (h : m.wf) : (m.writeList k bs).wf := by
  induction bs generalizing m k with
  | nil => exact h
  | cons b r ih => exact ih _ (wf_write _ _ h)

/-- Empty memory is canonical. -/
theorem wf_empty : Memory.wf [] := ⟨List.Pairwise.nil, by simp⟩

/-- The memory of the reset state is canonical. -/
theorem wf_reset : State.reset.mem.wf := wf_empty

/-- Placing an M68K instruction keeps the canonical form. -/
theorem wf_placeBytes68k {m : Memory} (l : Launch) (a : Addr24) (bs : List Byte) (h : m.wf) : (placeBytes68k l m a bs).wf := by
  induction bs generalizing m a with
  | nil => exact h
  | cons b r ih => exact ih _ (wf_write _ _ h)

/-- Placing a Z80 instruction keeps the canonical form. -/
theorem wf_placeBytesZ80 {m : Memory} (l : Launch) (a : Word) (bs : List Byte) (h : m.wf) : (placeBytesZ80 l m a bs).wf := by
  induction bs generalizing m a with
  | nil => exact h
  | cons b r ih => exact ih _ (wf_write _ _ h)

/-- Reading a place leaves memory as it is. -/
@[simp] theorem readPlace_mem (s : State) (p : Place) : (s.readPlace p).2.mem = s.mem := by
  cases p <;> (simp only [State.readPlace, State.drawByte, State.mapBus]; try rfl)
  split <;> rfl

/-- Reading places leaves memory as it is. -/
@[simp] theorem readPlaces_mem (s : State) (ps : List Place) : (s.readPlaces ps).2.mem = s.mem := by
  induction ps generalizing s with
  | nil => rfl
  | cons p r ih => simp [State.readPlaces, ih]

/-- Writing a place keeps the canonical form. -/
theorem wf_writePlace {s : State} (v : Byte) (p : Place) (h : s.mem.wf) : (s.writePlace v p).mem.wf := by
  cases p <;> first | exact h | exact wf_write _ _ h

/-- Writing places keeps the canonical form. -/
theorem wf_writePlaces {s : State} (ps : List Place) (bs : List Byte) (h : s.mem.wf) : (s.writePlaces ps bs).mem.wf := by
  induction ps generalizing s bs with
  | nil => cases bs <;> exact h
  | cons p r ih =>
    cases bs with
    | nil => exact h
    | cons b bs => exact ih _ (wf_writePlace _ _ h)

/-- A read access leaves memory as it is. -/
@[simp] theorem plainRead_mem (s : State) (ps : List Place) : (s.plainRead ps).2.mem = s.mem := by
  simp [State.plainRead]

/-- A write access keeps the canonical form. -/
theorem wf_plainWrite {s : State} (a : Addr24) (sz : Size) (v : Long) (ps : List Place) (h : s.mem.wf) :
    (s.plainWrite a sz v ps).mem.wf := by
  rw [State.plainWrite]
  split
  · exact wf_writePlaces _ _ h
  · exact wf_writePlaces _ _ h

/-- A write access changes no byte but those at the keys of its places. -/
theorem plainWrite_other {s : State} (a : Addr24) (sz : Size) (v : Long) (ps : List Place) (k : Nat)
    (h : s.mem.wf) (hk : ∀ p ∈ ps, p.key ≠ some k) : (s.plainWrite a sz v ps).mem.read k = s.mem.read k := by
  have key : ∀ (ps : List Place) (bs : List Byte) (s : State), s.mem.wf → (∀ p ∈ ps, p.key ≠ some k) →
      (s.writePlaces ps bs).mem.read k = s.mem.read k := by
    intro ps
    induction ps with
    | nil => intro bs s _ _; cases bs <;> rfl
    | cons p r ih =>
      intro bs s h hk
      cases bs with
      | nil => rfl
      | cons b bs =>
        rw [State.writePlaces, ih bs _ (wf_writePlace _ _ h) fun q hq => hk q (List.mem_cons_of_mem _ hq)]
        have hp := hk p (by simp)
        cases p <;> first
          | rfl
          | exact read_write_other _ _ _ _ h.1 fun e => hp (by rw [e]; rfl)
  rw [State.plainWrite]
  split
  · exact key _ _ _ h hk
  · exact key _ _ _ h hk

end Sys2Proof.Laws
end

