-- ==== Sys2Proof/Laws/State.lean ====
section
/-! SUPPORT. The fields of the state after each update: one lemma per field per update. -/

namespace Sys2Proof.Laws

open Sys2Proof.Machine

/-! ### M68K registers -/

@[simp] theorem setD_a (m : M68k) (n : Reg) (v : Long) : (m.setD n v).a = m.a := rfl
@[simp] theorem setD_osp (m : M68k) (n : Reg) (v : Long) : (m.setD n v).osp = m.osp := rfl
@[simp] theorem setD_pc (m : M68k) (n : Reg) (v : Long) : (m.setD n v).pc = m.pc := rfl
@[simp] theorem setD_sr (m : M68k) (n : Reg) (v : Long) : (m.setD n v).sr = m.sr := rfl
@[simp] theorem setD_run (m : M68k) (n : Reg) (v : Long) : (m.setD n v).run = m.run := rfl
@[simp] theorem setD_cyc (m : M68k) (n : Reg) (v : Long) : (m.setD n v).cyc = m.cyc := rfl
@[simp] theorem setD_draws (m : M68k) (n : Reg) (v : Long) : (m.setD n v).draws = m.draws := rfl
@[simp] theorem setA_d (m : M68k) (n : Reg) (v : Long) : (m.setA n v).d = m.d := rfl
@[simp] theorem setA_osp (m : M68k) (n : Reg) (v : Long) : (m.setA n v).osp = m.osp := rfl
@[simp] theorem setA_pc (m : M68k) (n : Reg) (v : Long) : (m.setA n v).pc = m.pc := rfl
@[simp] theorem setA_sr (m : M68k) (n : Reg) (v : Long) : (m.setA n v).sr = m.sr := rfl
@[simp] theorem setA_run (m : M68k) (n : Reg) (v : Long) : (m.setA n v).run = m.run := rfl
@[simp] theorem setA_cyc (m : M68k) (n : Reg) (v : Long) : (m.setA n v).cyc = m.cyc := rfl
@[simp] theorem setA_draws (m : M68k) (n : Reg) (v : Long) : (m.setA n v).draws = m.draws := rfl
@[simp] theorem setDPart_a (m : M68k) (n : Reg) (sz : Size) (v : BitVec sz.bits) : (m.setDPart n sz v).a = m.a := rfl
@[simp] theorem setDPart_osp (m : M68k) (n : Reg) (sz : Size) (v : BitVec sz.bits) : (m.setDPart n sz v).osp = m.osp := rfl
@[simp] theorem setDPart_pc (m : M68k) (n : Reg) (sz : Size) (v : BitVec sz.bits) : (m.setDPart n sz v).pc = m.pc := rfl
@[simp] theorem setDPart_sr (m : M68k) (n : Reg) (sz : Size) (v : BitVec sz.bits) : (m.setDPart n sz v).sr = m.sr := rfl
@[simp] theorem setDPart_run (m : M68k) (n : Reg) (sz : Size) (v : BitVec sz.bits) : (m.setDPart n sz v).run = m.run := rfl
@[simp] theorem setDPart_cyc (m : M68k) (n : Reg) (sz : Size) (v : BitVec sz.bits) : (m.setDPart n sz v).cyc = m.cyc := rfl
@[simp] theorem setDPart_draws (m : M68k) (n : Reg) (sz : Size) (v : BitVec sz.bits) : (m.setDPart n sz v).draws = m.draws := rfl
@[simp] theorem setSp_d (m : M68k) (v : Long) : (m.setSp v).d = m.d := rfl
@[simp] theorem setSp_osp (m : M68k) (v : Long) : (m.setSp v).osp = m.osp := rfl
@[simp] theorem setSp_pc (m : M68k) (v : Long) : (m.setSp v).pc = m.pc := rfl
@[simp] theorem setSp_sr (m : M68k) (v : Long) : (m.setSp v).sr = m.sr := rfl
@[simp] theorem setSp_run (m : M68k) (v : Long) : (m.setSp v).run = m.run := rfl
@[simp] theorem setSp_cyc (m : M68k) (v : Long) : (m.setSp v).cyc = m.cyc := rfl
@[simp] theorem setSp_draws (m : M68k) (v : Long) : (m.setSp v).draws = m.draws := rfl
@[simp] theorem setCcr_d (m : M68k) (f : Ccr) : (m.setCcr f).d = m.d := rfl
@[simp] theorem setCcr_a (m : M68k) (f : Ccr) : (m.setCcr f).a = m.a := rfl
@[simp] theorem setCcr_osp (m : M68k) (f : Ccr) : (m.setCcr f).osp = m.osp := rfl
@[simp] theorem setCcr_pc (m : M68k) (f : Ccr) : (m.setCcr f).pc = m.pc := rfl
@[simp] theorem setCcr_run (m : M68k) (f : Ccr) : (m.setCcr f).run = m.run := rfl
@[simp] theorem setCcr_cyc (m : M68k) (f : Ccr) : (m.setCcr f).cyc = m.cyc := rfl
@[simp] theorem setCcr_draws (m : M68k) (f : Ccr) : (m.setCcr f).draws = m.draws := rfl
@[simp] theorem skip_d (m : M68k) (k : Nat) : (m.skip k).d = m.d := rfl
@[simp] theorem skip_a (m : M68k) (k : Nat) : (m.skip k).a = m.a := rfl
@[simp] theorem skip_osp (m : M68k) (k : Nat) : (m.skip k).osp = m.osp := rfl
@[simp] theorem skip_sr (m : M68k) (k : Nat) : (m.skip k).sr = m.sr := rfl
@[simp] theorem skip_run (m : M68k) (k : Nat) : (m.skip k).run = m.run := rfl
@[simp] theorem skip_cyc (m : M68k) (k : Nat) : (m.skip k).cyc = m.cyc := rfl
@[simp] theorem skip_draws (m : M68k) (k : Nat) : (m.skip k).draws = m.draws := rfl
@[simp] theorem spend_d (m : M68k) (k : Cost68k) : (m.spend k).d = m.d := rfl
@[simp] theorem spend_a (m : M68k) (k : Cost68k) : (m.spend k).a = m.a := rfl
@[simp] theorem spend_osp (m : M68k) (k : Cost68k) : (m.spend k).osp = m.osp := rfl
@[simp] theorem spend_pc (m : M68k) (k : Cost68k) : (m.spend k).pc = m.pc := rfl
@[simp] theorem spend_sr (m : M68k) (k : Cost68k) : (m.spend k).sr = m.sr := rfl
@[simp] theorem spend_run (m : M68k) (k : Cost68k) : (m.spend k).run = m.run := rfl
@[simp] theorem spend_draws (m : M68k) (k : Cost68k) : (m.spend k).draws = m.draws := rfl
@[simp] theorem setMask_d (m : M68k) (l : BitVec 3) : (m.setMask l).d = m.d := rfl
@[simp] theorem setMask_a (m : M68k) (l : BitVec 3) : (m.setMask l).a = m.a := rfl
@[simp] theorem setMask_osp (m : M68k) (l : BitVec 3) : (m.setMask l).osp = m.osp := rfl
@[simp] theorem setMask_pc (m : M68k) (l : BitVec 3) : (m.setMask l).pc = m.pc := rfl
@[simp] theorem setMask_run (m : M68k) (l : BitVec 3) : (m.setMask l).run = m.run := rfl
@[simp] theorem setMask_cyc (m : M68k) (l : BitVec 3) : (m.setMask l).cyc = m.cyc := rfl
@[simp] theorem setMask_draws (m : M68k) (l : BitVec 3) : (m.setMask l).draws = m.draws := rfl
@[simp] theorem swapStacks_d (m : M68k) : (m.swapStacks).d = m.d := rfl
@[simp] theorem swapStacks_pc (m : M68k) : (m.swapStacks).pc = m.pc := rfl
@[simp] theorem swapStacks_sr (m : M68k) : (m.swapStacks).sr = m.sr := rfl
@[simp] theorem swapStacks_run (m : M68k) : (m.swapStacks).run = m.run := rfl
@[simp] theorem swapStacks_cyc (m : M68k) : (m.swapStacks).cyc = m.cyc := rfl
@[simp] theorem swapStacks_draws (m : M68k) : (m.swapStacks).draws = m.draws := rfl
@[simp] theorem setD_sp (m : M68k) (n : Reg) (v : Long) : (m.setD n v).sp = m.sp := rfl
@[simp] theorem setD_ccr (m : M68k) (n : Reg) (v : Long) : (m.setD n v).ccr = m.ccr := rfl
@[simp] theorem setD_getSr (m : M68k) (n : Reg) (v : Long) : (m.setD n v).getSr = m.getSr := rfl
@[simp] theorem setD_super (m : M68k) (n : Reg) (v : Long) : (m.setD n v).super = m.super := rfl
@[simp] theorem setD_trace (m : M68k) (n : Reg) (v : Long) : (m.setD n v).trace = m.trace := rfl
@[simp] theorem setD_mask (m : M68k) (n : Reg) (v : Long) : (m.setD n v).mask = m.mask := rfl
@[simp] theorem setD_areg (m : M68k) (n : Reg) (v : Long) (j : Reg) : (m.setD n v).areg j = m.areg j := rfl
@[simp] theorem setA_ccr (m : M68k) (n : Reg) (v : Long) : (m.setA n v).ccr = m.ccr := rfl
@[simp] theorem setA_getSr (m : M68k) (n : Reg) (v : Long) : (m.setA n v).getSr = m.getSr := rfl
@[simp] theorem setA_super (m : M68k) (n : Reg) (v : Long) : (m.setA n v).super = m.super := rfl
@[simp] theorem setA_trace (m : M68k) (n : Reg) (v : Long) : (m.setA n v).trace = m.trace := rfl
@[simp] theorem setA_mask (m : M68k) (n : Reg) (v : Long) : (m.setA n v).mask = m.mask := rfl
@[simp] theorem setA_dreg (m : M68k) (n : Reg) (v : Long) (j : Reg) : (m.setA n v).dreg j = m.dreg j := rfl
@[simp] theorem setDPart_sp (m : M68k) (n : Reg) (sz : Size) (v : BitVec sz.bits) : (m.setDPart n sz v).sp = m.sp := rfl
@[simp] theorem setDPart_ccr (m : M68k) (n : Reg) (sz : Size) (v : BitVec sz.bits) : (m.setDPart n sz v).ccr = m.ccr := rfl
@[simp] theorem setDPart_getSr (m : M68k) (n : Reg) (sz : Size) (v : BitVec sz.bits) : (m.setDPart n sz v).getSr = m.getSr := rfl
@[simp] theorem setDPart_super (m : M68k) (n : Reg) (sz : Size) (v : BitVec sz.bits) : (m.setDPart n sz v).super = m.super := rfl
@[simp] theorem setDPart_trace (m : M68k) (n : Reg) (sz : Size) (v : BitVec sz.bits) : (m.setDPart n sz v).trace = m.trace := rfl
@[simp] theorem setDPart_mask (m : M68k) (n : Reg) (sz : Size) (v : BitVec sz.bits) : (m.setDPart n sz v).mask = m.mask := rfl
@[simp] theorem setDPart_areg (m : M68k) (n : Reg) (sz : Size) (v : BitVec sz.bits) (j : Reg) : (m.setDPart n sz v).areg j = m.areg j := rfl
@[simp] theorem setSp_ccr (m : M68k) (v : Long) : (m.setSp v).ccr = m.ccr := rfl
@[simp] theorem setSp_getSr (m : M68k) (v : Long) : (m.setSp v).getSr = m.getSr := rfl
@[simp] theorem setSp_super (m : M68k) (v : Long) : (m.setSp v).super = m.super := rfl
@[simp] theorem setSp_trace (m : M68k) (v : Long) : (m.setSp v).trace = m.trace := rfl
@[simp] theorem setSp_mask (m : M68k) (v : Long) : (m.setSp v).mask = m.mask := rfl
@[simp] theorem setSp_dreg (m : M68k) (v : Long) (j : Reg) : (m.setSp v).dreg j = m.dreg j := rfl
@[simp] theorem setCcr_sp (m : M68k) (f : Ccr) : (m.setCcr f).sp = m.sp := rfl
@[simp] theorem setCcr_super (m : M68k) (f : Ccr) : (m.setCcr f).super = m.super := rfl
@[simp] theorem setCcr_trace (m : M68k) (f : Ccr) : (m.setCcr f).trace = m.trace := rfl
@[simp] theorem setCcr_mask (m : M68k) (f : Ccr) : (m.setCcr f).mask = m.mask := rfl
@[simp] theorem setCcr_dreg (m : M68k) (f : Ccr) (j : Reg) : (m.setCcr f).dreg j = m.dreg j := rfl
@[simp] theorem setCcr_areg (m : M68k) (f : Ccr) (j : Reg) : (m.setCcr f).areg j = m.areg j := rfl
@[simp] theorem skip_sp (m : M68k) (k : Nat) : (m.skip k).sp = m.sp := rfl
@[simp] theorem skip_ccr (m : M68k) (k : Nat) : (m.skip k).ccr = m.ccr := rfl
@[simp] theorem skip_getSr (m : M68k) (k : Nat) : (m.skip k).getSr = m.getSr := rfl
@[simp] theorem skip_super (m : M68k) (k : Nat) : (m.skip k).super = m.super := rfl
@[simp] theorem skip_trace (m : M68k) (k : Nat) : (m.skip k).trace = m.trace := rfl
@[simp] theorem skip_mask (m : M68k) (k : Nat) : (m.skip k).mask = m.mask := rfl
@[simp] theorem skip_dreg (m : M68k) (k : Nat) (j : Reg) : (m.skip k).dreg j = m.dreg j := rfl
@[simp] theorem skip_areg (m : M68k) (k : Nat) (j : Reg) : (m.skip k).areg j = m.areg j := rfl
@[simp] theorem spend_sp (m : M68k) (k : Cost68k) : (m.spend k).sp = m.sp := rfl
@[simp] theorem spend_ccr (m : M68k) (k : Cost68k) : (m.spend k).ccr = m.ccr := rfl
@[simp] theorem spend_getSr (m : M68k) (k : Cost68k) : (m.spend k).getSr = m.getSr := rfl
@[simp] theorem spend_super (m : M68k) (k : Cost68k) : (m.spend k).super = m.super := rfl
@[simp] theorem spend_trace (m : M68k) (k : Cost68k) : (m.spend k).trace = m.trace := rfl
@[simp] theorem spend_mask (m : M68k) (k : Cost68k) : (m.spend k).mask = m.mask := rfl
@[simp] theorem spend_dreg (m : M68k) (k : Cost68k) (j : Reg) : (m.spend k).dreg j = m.dreg j := rfl
@[simp] theorem spend_areg (m : M68k) (k : Cost68k) (j : Reg) : (m.spend k).areg j = m.areg j := rfl
@[simp] theorem setMask_sp (m : M68k) (l : BitVec 3) : (m.setMask l).sp = m.sp := rfl
@[simp] theorem setMask_ccr (m : M68k) (l : BitVec 3) : (m.setMask l).ccr = m.ccr := rfl
@[simp] theorem setMask_super (m : M68k) (l : BitVec 3) : (m.setMask l).super = m.super := rfl
@[simp] theorem setMask_trace (m : M68k) (l : BitVec 3) : (m.setMask l).trace = m.trace := rfl
@[simp] theorem setMask_dreg (m : M68k) (l : BitVec 3) (j : Reg) : (m.setMask l).dreg j = m.dreg j := rfl
@[simp] theorem setMask_areg (m : M68k) (l : BitVec 3) (j : Reg) : (m.setMask l).areg j = m.areg j := rfl
@[simp] theorem swapStacks_ccr (m : M68k) : (m.swapStacks).ccr = m.ccr := rfl
@[simp] theorem swapStacks_getSr (m : M68k) : (m.swapStacks).getSr = m.getSr := rfl
@[simp] theorem swapStacks_super (m : M68k) : (m.swapStacks).super = m.super := rfl
@[simp] theorem swapStacks_trace (m : M68k) : (m.swapStacks).trace = m.trace := rfl
@[simp] theorem swapStacks_mask (m : M68k) : (m.swapStacks).mask = m.mask := rfl
@[simp] theorem swapStacks_dreg (m : M68k) (j : Reg) : (m.swapStacks).dreg j = m.dreg j := rfl

/-- A data register after a write of one. -/
theorem dreg_setD (m : M68k) (n k : Reg) (v : Long) : (m.setD n v).dreg k = if n = k then v else m.dreg k := by
  simp only [M68k.dreg, M68k.setD, Vector.getElem_set, BitVec.toNat_inj]

/-- An address register after a write of one. -/
theorem areg_setA (m : M68k) (n k : Reg) (v : Long) : (m.setA n v).areg k = if n = k then v else m.areg k := by
  simp only [M68k.areg, M68k.setA, Vector.getElem_set, BitVec.toNat_inj]

@[simp] theorem setD_dreg_self (m : M68k) (n : Reg) (v : Long) : (m.setD n v).dreg n = v := by simp [dreg_setD]

@[simp] theorem setA_areg_self (m : M68k) (n : Reg) (v : Long) : (m.setA n v).areg n = v := by simp [areg_setA]

@[simp] theorem setDPart_dreg_self (m : M68k) (n : Reg) (sz : Size) (v : BitVec sz.bits) :
    (m.setDPart n sz v).dreg n = mergeLow sz (m.dreg n) v := by simp [M68k.setDPart]

@[simp] theorem setSp_sp (m : M68k) (v : Long) : (m.setSp v).sp = v := by simp [M68k.setSp, M68k.sp]

@[simp] theorem setCcr_ccr (m : M68k) (f : Ccr) : (m.setCcr f).ccr = f := rfl

@[simp] theorem skip_skip (m : M68k) (j k : Nat) : (m.skip j).skip k = m.skip (j + k) := by
  simp [M68k.skip, Nat.mul_add, BitVec.add_assoc, BitVec.ofNat_add]

/-- A full write then a partial one keeps only the bits above. -/
theorem setD_setD (m : M68k) (n : Reg) (v w : Long) : (m.setD n v).setD n w = m.setD n w := by
  simp [M68k.setD, Vector.set_set]

/-! ### Z80 registers -/

@[simp] theorem setReg_f (z : Z80) (r : ZReg) (v : Byte) : (z.setReg r v).f = z.f := by cases r <;> rfl
@[simp] theorem setReg_a' (z : Z80) (r : ZReg) (v : Byte) : (z.setReg r v).a' = z.a' := by cases r <;> rfl
@[simp] theorem setReg_f' (z : Z80) (r : ZReg) (v : Byte) : (z.setReg r v).f' = z.f' := by cases r <;> rfl
@[simp] theorem setReg_b' (z : Z80) (r : ZReg) (v : Byte) : (z.setReg r v).b' = z.b' := by cases r <;> rfl
@[simp] theorem setReg_c' (z : Z80) (r : ZReg) (v : Byte) : (z.setReg r v).c' = z.c' := by cases r <;> rfl
@[simp] theorem setReg_d' (z : Z80) (r : ZReg) (v : Byte) : (z.setReg r v).d' = z.d' := by cases r <;> rfl
@[simp] theorem setReg_e' (z : Z80) (r : ZReg) (v : Byte) : (z.setReg r v).e' = z.e' := by cases r <;> rfl
@[simp] theorem setReg_h' (z : Z80) (r : ZReg) (v : Byte) : (z.setReg r v).h' = z.h' := by cases r <;> rfl
@[simp] theorem setReg_l' (z : Z80) (r : ZReg) (v : Byte) : (z.setReg r v).l' = z.l' := by cases r <;> rfl
@[simp] theorem setReg_ix (z : Z80) (r : ZReg) (v : Byte) : (z.setReg r v).ix = z.ix := by cases r <;> rfl
@[simp] theorem setReg_iy (z : Z80) (r : ZReg) (v : Byte) : (z.setReg r v).iy = z.iy := by cases r <;> rfl
@[simp] theorem setReg_sp (z : Z80) (r : ZReg) (v : Byte) : (z.setReg r v).sp = z.sp := by cases r <;> rfl
@[simp] theorem setReg_pc (z : Z80) (r : ZReg) (v : Byte) : (z.setReg r v).pc = z.pc := by cases r <;> rfl
@[simp] theorem setReg_i (z : Z80) (r : ZReg) (v : Byte) : (z.setReg r v).i = z.i := by cases r <;> rfl
@[simp] theorem setReg_r (z : Z80) (r : ZReg) (v : Byte) : (z.setReg r v).r = z.r := by cases r <;> rfl
@[simp] theorem setReg_iff1 (z : Z80) (r : ZReg) (v : Byte) : (z.setReg r v).iff1 = z.iff1 := by cases r <;> rfl
@[simp] theorem setReg_iff2 (z : Z80) (r : ZReg) (v : Byte) : (z.setReg r v).iff2 = z.iff2 := by cases r <;> rfl
@[simp] theorem setReg_im (z : Z80) (r : ZReg) (v : Byte) : (z.setReg r v).im = z.im := by cases r <;> rfl
@[simp] theorem setReg_cooldown (z : Z80) (r : ZReg) (v : Byte) : (z.setReg r v).cooldown = z.cooldown := by cases r <;> rfl
@[simp] theorem setReg_halted (z : Z80) (r : ZReg) (v : Byte) : (z.setReg r v).halted = z.halted := by cases r <;> rfl
@[simp] theorem setReg_dcache (z : Z80) (r : ZReg) (v : Byte) : (z.setReg r v).dcache = z.dcache := by cases r <;> rfl
@[simp] theorem setReg_run (z : Z80) (r : ZReg) (v : Byte) : (z.setReg r v).run = z.run := by cases r <;> rfl
@[simp] theorem setReg_cyc (z : Z80) (r : ZReg) (v : Byte) : (z.setReg r v).cyc = z.cyc := by cases r <;> rfl
@[simp] theorem setReg_draws (z : Z80) (r : ZReg) (v : Byte) : (z.setReg r v).draws = z.draws := by cases r <;> rfl
@[simp] theorem setBc_a (z : Z80) (v : Word) : (z.setBc v).a = z.a := rfl
@[simp] theorem setBc_f (z : Z80) (v : Word) : (z.setBc v).f = z.f := rfl
@[simp] theorem setBc_d (z : Z80) (v : Word) : (z.setBc v).d = z.d := rfl
@[simp] theorem setBc_e (z : Z80) (v : Word) : (z.setBc v).e = z.e := rfl
@[simp] theorem setBc_h (z : Z80) (v : Word) : (z.setBc v).h = z.h := rfl
@[simp] theorem setBc_l (z : Z80) (v : Word) : (z.setBc v).l = z.l := rfl
@[simp] theorem setBc_a' (z : Z80) (v : Word) : (z.setBc v).a' = z.a' := rfl
@[simp] theorem setBc_f' (z : Z80) (v : Word) : (z.setBc v).f' = z.f' := rfl
@[simp] theorem setBc_b' (z : Z80) (v : Word) : (z.setBc v).b' = z.b' := rfl
@[simp] theorem setBc_c' (z : Z80) (v : Word) : (z.setBc v).c' = z.c' := rfl
@[simp] theorem setBc_d' (z : Z80) (v : Word) : (z.setBc v).d' = z.d' := rfl
@[simp] theorem setBc_e' (z : Z80) (v : Word) : (z.setBc v).e' = z.e' := rfl
@[simp] theorem setBc_h' (z : Z80) (v : Word) : (z.setBc v).h' = z.h' := rfl
@[simp] theorem setBc_l' (z : Z80) (v : Word) : (z.setBc v).l' = z.l' := rfl
@[simp] theorem setBc_ix (z : Z80) (v : Word) : (z.setBc v).ix = z.ix := rfl
@[simp] theorem setBc_iy (z : Z80) (v : Word) : (z.setBc v).iy = z.iy := rfl
@[simp] theorem setBc_sp (z : Z80) (v : Word) : (z.setBc v).sp = z.sp := rfl
@[simp] theorem setBc_pc (z : Z80) (v : Word) : (z.setBc v).pc = z.pc := rfl
@[simp] theorem setBc_i (z : Z80) (v : Word) : (z.setBc v).i = z.i := rfl
@[simp] theorem setBc_r (z : Z80) (v : Word) : (z.setBc v).r = z.r := rfl
@[simp] theorem setBc_iff1 (z : Z80) (v : Word) : (z.setBc v).iff1 = z.iff1 := rfl
@[simp] theorem setBc_iff2 (z : Z80) (v : Word) : (z.setBc v).iff2 = z.iff2 := rfl
@[simp] theorem setBc_im (z : Z80) (v : Word) : (z.setBc v).im = z.im := rfl
@[simp] theorem setBc_cooldown (z : Z80) (v : Word) : (z.setBc v).cooldown = z.cooldown := rfl
@[simp] theorem setBc_halted (z : Z80) (v : Word) : (z.setBc v).halted = z.halted := rfl
@[simp] theorem setBc_dcache (z : Z80) (v : Word) : (z.setBc v).dcache = z.dcache := rfl
@[simp] theorem setBc_run (z : Z80) (v : Word) : (z.setBc v).run = z.run := rfl
@[simp] theorem setBc_cyc (z : Z80) (v : Word) : (z.setBc v).cyc = z.cyc := rfl
@[simp] theorem setBc_draws (z : Z80) (v : Word) : (z.setBc v).draws = z.draws := rfl
@[simp] theorem setDe_a (z : Z80) (v : Word) : (z.setDe v).a = z.a := rfl
@[simp] theorem setDe_f (z : Z80) (v : Word) : (z.setDe v).f = z.f := rfl
@[simp] theorem setDe_b (z : Z80) (v : Word) : (z.setDe v).b = z.b := rfl
@[simp] theorem setDe_c (z : Z80) (v : Word) : (z.setDe v).c = z.c := rfl
@[simp] theorem setDe_h (z : Z80) (v : Word) : (z.setDe v).h = z.h := rfl
@[simp] theorem setDe_l (z : Z80) (v : Word) : (z.setDe v).l = z.l := rfl
@[simp] theorem setDe_a' (z : Z80) (v : Word) : (z.setDe v).a' = z.a' := rfl
@[simp] theorem setDe_f' (z : Z80) (v : Word) : (z.setDe v).f' = z.f' := rfl
@[simp] theorem setDe_b' (z : Z80) (v : Word) : (z.setDe v).b' = z.b' := rfl
@[simp] theorem setDe_c' (z : Z80) (v : Word) : (z.setDe v).c' = z.c' := rfl
@[simp] theorem setDe_d' (z : Z80) (v : Word) : (z.setDe v).d' = z.d' := rfl
@[simp] theorem setDe_e' (z : Z80) (v : Word) : (z.setDe v).e' = z.e' := rfl
@[simp] theorem setDe_h' (z : Z80) (v : Word) : (z.setDe v).h' = z.h' := rfl
@[simp] theorem setDe_l' (z : Z80) (v : Word) : (z.setDe v).l' = z.l' := rfl
@[simp] theorem setDe_ix (z : Z80) (v : Word) : (z.setDe v).ix = z.ix := rfl
@[simp] theorem setDe_iy (z : Z80) (v : Word) : (z.setDe v).iy = z.iy := rfl
@[simp] theorem setDe_sp (z : Z80) (v : Word) : (z.setDe v).sp = z.sp := rfl
@[simp] theorem setDe_pc (z : Z80) (v : Word) : (z.setDe v).pc = z.pc := rfl
@[simp] theorem setDe_i (z : Z80) (v : Word) : (z.setDe v).i = z.i := rfl
@[simp] theorem setDe_r (z : Z80) (v : Word) : (z.setDe v).r = z.r := rfl
@[simp] theorem setDe_iff1 (z : Z80) (v : Word) : (z.setDe v).iff1 = z.iff1 := rfl
@[simp] theorem setDe_iff2 (z : Z80) (v : Word) : (z.setDe v).iff2 = z.iff2 := rfl
@[simp] theorem setDe_im (z : Z80) (v : Word) : (z.setDe v).im = z.im := rfl
@[simp] theorem setDe_cooldown (z : Z80) (v : Word) : (z.setDe v).cooldown = z.cooldown := rfl
@[simp] theorem setDe_halted (z : Z80) (v : Word) : (z.setDe v).halted = z.halted := rfl
@[simp] theorem setDe_dcache (z : Z80) (v : Word) : (z.setDe v).dcache = z.dcache := rfl
@[simp] theorem setDe_run (z : Z80) (v : Word) : (z.setDe v).run = z.run := rfl
@[simp] theorem setDe_cyc (z : Z80) (v : Word) : (z.setDe v).cyc = z.cyc := rfl
@[simp] theorem setDe_draws (z : Z80) (v : Word) : (z.setDe v).draws = z.draws := rfl
@[simp] theorem setHl_a (z : Z80) (v : Word) : (z.setHl v).a = z.a := rfl
@[simp] theorem setHl_f (z : Z80) (v : Word) : (z.setHl v).f = z.f := rfl
@[simp] theorem setHl_b (z : Z80) (v : Word) : (z.setHl v).b = z.b := rfl
@[simp] theorem setHl_c (z : Z80) (v : Word) : (z.setHl v).c = z.c := rfl
@[simp] theorem setHl_d (z : Z80) (v : Word) : (z.setHl v).d = z.d := rfl
@[simp] theorem setHl_e (z : Z80) (v : Word) : (z.setHl v).e = z.e := rfl
@[simp] theorem setHl_a' (z : Z80) (v : Word) : (z.setHl v).a' = z.a' := rfl
@[simp] theorem setHl_f' (z : Z80) (v : Word) : (z.setHl v).f' = z.f' := rfl
@[simp] theorem setHl_b' (z : Z80) (v : Word) : (z.setHl v).b' = z.b' := rfl
@[simp] theorem setHl_c' (z : Z80) (v : Word) : (z.setHl v).c' = z.c' := rfl
@[simp] theorem setHl_d' (z : Z80) (v : Word) : (z.setHl v).d' = z.d' := rfl
@[simp] theorem setHl_e' (z : Z80) (v : Word) : (z.setHl v).e' = z.e' := rfl
@[simp] theorem setHl_h' (z : Z80) (v : Word) : (z.setHl v).h' = z.h' := rfl
@[simp] theorem setHl_l' (z : Z80) (v : Word) : (z.setHl v).l' = z.l' := rfl
@[simp] theorem setHl_ix (z : Z80) (v : Word) : (z.setHl v).ix = z.ix := rfl
@[simp] theorem setHl_iy (z : Z80) (v : Word) : (z.setHl v).iy = z.iy := rfl
@[simp] theorem setHl_sp (z : Z80) (v : Word) : (z.setHl v).sp = z.sp := rfl
@[simp] theorem setHl_pc (z : Z80) (v : Word) : (z.setHl v).pc = z.pc := rfl
@[simp] theorem setHl_i (z : Z80) (v : Word) : (z.setHl v).i = z.i := rfl
@[simp] theorem setHl_r (z : Z80) (v : Word) : (z.setHl v).r = z.r := rfl
@[simp] theorem setHl_iff1 (z : Z80) (v : Word) : (z.setHl v).iff1 = z.iff1 := rfl
@[simp] theorem setHl_iff2 (z : Z80) (v : Word) : (z.setHl v).iff2 = z.iff2 := rfl
@[simp] theorem setHl_im (z : Z80) (v : Word) : (z.setHl v).im = z.im := rfl
@[simp] theorem setHl_cooldown (z : Z80) (v : Word) : (z.setHl v).cooldown = z.cooldown := rfl
@[simp] theorem setHl_halted (z : Z80) (v : Word) : (z.setHl v).halted = z.halted := rfl
@[simp] theorem setHl_dcache (z : Z80) (v : Word) : (z.setHl v).dcache = z.dcache := rfl
@[simp] theorem setHl_run (z : Z80) (v : Word) : (z.setHl v).run = z.run := rfl
@[simp] theorem setHl_cyc (z : Z80) (v : Word) : (z.setHl v).cyc = z.cyc := rfl
@[simp] theorem setHl_draws (z : Z80) (v : Word) : (z.setHl v).draws = z.draws := rfl
@[simp] theorem setIdx_a (z : Z80) (x : Idx) (v : Word) : (z.setIdx x v).a = z.a := by cases x <;> rfl
@[simp] theorem setIdx_f (z : Z80) (x : Idx) (v : Word) : (z.setIdx x v).f = z.f := by cases x <;> rfl
@[simp] theorem setIdx_b (z : Z80) (x : Idx) (v : Word) : (z.setIdx x v).b = z.b := by cases x <;> rfl
@[simp] theorem setIdx_c (z : Z80) (x : Idx) (v : Word) : (z.setIdx x v).c = z.c := by cases x <;> rfl
@[simp] theorem setIdx_d (z : Z80) (x : Idx) (v : Word) : (z.setIdx x v).d = z.d := by cases x <;> rfl
@[simp] theorem setIdx_e (z : Z80) (x : Idx) (v : Word) : (z.setIdx x v).e = z.e := by cases x <;> rfl
@[simp] theorem setIdx_h (z : Z80) (x : Idx) (v : Word) : (z.setIdx x v).h = z.h := by cases x <;> rfl
@[simp] theorem setIdx_l (z : Z80) (x : Idx) (v : Word) : (z.setIdx x v).l = z.l := by cases x <;> rfl
@[simp] theorem setIdx_a' (z : Z80) (x : Idx) (v : Word) : (z.setIdx x v).a' = z.a' := by cases x <;> rfl
@[simp] theorem setIdx_f' (z : Z80) (x : Idx) (v : Word) : (z.setIdx x v).f' = z.f' := by cases x <;> rfl
@[simp] theorem setIdx_b' (z : Z80) (x : Idx) (v : Word) : (z.setIdx x v).b' = z.b' := by cases x <;> rfl
@[simp] theorem setIdx_c' (z : Z80) (x : Idx) (v : Word) : (z.setIdx x v).c' = z.c' := by cases x <;> rfl
@[simp] theorem setIdx_d' (z : Z80) (x : Idx) (v : Word) : (z.setIdx x v).d' = z.d' := by cases x <;> rfl
@[simp] theorem setIdx_e' (z : Z80) (x : Idx) (v : Word) : (z.setIdx x v).e' = z.e' := by cases x <;> rfl
@[simp] theorem setIdx_h' (z : Z80) (x : Idx) (v : Word) : (z.setIdx x v).h' = z.h' := by cases x <;> rfl
@[simp] theorem setIdx_l' (z : Z80) (x : Idx) (v : Word) : (z.setIdx x v).l' = z.l' := by cases x <;> rfl
@[simp] theorem setIdx_sp (z : Z80) (x : Idx) (v : Word) : (z.setIdx x v).sp = z.sp := by cases x <;> rfl
@[simp] theorem setIdx_pc (z : Z80) (x : Idx) (v : Word) : (z.setIdx x v).pc = z.pc := by cases x <;> rfl
@[simp] theorem setIdx_i (z : Z80) (x : Idx) (v : Word) : (z.setIdx x v).i = z.i := by cases x <;> rfl
@[simp] theorem setIdx_r (z : Z80) (x : Idx) (v : Word) : (z.setIdx x v).r = z.r := by cases x <;> rfl
@[simp] theorem setIdx_iff1 (z : Z80) (x : Idx) (v : Word) : (z.setIdx x v).iff1 = z.iff1 := by cases x <;> rfl
@[simp] theorem setIdx_iff2 (z : Z80) (x : Idx) (v : Word) : (z.setIdx x v).iff2 = z.iff2 := by cases x <;> rfl
@[simp] theorem setIdx_im (z : Z80) (x : Idx) (v : Word) : (z.setIdx x v).im = z.im := by cases x <;> rfl
@[simp] theorem setIdx_cooldown (z : Z80) (x : Idx) (v : Word) : (z.setIdx x v).cooldown = z.cooldown := by cases x <;> rfl
@[simp] theorem setIdx_halted (z : Z80) (x : Idx) (v : Word) : (z.setIdx x v).halted = z.halted := by cases x <;> rfl
@[simp] theorem setIdx_dcache (z : Z80) (x : Idx) (v : Word) : (z.setIdx x v).dcache = z.dcache := by cases x <;> rfl
@[simp] theorem setIdx_run (z : Z80) (x : Idx) (v : Word) : (z.setIdx x v).run = z.run := by cases x <;> rfl
@[simp] theorem setIdx_cyc (z : Z80) (x : Idx) (v : Word) : (z.setIdx x v).cyc = z.cyc := by cases x <;> rfl
@[simp] theorem setIdx_draws (z : Z80) (x : Idx) (v : Word) : (z.setIdx x v).draws = z.draws := by cases x <;> rfl
@[simp] theorem setPair_a (z : Z80) (p : ZPair) (v : Word) : (z.setPair p v).a = z.a := by cases p <;> rfl
@[simp] theorem setPair_f (z : Z80) (p : ZPair) (v : Word) : (z.setPair p v).f = z.f := by cases p <;> rfl
@[simp] theorem setPair_a' (z : Z80) (p : ZPair) (v : Word) : (z.setPair p v).a' = z.a' := by cases p <;> rfl
@[simp] theorem setPair_f' (z : Z80) (p : ZPair) (v : Word) : (z.setPair p v).f' = z.f' := by cases p <;> rfl
@[simp] theorem setPair_b' (z : Z80) (p : ZPair) (v : Word) : (z.setPair p v).b' = z.b' := by cases p <;> rfl
@[simp] theorem setPair_c' (z : Z80) (p : ZPair) (v : Word) : (z.setPair p v).c' = z.c' := by cases p <;> rfl
@[simp] theorem setPair_d' (z : Z80) (p : ZPair) (v : Word) : (z.setPair p v).d' = z.d' := by cases p <;> rfl
@[simp] theorem setPair_e' (z : Z80) (p : ZPair) (v : Word) : (z.setPair p v).e' = z.e' := by cases p <;> rfl
@[simp] theorem setPair_h' (z : Z80) (p : ZPair) (v : Word) : (z.setPair p v).h' = z.h' := by cases p <;> rfl
@[simp] theorem setPair_l' (z : Z80) (p : ZPair) (v : Word) : (z.setPair p v).l' = z.l' := by cases p <;> rfl
@[simp] theorem setPair_ix (z : Z80) (p : ZPair) (v : Word) : (z.setPair p v).ix = z.ix := by cases p <;> rfl
@[simp] theorem setPair_iy (z : Z80) (p : ZPair) (v : Word) : (z.setPair p v).iy = z.iy := by cases p <;> rfl
@[simp] theorem setPair_pc (z : Z80) (p : ZPair) (v : Word) : (z.setPair p v).pc = z.pc := by cases p <;> rfl
@[simp] theorem setPair_i (z : Z80) (p : ZPair) (v : Word) : (z.setPair p v).i = z.i := by cases p <;> rfl
@[simp] theorem setPair_r (z : Z80) (p : ZPair) (v : Word) : (z.setPair p v).r = z.r := by cases p <;> rfl
@[simp] theorem setPair_iff1 (z : Z80) (p : ZPair) (v : Word) : (z.setPair p v).iff1 = z.iff1 := by cases p <;> rfl
@[simp] theorem setPair_iff2 (z : Z80) (p : ZPair) (v : Word) : (z.setPair p v).iff2 = z.iff2 := by cases p <;> rfl
@[simp] theorem setPair_im (z : Z80) (p : ZPair) (v : Word) : (z.setPair p v).im = z.im := by cases p <;> rfl
@[simp] theorem setPair_cooldown (z : Z80) (p : ZPair) (v : Word) : (z.setPair p v).cooldown = z.cooldown := by cases p <;> rfl
@[simp] theorem setPair_halted (z : Z80) (p : ZPair) (v : Word) : (z.setPair p v).halted = z.halted := by cases p <;> rfl
@[simp] theorem setPair_dcache (z : Z80) (p : ZPair) (v : Word) : (z.setPair p v).dcache = z.dcache := by cases p <;> rfl
@[simp] theorem setPair_run (z : Z80) (p : ZPair) (v : Word) : (z.setPair p v).run = z.run := by cases p <;> rfl
@[simp] theorem setPair_cyc (z : Z80) (p : ZPair) (v : Word) : (z.setPair p v).cyc = z.cyc := by cases p <;> rfl
@[simp] theorem setPair_draws (z : Z80) (p : ZPair) (v : Word) : (z.setPair p v).draws = z.draws := by cases p <;> rfl
@[simp] theorem setPairQ_a' (z : Z80) (q : ZPairQ) (v : Word) : (z.setPairQ q v).a' = z.a' := by cases q <;> rfl
@[simp] theorem setPairQ_f' (z : Z80) (q : ZPairQ) (v : Word) : (z.setPairQ q v).f' = z.f' := by cases q <;> rfl
@[simp] theorem setPairQ_b' (z : Z80) (q : ZPairQ) (v : Word) : (z.setPairQ q v).b' = z.b' := by cases q <;> rfl
@[simp] theorem setPairQ_c' (z : Z80) (q : ZPairQ) (v : Word) : (z.setPairQ q v).c' = z.c' := by cases q <;> rfl
@[simp] theorem setPairQ_d' (z : Z80) (q : ZPairQ) (v : Word) : (z.setPairQ q v).d' = z.d' := by cases q <;> rfl
@[simp] theorem setPairQ_e' (z : Z80) (q : ZPairQ) (v : Word) : (z.setPairQ q v).e' = z.e' := by cases q <;> rfl
@[simp] theorem setPairQ_h' (z : Z80) (q : ZPairQ) (v : Word) : (z.setPairQ q v).h' = z.h' := by cases q <;> rfl
@[simp] theorem setPairQ_l' (z : Z80) (q : ZPairQ) (v : Word) : (z.setPairQ q v).l' = z.l' := by cases q <;> rfl
@[simp] theorem setPairQ_ix (z : Z80) (q : ZPairQ) (v : Word) : (z.setPairQ q v).ix = z.ix := by cases q <;> rfl
@[simp] theorem setPairQ_iy (z : Z80) (q : ZPairQ) (v : Word) : (z.setPairQ q v).iy = z.iy := by cases q <;> rfl
@[simp] theorem setPairQ_sp (z : Z80) (q : ZPairQ) (v : Word) : (z.setPairQ q v).sp = z.sp := by cases q <;> rfl
@[simp] theorem setPairQ_pc (z : Z80) (q : ZPairQ) (v : Word) : (z.setPairQ q v).pc = z.pc := by cases q <;> rfl
@[simp] theorem setPairQ_i (z : Z80) (q : ZPairQ) (v : Word) : (z.setPairQ q v).i = z.i := by cases q <;> rfl
@[simp] theorem setPairQ_r (z : Z80) (q : ZPairQ) (v : Word) : (z.setPairQ q v).r = z.r := by cases q <;> rfl
@[simp] theorem setPairQ_iff1 (z : Z80) (q : ZPairQ) (v : Word) : (z.setPairQ q v).iff1 = z.iff1 := by cases q <;> rfl
@[simp] theorem setPairQ_iff2 (z : Z80) (q : ZPairQ) (v : Word) : (z.setPairQ q v).iff2 = z.iff2 := by cases q <;> rfl
@[simp] theorem setPairQ_im (z : Z80) (q : ZPairQ) (v : Word) : (z.setPairQ q v).im = z.im := by cases q <;> rfl
@[simp] theorem setPairQ_cooldown (z : Z80) (q : ZPairQ) (v : Word) : (z.setPairQ q v).cooldown = z.cooldown := by cases q <;> rfl
@[simp] theorem setPairQ_halted (z : Z80) (q : ZPairQ) (v : Word) : (z.setPairQ q v).halted = z.halted := by cases q <;> rfl
@[simp] theorem setPairQ_dcache (z : Z80) (q : ZPairQ) (v : Word) : (z.setPairQ q v).dcache = z.dcache := by cases q <;> rfl
@[simp] theorem setPairQ_run (z : Z80) (q : ZPairQ) (v : Word) : (z.setPairQ q v).run = z.run := by cases q <;> rfl
@[simp] theorem setPairQ_cyc (z : Z80) (q : ZPairQ) (v : Word) : (z.setPairQ q v).cyc = z.cyc := by cases q <;> rfl
@[simp] theorem setPairQ_draws (z : Z80) (q : ZPairQ) (v : Word) : (z.setPairQ q v).draws = z.draws := by cases q <;> rfl
@[simp] theorem flagged_a (z : Z80) (f : ZFlags) : (z.flagged f).a = z.a := rfl
@[simp] theorem flagged_b (z : Z80) (f : ZFlags) : (z.flagged f).b = z.b := rfl
@[simp] theorem flagged_c (z : Z80) (f : ZFlags) : (z.flagged f).c = z.c := rfl
@[simp] theorem flagged_d (z : Z80) (f : ZFlags) : (z.flagged f).d = z.d := rfl
@[simp] theorem flagged_e (z : Z80) (f : ZFlags) : (z.flagged f).e = z.e := rfl
@[simp] theorem flagged_h (z : Z80) (f : ZFlags) : (z.flagged f).h = z.h := rfl
@[simp] theorem flagged_l (z : Z80) (f : ZFlags) : (z.flagged f).l = z.l := rfl
@[simp] theorem flagged_a' (z : Z80) (f : ZFlags) : (z.flagged f).a' = z.a' := rfl
@[simp] theorem flagged_f' (z : Z80) (f : ZFlags) : (z.flagged f).f' = z.f' := rfl
@[simp] theorem flagged_b' (z : Z80) (f : ZFlags) : (z.flagged f).b' = z.b' := rfl
@[simp] theorem flagged_c' (z : Z80) (f : ZFlags) : (z.flagged f).c' = z.c' := rfl
@[simp] theorem flagged_d' (z : Z80) (f : ZFlags) : (z.flagged f).d' = z.d' := rfl
@[simp] theorem flagged_e' (z : Z80) (f : ZFlags) : (z.flagged f).e' = z.e' := rfl
@[simp] theorem flagged_h' (z : Z80) (f : ZFlags) : (z.flagged f).h' = z.h' := rfl
@[simp] theorem flagged_l' (z : Z80) (f : ZFlags) : (z.flagged f).l' = z.l' := rfl
@[simp] theorem flagged_ix (z : Z80) (f : ZFlags) : (z.flagged f).ix = z.ix := rfl
@[simp] theorem flagged_iy (z : Z80) (f : ZFlags) : (z.flagged f).iy = z.iy := rfl
@[simp] theorem flagged_sp (z : Z80) (f : ZFlags) : (z.flagged f).sp = z.sp := rfl
@[simp] theorem flagged_pc (z : Z80) (f : ZFlags) : (z.flagged f).pc = z.pc := rfl
@[simp] theorem flagged_i (z : Z80) (f : ZFlags) : (z.flagged f).i = z.i := rfl
@[simp] theorem flagged_r (z : Z80) (f : ZFlags) : (z.flagged f).r = z.r := rfl
@[simp] theorem flagged_iff1 (z : Z80) (f : ZFlags) : (z.flagged f).iff1 = z.iff1 := rfl
@[simp] theorem flagged_iff2 (z : Z80) (f : ZFlags) : (z.flagged f).iff2 = z.iff2 := rfl
@[simp] theorem flagged_im (z : Z80) (f : ZFlags) : (z.flagged f).im = z.im := rfl
@[simp] theorem flagged_cooldown (z : Z80) (f : ZFlags) : (z.flagged f).cooldown = z.cooldown := rfl
@[simp] theorem flagged_halted (z : Z80) (f : ZFlags) : (z.flagged f).halted = z.halted := rfl
@[simp] theorem flagged_dcache (z : Z80) (f : ZFlags) : (z.flagged f).dcache = z.dcache := rfl
@[simp] theorem flagged_run (z : Z80) (f : ZFlags) : (z.flagged f).run = z.run := rfl
@[simp] theorem flagged_cyc (z : Z80) (f : ZFlags) : (z.flagged f).cyc = z.cyc := rfl
@[simp] theorem begin_a (z : Z80) (k : Nat) : (z.begin k).a = z.a := rfl
@[simp] theorem begin_f (z : Z80) (k : Nat) : (z.begin k).f = z.f := rfl
@[simp] theorem begin_b (z : Z80) (k : Nat) : (z.begin k).b = z.b := rfl
@[simp] theorem begin_c (z : Z80) (k : Nat) : (z.begin k).c = z.c := rfl
@[simp] theorem begin_d (z : Z80) (k : Nat) : (z.begin k).d = z.d := rfl
@[simp] theorem begin_e (z : Z80) (k : Nat) : (z.begin k).e = z.e := rfl
@[simp] theorem begin_h (z : Z80) (k : Nat) : (z.begin k).h = z.h := rfl
@[simp] theorem begin_l (z : Z80) (k : Nat) : (z.begin k).l = z.l := rfl
@[simp] theorem begin_a' (z : Z80) (k : Nat) : (z.begin k).a' = z.a' := rfl
@[simp] theorem begin_f' (z : Z80) (k : Nat) : (z.begin k).f' = z.f' := rfl
@[simp] theorem begin_b' (z : Z80) (k : Nat) : (z.begin k).b' = z.b' := rfl
@[simp] theorem begin_c' (z : Z80) (k : Nat) : (z.begin k).c' = z.c' := rfl
@[simp] theorem begin_d' (z : Z80) (k : Nat) : (z.begin k).d' = z.d' := rfl
@[simp] theorem begin_e' (z : Z80) (k : Nat) : (z.begin k).e' = z.e' := rfl
@[simp] theorem begin_h' (z : Z80) (k : Nat) : (z.begin k).h' = z.h' := rfl
@[simp] theorem begin_l' (z : Z80) (k : Nat) : (z.begin k).l' = z.l' := rfl
@[simp] theorem begin_ix (z : Z80) (k : Nat) : (z.begin k).ix = z.ix := rfl
@[simp] theorem begin_iy (z : Z80) (k : Nat) : (z.begin k).iy = z.iy := rfl
@[simp] theorem begin_sp (z : Z80) (k : Nat) : (z.begin k).sp = z.sp := rfl
@[simp] theorem begin_i (z : Z80) (k : Nat) : (z.begin k).i = z.i := rfl
@[simp] theorem begin_r (z : Z80) (k : Nat) : (z.begin k).r = z.r := rfl
@[simp] theorem begin_iff1 (z : Z80) (k : Nat) : (z.begin k).iff1 = z.iff1 := rfl
@[simp] theorem begin_iff2 (z : Z80) (k : Nat) : (z.begin k).iff2 = z.iff2 := rfl
@[simp] theorem begin_im (z : Z80) (k : Nat) : (z.begin k).im = z.im := rfl
@[simp] theorem begin_cooldown (z : Z80) (k : Nat) : (z.begin k).cooldown = z.cooldown := rfl
@[simp] theorem begin_halted (z : Z80) (k : Nat) : (z.begin k).halted = z.halted := rfl
@[simp] theorem begin_run (z : Z80) (k : Nat) : (z.begin k).run = z.run := rfl
@[simp] theorem begin_cyc (z : Z80) (k : Nat) : (z.begin k).cyc = z.cyc := rfl
@[simp] theorem begin_draws (z : Z80) (k : Nat) : (z.begin k).draws = z.draws := rfl
@[simp] theorem zspend_a (z : Z80) (k : CostZ80) : (z.spend k).a = z.a := rfl
@[simp] theorem zspend_f (z : Z80) (k : CostZ80) : (z.spend k).f = z.f := rfl
@[simp] theorem zspend_b (z : Z80) (k : CostZ80) : (z.spend k).b = z.b := rfl
@[simp] theorem zspend_c (z : Z80) (k : CostZ80) : (z.spend k).c = z.c := rfl
@[simp] theorem zspend_d (z : Z80) (k : CostZ80) : (z.spend k).d = z.d := rfl
@[simp] theorem zspend_e (z : Z80) (k : CostZ80) : (z.spend k).e = z.e := rfl
@[simp] theorem zspend_h (z : Z80) (k : CostZ80) : (z.spend k).h = z.h := rfl
@[simp] theorem zspend_l (z : Z80) (k : CostZ80) : (z.spend k).l = z.l := rfl
@[simp] theorem zspend_a' (z : Z80) (k : CostZ80) : (z.spend k).a' = z.a' := rfl
@[simp] theorem zspend_f' (z : Z80) (k : CostZ80) : (z.spend k).f' = z.f' := rfl
@[simp] theorem zspend_b' (z : Z80) (k : CostZ80) : (z.spend k).b' = z.b' := rfl
@[simp] theorem zspend_c' (z : Z80) (k : CostZ80) : (z.spend k).c' = z.c' := rfl
@[simp] theorem zspend_d' (z : Z80) (k : CostZ80) : (z.spend k).d' = z.d' := rfl
@[simp] theorem zspend_e' (z : Z80) (k : CostZ80) : (z.spend k).e' = z.e' := rfl
@[simp] theorem zspend_h' (z : Z80) (k : CostZ80) : (z.spend k).h' = z.h' := rfl
@[simp] theorem zspend_l' (z : Z80) (k : CostZ80) : (z.spend k).l' = z.l' := rfl
@[simp] theorem zspend_ix (z : Z80) (k : CostZ80) : (z.spend k).ix = z.ix := rfl
@[simp] theorem zspend_iy (z : Z80) (k : CostZ80) : (z.spend k).iy = z.iy := rfl
@[simp] theorem zspend_sp (z : Z80) (k : CostZ80) : (z.spend k).sp = z.sp := rfl
@[simp] theorem zspend_pc (z : Z80) (k : CostZ80) : (z.spend k).pc = z.pc := rfl
@[simp] theorem zspend_i (z : Z80) (k : CostZ80) : (z.spend k).i = z.i := rfl
@[simp] theorem zspend_r (z : Z80) (k : CostZ80) : (z.spend k).r = z.r := rfl
@[simp] theorem zspend_iff1 (z : Z80) (k : CostZ80) : (z.spend k).iff1 = z.iff1 := rfl
@[simp] theorem zspend_iff2 (z : Z80) (k : CostZ80) : (z.spend k).iff2 = z.iff2 := rfl
@[simp] theorem zspend_im (z : Z80) (k : CostZ80) : (z.spend k).im = z.im := rfl
@[simp] theorem zspend_cooldown (z : Z80) (k : CostZ80) : (z.spend k).cooldown = z.cooldown := rfl
@[simp] theorem zspend_halted (z : Z80) (k : CostZ80) : (z.spend k).halted = z.halted := rfl
@[simp] theorem zspend_dcache (z : Z80) (k : CostZ80) : (z.spend k).dcache = z.dcache := rfl
@[simp] theorem zspend_run (z : Z80) (k : CostZ80) : (z.spend k).run = z.run := rfl
@[simp] theorem zspend_draws (z : Z80) (k : CostZ80) : (z.spend k).draws = z.draws := rfl
@[simp] theorem setReg_flags (z : Z80) (r : ZReg) (v : Byte) : (z.setReg r v).flags = z.flags := by cases r <;> rfl
@[simp] theorem setReg_iffOk (z : Z80) (r : ZReg) (v : Byte) : (z.setReg r v).iffOk = z.iffOk := by cases r <;> rfl
@[simp] theorem setReg_idx (z : Z80) (r : ZReg) (v : Byte) (j : Idx) : (z.setReg r v).idx j = z.idx j := by cases j <;> cases r <;> rfl
@[simp] theorem setBc_hl (z : Z80) (v : Word) : (z.setBc v).hl = z.hl := rfl
@[simp] theorem setBc_de (z : Z80) (v : Word) : (z.setBc v).de = z.de := rfl
@[simp] theorem setBc_flags (z : Z80) (v : Word) : (z.setBc v).flags = z.flags := rfl
@[simp] theorem setBc_iffOk (z : Z80) (v : Word) : (z.setBc v).iffOk = z.iffOk := rfl
@[simp] theorem setBc_idx (z : Z80) (v : Word) (j : Idx) : (z.setBc v).idx j = z.idx j := by cases j <;> rfl
@[simp] theorem setDe_hl (z : Z80) (v : Word) : (z.setDe v).hl = z.hl := rfl
@[simp] theorem setDe_bc (z : Z80) (v : Word) : (z.setDe v).bc = z.bc := rfl
@[simp] theorem setDe_flags (z : Z80) (v : Word) : (z.setDe v).flags = z.flags := rfl
@[simp] theorem setDe_iffOk (z : Z80) (v : Word) : (z.setDe v).iffOk = z.iffOk := rfl
@[simp] theorem setDe_idx (z : Z80) (v : Word) (j : Idx) : (z.setDe v).idx j = z.idx j := by cases j <;> rfl
@[simp] theorem setHl_bc (z : Z80) (v : Word) : (z.setHl v).bc = z.bc := rfl
@[simp] theorem setHl_de (z : Z80) (v : Word) : (z.setHl v).de = z.de := rfl
@[simp] theorem setHl_flags (z : Z80) (v : Word) : (z.setHl v).flags = z.flags := rfl
@[simp] theorem setHl_iffOk (z : Z80) (v : Word) : (z.setHl v).iffOk = z.iffOk := rfl
@[simp] theorem setHl_idx (z : Z80) (v : Word) (j : Idx) : (z.setHl v).idx j = z.idx j := by cases j <;> rfl
@[simp] theorem setIdx_hl (z : Z80) (x : Idx) (v : Word) : (z.setIdx x v).hl = z.hl := by cases x <;> rfl
@[simp] theorem setIdx_bc (z : Z80) (x : Idx) (v : Word) : (z.setIdx x v).bc = z.bc := by cases x <;> rfl
@[simp] theorem setIdx_de (z : Z80) (x : Idx) (v : Word) : (z.setIdx x v).de = z.de := by cases x <;> rfl
@[simp] theorem setIdx_flags (z : Z80) (x : Idx) (v : Word) : (z.setIdx x v).flags = z.flags := by cases x <;> rfl
@[simp] theorem setIdx_iffOk (z : Z80) (x : Idx) (v : Word) : (z.setIdx x v).iffOk = z.iffOk := by cases x <;> rfl
@[simp] theorem setIdx_reg (z : Z80) (x : Idx) (v : Word) (j : ZReg) : (z.setIdx x v).reg j = z.reg j := by cases j <;> cases x <;> rfl
@[simp] theorem setPair_flags (z : Z80) (p : ZPair) (v : Word) : (z.setPair p v).flags = z.flags := by cases p <;> rfl
@[simp] theorem setPair_iffOk (z : Z80) (p : ZPair) (v : Word) : (z.setPair p v).iffOk = z.iffOk := by cases p <;> rfl
@[simp] theorem setPair_idx (z : Z80) (p : ZPair) (v : Word) (j : Idx) : (z.setPair p v).idx j = z.idx j := by cases j <;> cases p <;> rfl
@[simp] theorem setPairQ_iffOk (z : Z80) (q : ZPairQ) (v : Word) : (z.setPairQ q v).iffOk = z.iffOk := by cases q <;> rfl
@[simp] theorem setPairQ_idx (z : Z80) (q : ZPairQ) (v : Word) (j : Idx) : (z.setPairQ q v).idx j = z.idx j := by cases j <;> cases q <;> rfl
@[simp] theorem flagged_hl (z : Z80) (f : ZFlags) : (z.flagged f).hl = z.hl := rfl
@[simp] theorem flagged_bc (z : Z80) (f : ZFlags) : (z.flagged f).bc = z.bc := rfl
@[simp] theorem flagged_de (z : Z80) (f : ZFlags) : (z.flagged f).de = z.de := rfl
@[simp] theorem flagged_iffOk (z : Z80) (f : ZFlags) : (z.flagged f).iffOk = z.iffOk := rfl
@[simp] theorem flagged_reg (z : Z80) (f : ZFlags) (j : ZReg) : (z.flagged f).reg j = z.reg j := by cases j <;> rfl
@[simp] theorem flagged_idx (z : Z80) (f : ZFlags) (j : Idx) : (z.flagged f).idx j = z.idx j := by cases j <;> rfl
@[simp] theorem begin_hl (z : Z80) (k : Nat) : (z.begin k).hl = z.hl := rfl
@[simp] theorem begin_bc (z : Z80) (k : Nat) : (z.begin k).bc = z.bc := rfl
@[simp] theorem begin_de (z : Z80) (k : Nat) : (z.begin k).de = z.de := rfl
@[simp] theorem begin_flags (z : Z80) (k : Nat) : (z.begin k).flags = z.flags := rfl
@[simp] theorem begin_iffOk (z : Z80) (k : Nat) : (z.begin k).iffOk = z.iffOk := rfl
@[simp] theorem begin_reg (z : Z80) (k : Nat) (j : ZReg) : (z.begin k).reg j = z.reg j := by cases j <;> rfl
@[simp] theorem begin_idx (z : Z80) (k : Nat) (j : Idx) : (z.begin k).idx j = z.idx j := by cases j <;> rfl
@[simp] theorem zspend_hl (z : Z80) (k : CostZ80) : (z.spend k).hl = z.hl := rfl
@[simp] theorem zspend_bc (z : Z80) (k : CostZ80) : (z.spend k).bc = z.bc := rfl
@[simp] theorem zspend_de (z : Z80) (k : CostZ80) : (z.spend k).de = z.de := rfl
@[simp] theorem zspend_flags (z : Z80) (k : CostZ80) : (z.spend k).flags = z.flags := rfl
@[simp] theorem zspend_iffOk (z : Z80) (k : CostZ80) : (z.spend k).iffOk = z.iffOk := rfl
@[simp] theorem zspend_reg (z : Z80) (k : CostZ80) (j : ZReg) : (z.spend k).reg j = z.reg j := by cases j <;> rfl
@[simp] theorem zspend_idx (z : Z80) (k : CostZ80) (j : Idx) : (z.spend k).idx j = z.idx j := by cases j <;> rfl

@[simp] theorem flagged_flags (z : Z80) (f : ZFlags) : (z.flagged f).flags = f := rfl

@[simp] theorem setReg_reg (z : Z80) (r : ZReg) (v : Byte) : (z.setReg r v).reg r = v := by cases r <;> rfl

@[simp] theorem setIdx_idx (z : Z80) (x : Idx) (v : Word) : (z.setIdx x v).idx x = v := by cases x <;> rfl

/-- A pair is its two halves. -/
theorem halves (v : Word) : v.extractLsb' 8 8 ++ v.extractLsb' 0 8 = v := by
  apply BitVec.eq_of_getLsbD_eq
  intro i hi
  simp only [BitVec.getLsbD_append, BitVec.getLsbD_extractLsb']
  by_cases h : i < 8
  · simp [h]
  · simp [h, show i - 8 < 8 by omega, show 8 + (i - 8) = i by omega]

@[simp] theorem setHl_hl (z : Z80) (v : Word) : (z.setHl v).hl = v := halves v

@[simp] theorem setBc_bc (z : Z80) (v : Word) : (z.setBc v).bc = v := halves v

@[simp] theorem setDe_de (z : Z80) (v : Word) : (z.setDe v).de = v := halves v

/-! ### The state -/

@[simp] theorem mapM68k_z80 (s : State) (f : M68k → M68k) : (s.mapM68k f).z80 = s.z80 := rfl
@[simp] theorem mapM68k_wait68k (s : State) (f : M68k → M68k) : (s.mapM68k f).wait68k = s.wait68k := rfl
@[simp] theorem mapM68k_waitZ80 (s : State) (f : M68k → M68k) : (s.mapM68k f).waitZ80 = s.waitZ80 := rfl
@[simp] theorem mapM68k_bus (s : State) (f : M68k → M68k) : (s.mapM68k f).bus = s.bus := rfl
@[simp] theorem mapM68k_mem (s : State) (f : M68k → M68k) : (s.mapM68k f).mem = s.mem := rfl
@[simp] theorem mapM68k_launch (s : State) (f : M68k → M68k) : (s.mapM68k f).launch = s.launch := rfl
@[simp] theorem mapM68k_refusedMarks (s : State) (f : M68k → M68k) : (s.mapM68k f).refusedMarks = s.refusedMarks := rfl
@[simp] theorem mapM68k_faultedMarks (s : State) (f : M68k → M68k) : (s.mapM68k f).faultedMarks = s.faultedMarks := rfl
@[simp] theorem mapM68k_events (s : State) (f : M68k → M68k) : (s.mapM68k f).events = s.events := rfl
@[simp] theorem mapM68k_schedule (s : State) (f : M68k → M68k) : (s.mapM68k f).schedule = s.schedule := rfl
@[simp] theorem mapM68k_turns (s : State) (f : M68k → M68k) : (s.mapM68k f).turns = s.turns := rfl
@[simp] theorem mapM68k_fairDue (s : State) (f : M68k → M68k) : (s.mapM68k f).fairDue = s.fairDue := rfl
@[simp] theorem mapZ80_m68k (s : State) (f : Z80 → Z80) : (s.mapZ80 f).m68k = s.m68k := rfl
@[simp] theorem mapZ80_wait68k (s : State) (f : Z80 → Z80) : (s.mapZ80 f).wait68k = s.wait68k := rfl
@[simp] theorem mapZ80_waitZ80 (s : State) (f : Z80 → Z80) : (s.mapZ80 f).waitZ80 = s.waitZ80 := rfl
@[simp] theorem mapZ80_bus (s : State) (f : Z80 → Z80) : (s.mapZ80 f).bus = s.bus := rfl
@[simp] theorem mapZ80_mem (s : State) (f : Z80 → Z80) : (s.mapZ80 f).mem = s.mem := rfl
@[simp] theorem mapZ80_launch (s : State) (f : Z80 → Z80) : (s.mapZ80 f).launch = s.launch := rfl
@[simp] theorem mapZ80_refusedMarks (s : State) (f : Z80 → Z80) : (s.mapZ80 f).refusedMarks = s.refusedMarks := rfl
@[simp] theorem mapZ80_faultedMarks (s : State) (f : Z80 → Z80) : (s.mapZ80 f).faultedMarks = s.faultedMarks := rfl
@[simp] theorem mapZ80_events (s : State) (f : Z80 → Z80) : (s.mapZ80 f).events = s.events := rfl
@[simp] theorem mapZ80_schedule (s : State) (f : Z80 → Z80) : (s.mapZ80 f).schedule = s.schedule := rfl
@[simp] theorem mapZ80_turns (s : State) (f : Z80 → Z80) : (s.mapZ80 f).turns = s.turns := rfl
@[simp] theorem mapZ80_fairDue (s : State) (f : Z80 → Z80) : (s.mapZ80 f).fairDue = s.fairDue := rfl
@[simp] theorem mapBus_m68k (s : State) (f : Bus → Bus) : (s.mapBus f).m68k = s.m68k := rfl
@[simp] theorem mapBus_z80 (s : State) (f : Bus → Bus) : (s.mapBus f).z80 = s.z80 := rfl
@[simp] theorem mapBus_wait68k (s : State) (f : Bus → Bus) : (s.mapBus f).wait68k = s.wait68k := rfl
@[simp] theorem mapBus_waitZ80 (s : State) (f : Bus → Bus) : (s.mapBus f).waitZ80 = s.waitZ80 := rfl
@[simp] theorem mapBus_mem (s : State) (f : Bus → Bus) : (s.mapBus f).mem = s.mem := rfl
@[simp] theorem mapBus_launch (s : State) (f : Bus → Bus) : (s.mapBus f).launch = s.launch := rfl
@[simp] theorem mapBus_refusedMarks (s : State) (f : Bus → Bus) : (s.mapBus f).refusedMarks = s.refusedMarks := rfl
@[simp] theorem mapBus_faultedMarks (s : State) (f : Bus → Bus) : (s.mapBus f).faultedMarks = s.faultedMarks := rfl
@[simp] theorem mapBus_events (s : State) (f : Bus → Bus) : (s.mapBus f).events = s.events := rfl
@[simp] theorem mapBus_schedule (s : State) (f : Bus → Bus) : (s.mapBus f).schedule = s.schedule := rfl
@[simp] theorem mapBus_turns (s : State) (f : Bus → Bus) : (s.mapBus f).turns = s.turns := rfl
@[simp] theorem mapBus_fairDue (s : State) (f : Bus → Bus) : (s.mapBus f).fairDue = s.fairDue := rfl
@[simp] theorem record_m68k (s : State) (e : Event) : (s.record e).m68k = s.m68k := rfl
@[simp] theorem record_z80 (s : State) (e : Event) : (s.record e).z80 = s.z80 := rfl
@[simp] theorem record_wait68k (s : State) (e : Event) : (s.record e).wait68k = s.wait68k := rfl
@[simp] theorem record_waitZ80 (s : State) (e : Event) : (s.record e).waitZ80 = s.waitZ80 := rfl
@[simp] theorem record_bus (s : State) (e : Event) : (s.record e).bus = s.bus := rfl
@[simp] theorem record_mem (s : State) (e : Event) : (s.record e).mem = s.mem := rfl
@[simp] theorem record_launch (s : State) (e : Event) : (s.record e).launch = s.launch := rfl
@[simp] theorem record_refusedMarks (s : State) (e : Event) : (s.record e).refusedMarks = s.refusedMarks := rfl
@[simp] theorem record_faultedMarks (s : State) (e : Event) : (s.record e).faultedMarks = s.faultedMarks := rfl
@[simp] theorem record_schedule (s : State) (e : Event) : (s.record e).schedule = s.schedule := rfl
@[simp] theorem record_turns (s : State) (e : Event) : (s.record e).turns = s.turns := rfl
@[simp] theorem record_fairDue (s : State) (e : Event) : (s.record e).fairDue = s.fairDue := rfl
@[simp] theorem markFault_m68k (s : State) (ag : Agent) (r : FaultReason) : (s.markFault ag r).m68k = s.m68k := rfl
@[simp] theorem markFault_z80 (s : State) (ag : Agent) (r : FaultReason) : (s.markFault ag r).z80 = s.z80 := rfl
@[simp] theorem markFault_wait68k (s : State) (ag : Agent) (r : FaultReason) : (s.markFault ag r).wait68k = s.wait68k := rfl
@[simp] theorem markFault_waitZ80 (s : State) (ag : Agent) (r : FaultReason) : (s.markFault ag r).waitZ80 = s.waitZ80 := rfl
@[simp] theorem markFault_bus (s : State) (ag : Agent) (r : FaultReason) : (s.markFault ag r).bus = s.bus := rfl
@[simp] theorem markFault_mem (s : State) (ag : Agent) (r : FaultReason) : (s.markFault ag r).mem = s.mem := rfl
@[simp] theorem markFault_launch (s : State) (ag : Agent) (r : FaultReason) : (s.markFault ag r).launch = s.launch := rfl
@[simp] theorem markFault_refusedMarks (s : State) (ag : Agent) (r : FaultReason) : (s.markFault ag r).refusedMarks = s.refusedMarks := rfl
@[simp] theorem markFault_events (s : State) (ag : Agent) (r : FaultReason) : (s.markFault ag r).events = s.events := rfl
@[simp] theorem markFault_schedule (s : State) (ag : Agent) (r : FaultReason) : (s.markFault ag r).schedule = s.schedule := rfl
@[simp] theorem markFault_turns (s : State) (ag : Agent) (r : FaultReason) : (s.markFault ag r).turns = s.turns := rfl
@[simp] theorem markFault_fairDue (s : State) (ag : Agent) (r : FaultReason) : (s.markFault ag r).fairDue = s.fairDue := rfl
@[simp] theorem markRefused_m68k (s : State) (ag : Agent) (r : Refusal) : (s.markRefused ag r).m68k = s.m68k := rfl
@[simp] theorem markRefused_z80 (s : State) (ag : Agent) (r : Refusal) : (s.markRefused ag r).z80 = s.z80 := rfl
@[simp] theorem markRefused_wait68k (s : State) (ag : Agent) (r : Refusal) : (s.markRefused ag r).wait68k = s.wait68k := rfl
@[simp] theorem markRefused_waitZ80 (s : State) (ag : Agent) (r : Refusal) : (s.markRefused ag r).waitZ80 = s.waitZ80 := rfl
@[simp] theorem markRefused_bus (s : State) (ag : Agent) (r : Refusal) : (s.markRefused ag r).bus = s.bus := rfl
@[simp] theorem markRefused_mem (s : State) (ag : Agent) (r : Refusal) : (s.markRefused ag r).mem = s.mem := rfl
@[simp] theorem markRefused_launch (s : State) (ag : Agent) (r : Refusal) : (s.markRefused ag r).launch = s.launch := rfl
@[simp] theorem markRefused_faultedMarks (s : State) (ag : Agent) (r : Refusal) : (s.markRefused ag r).faultedMarks = s.faultedMarks := rfl
@[simp] theorem markRefused_events (s : State) (ag : Agent) (r : Refusal) : (s.markRefused ag r).events = s.events := rfl
@[simp] theorem markRefused_schedule (s : State) (ag : Agent) (r : Refusal) : (s.markRefused ag r).schedule = s.schedule := rfl
@[simp] theorem markRefused_turns (s : State) (ag : Agent) (r : Refusal) : (s.markRefused ag r).turns = s.turns := rfl
@[simp] theorem markRefused_fairDue (s : State) (ag : Agent) (r : Refusal) : (s.markRefused ag r).fairDue = s.fairDue := rfl
@[simp] theorem halt68k_z80 (s : State) (r : HaltReason) : (s.halt68k r).z80 = s.z80 := rfl
@[simp] theorem halt68k_wait68k (s : State) (r : HaltReason) : (s.halt68k r).wait68k = s.wait68k := rfl
@[simp] theorem halt68k_waitZ80 (s : State) (r : HaltReason) : (s.halt68k r).waitZ80 = s.waitZ80 := rfl
@[simp] theorem halt68k_bus (s : State) (r : HaltReason) : (s.halt68k r).bus = s.bus := rfl
@[simp] theorem halt68k_mem (s : State) (r : HaltReason) : (s.halt68k r).mem = s.mem := rfl
@[simp] theorem halt68k_launch (s : State) (r : HaltReason) : (s.halt68k r).launch = s.launch := rfl
@[simp] theorem halt68k_refusedMarks (s : State) (r : HaltReason) : (s.halt68k r).refusedMarks = s.refusedMarks := rfl
@[simp] theorem halt68k_events (s : State) (r : HaltReason) : (s.halt68k r).events = s.events := rfl
@[simp] theorem halt68k_schedule (s : State) (r : HaltReason) : (s.halt68k r).schedule = s.schedule := rfl
@[simp] theorem halt68k_turns (s : State) (r : HaltReason) : (s.halt68k r).turns = s.turns := rfl
@[simp] theorem halt68k_fairDue (s : State) (r : HaltReason) : (s.halt68k r).fairDue = s.fairDue := rfl
@[simp] theorem failZ80_m68k (s : State) : (s.failZ80).m68k = s.m68k := rfl
@[simp] theorem failZ80_wait68k (s : State) : (s.failZ80).wait68k = s.wait68k := rfl
@[simp] theorem failZ80_waitZ80 (s : State) : (s.failZ80).waitZ80 = s.waitZ80 := rfl
@[simp] theorem failZ80_bus (s : State) : (s.failZ80).bus = s.bus := rfl
@[simp] theorem failZ80_mem (s : State) : (s.failZ80).mem = s.mem := rfl
@[simp] theorem failZ80_launch (s : State) : (s.failZ80).launch = s.launch := rfl
@[simp] theorem failZ80_refusedMarks (s : State) : (s.failZ80).refusedMarks = s.refusedMarks := rfl
@[simp] theorem failZ80_faultedMarks (s : State) : (s.failZ80).faultedMarks = s.faultedMarks := rfl
@[simp] theorem failZ80_events (s : State) : (s.failZ80).events = s.events := rfl
@[simp] theorem failZ80_schedule (s : State) : (s.failZ80).schedule = s.schedule := rfl
@[simp] theorem failZ80_turns (s : State) : (s.failZ80).turns = s.turns := rfl
@[simp] theorem failZ80_fairDue (s : State) : (s.failZ80).fairDue = s.fairDue := rfl
@[simp] theorem clearInt68k_m68k (s : State) : (s.clearInt68k).m68k = s.m68k := rfl
@[simp] theorem clearInt68k_z80 (s : State) : (s.clearInt68k).z80 = s.z80 := rfl
@[simp] theorem clearInt68k_wait68k (s : State) : (s.clearInt68k).wait68k = s.wait68k := rfl
@[simp] theorem clearInt68k_waitZ80 (s : State) : (s.clearInt68k).waitZ80 = s.waitZ80 := rfl
@[simp] theorem clearInt68k_mem (s : State) : (s.clearInt68k).mem = s.mem := rfl
@[simp] theorem clearInt68k_launch (s : State) : (s.clearInt68k).launch = s.launch := rfl
@[simp] theorem clearInt68k_refusedMarks (s : State) : (s.clearInt68k).refusedMarks = s.refusedMarks := rfl
@[simp] theorem clearInt68k_faultedMarks (s : State) : (s.clearInt68k).faultedMarks = s.faultedMarks := rfl
@[simp] theorem clearInt68k_events (s : State) : (s.clearInt68k).events = s.events := rfl
@[simp] theorem clearInt68k_schedule (s : State) : (s.clearInt68k).schedule = s.schedule := rfl
@[simp] theorem clearInt68k_turns (s : State) : (s.clearInt68k).turns = s.turns := rfl
@[simp] theorem clearInt68k_fairDue (s : State) : (s.clearInt68k).fairDue = s.fairDue := rfl
@[simp] theorem clearIntZ80_m68k (s : State) : (s.clearIntZ80).m68k = s.m68k := rfl
@[simp] theorem clearIntZ80_z80 (s : State) : (s.clearIntZ80).z80 = s.z80 := rfl
@[simp] theorem clearIntZ80_wait68k (s : State) : (s.clearIntZ80).wait68k = s.wait68k := rfl
@[simp] theorem clearIntZ80_waitZ80 (s : State) : (s.clearIntZ80).waitZ80 = s.waitZ80 := rfl
@[simp] theorem clearIntZ80_mem (s : State) : (s.clearIntZ80).mem = s.mem := rfl
@[simp] theorem clearIntZ80_launch (s : State) : (s.clearIntZ80).launch = s.launch := rfl
@[simp] theorem clearIntZ80_refusedMarks (s : State) : (s.clearIntZ80).refusedMarks = s.refusedMarks := rfl
@[simp] theorem clearIntZ80_faultedMarks (s : State) : (s.clearIntZ80).faultedMarks = s.faultedMarks := rfl
@[simp] theorem clearIntZ80_events (s : State) : (s.clearIntZ80).events = s.events := rfl
@[simp] theorem clearIntZ80_schedule (s : State) : (s.clearIntZ80).schedule = s.schedule := rfl
@[simp] theorem clearIntZ80_turns (s : State) : (s.clearIntZ80).turns = s.turns := rfl
@[simp] theorem clearIntZ80_fairDue (s : State) : (s.clearIntZ80).fairDue = s.fairDue := rfl
@[simp] theorem idleZ80_m68k (s : State) : (s.idleZ80).m68k = s.m68k := rfl
@[simp] theorem idleZ80_wait68k (s : State) : (s.idleZ80).wait68k = s.wait68k := rfl
@[simp] theorem idleZ80_waitZ80 (s : State) : (s.idleZ80).waitZ80 = s.waitZ80 := rfl
@[simp] theorem idleZ80_bus (s : State) : (s.idleZ80).bus = s.bus := rfl
@[simp] theorem idleZ80_mem (s : State) : (s.idleZ80).mem = s.mem := rfl
@[simp] theorem idleZ80_launch (s : State) : (s.idleZ80).launch = s.launch := rfl
@[simp] theorem idleZ80_refusedMarks (s : State) : (s.idleZ80).refusedMarks = s.refusedMarks := rfl
@[simp] theorem idleZ80_faultedMarks (s : State) : (s.idleZ80).faultedMarks = s.faultedMarks := rfl
@[simp] theorem idleZ80_events (s : State) : (s.idleZ80).events = s.events := rfl
@[simp] theorem idleZ80_schedule (s : State) : (s.idleZ80).schedule = s.schedule := rfl
@[simp] theorem idleZ80_turns (s : State) : (s.idleZ80).turns = s.turns := rfl
@[simp] theorem idleZ80_fairDue (s : State) : (s.idleZ80).fairDue = s.fairDue := rfl
@[simp] theorem resetZ80_m68k (s : State) : (s.resetZ80).m68k = s.m68k := rfl
@[simp] theorem resetZ80_wait68k (s : State) : (s.resetZ80).wait68k = s.wait68k := rfl
@[simp] theorem resetZ80_waitZ80 (s : State) : (s.resetZ80).waitZ80 = s.waitZ80 := rfl
@[simp] theorem resetZ80_mem (s : State) : (s.resetZ80).mem = s.mem := rfl
@[simp] theorem resetZ80_launch (s : State) : (s.resetZ80).launch = s.launch := rfl
@[simp] theorem resetZ80_refusedMarks (s : State) : (s.resetZ80).refusedMarks = s.refusedMarks := rfl
@[simp] theorem resetZ80_faultedMarks (s : State) : (s.resetZ80).faultedMarks = s.faultedMarks := rfl
@[simp] theorem resetZ80_events (s : State) : (s.resetZ80).events = s.events := rfl
@[simp] theorem resetZ80_schedule (s : State) : (s.resetZ80).schedule = s.schedule := rfl
@[simp] theorem resetZ80_turns (s : State) : (s.resetZ80).turns = s.turns := rfl
@[simp] theorem resetZ80_fairDue (s : State) : (s.resetZ80).fairDue = s.fairDue := rfl
@[simp] theorem answered68k_m68k (s : State) (w : Wait68k) : (s.answered68k w).m68k = s.m68k := rfl
@[simp] theorem answered68k_z80 (s : State) (w : Wait68k) : (s.answered68k w).z80 = s.z80 := rfl
@[simp] theorem answered68k_waitZ80 (s : State) (w : Wait68k) : (s.answered68k w).waitZ80 = s.waitZ80 := rfl
@[simp] theorem answered68k_bus (s : State) (w : Wait68k) : (s.answered68k w).bus = s.bus := rfl
@[simp] theorem answered68k_mem (s : State) (w : Wait68k) : (s.answered68k w).mem = s.mem := rfl
@[simp] theorem answered68k_launch (s : State) (w : Wait68k) : (s.answered68k w).launch = s.launch := rfl
@[simp] theorem answered68k_refusedMarks (s : State) (w : Wait68k) : (s.answered68k w).refusedMarks = s.refusedMarks := rfl
@[simp] theorem answered68k_faultedMarks (s : State) (w : Wait68k) : (s.answered68k w).faultedMarks = s.faultedMarks := rfl
@[simp] theorem answered68k_events (s : State) (w : Wait68k) : (s.answered68k w).events = s.events := rfl
@[simp] theorem answered68k_schedule (s : State) (w : Wait68k) : (s.answered68k w).schedule = s.schedule := rfl
@[simp] theorem answered68k_turns (s : State) (w : Wait68k) : (s.answered68k w).turns = s.turns := rfl
@[simp] theorem answered68k_fairDue (s : State) (w : Wait68k) : (s.answered68k w).fairDue = s.fairDue := rfl
@[simp] theorem answeredZ80_m68k (s : State) (w : WaitZ80) : (s.answeredZ80 w).m68k = s.m68k := rfl
@[simp] theorem answeredZ80_z80 (s : State) (w : WaitZ80) : (s.answeredZ80 w).z80 = s.z80 := rfl
@[simp] theorem answeredZ80_wait68k (s : State) (w : WaitZ80) : (s.answeredZ80 w).wait68k = s.wait68k := rfl
@[simp] theorem answeredZ80_bus (s : State) (w : WaitZ80) : (s.answeredZ80 w).bus = s.bus := rfl
@[simp] theorem answeredZ80_mem (s : State) (w : WaitZ80) : (s.answeredZ80 w).mem = s.mem := rfl
@[simp] theorem answeredZ80_launch (s : State) (w : WaitZ80) : (s.answeredZ80 w).launch = s.launch := rfl
@[simp] theorem answeredZ80_refusedMarks (s : State) (w : WaitZ80) : (s.answeredZ80 w).refusedMarks = s.refusedMarks := rfl
@[simp] theorem answeredZ80_faultedMarks (s : State) (w : WaitZ80) : (s.answeredZ80 w).faultedMarks = s.faultedMarks := rfl
@[simp] theorem answeredZ80_events (s : State) (w : WaitZ80) : (s.answeredZ80 w).events = s.events := rfl
@[simp] theorem answeredZ80_schedule (s : State) (w : WaitZ80) : (s.answeredZ80 w).schedule = s.schedule := rfl
@[simp] theorem answeredZ80_turns (s : State) (w : WaitZ80) : (s.answeredZ80 w).turns = s.turns := rfl
@[simp] theorem answeredZ80_fairDue (s : State) (w : WaitZ80) : (s.answeredZ80 w).fairDue = s.fairDue := rfl

@[simp] theorem mapM68k_self (s : State) (f : M68k → M68k) : (s.mapM68k f).m68k = f s.m68k := rfl

@[simp] theorem mapZ80_self (s : State) (f : Z80 → Z80) : (s.mapZ80 f).z80 = f s.z80 := rfl

@[simp] theorem mapBus_self (s : State) (f : Bus → Bus) : (s.mapBus f).bus = f s.bus := rfl

/-- Two changes of M68K's registers are one. -/
theorem mapM68k_mapM68k (s : State) (f g : M68k → M68k) : (s.mapM68k f).mapM68k g = s.mapM68k fun m => g (f m) := rfl

/-- Two changes of Z80's registers are one. -/
theorem mapZ80_mapZ80 (s : State) (f g : Z80 → Z80) : (s.mapZ80 f).mapZ80 g = s.mapZ80 fun z => g (f z) := rfl

end Sys2Proof.Laws
end

