-- ==== Sys2Proof/Laws/Op.lean ====
section
/-! SUPPORT. What the shared operations do, once each: `Gives` says that an operation ends with a value and a state, `Ends` that
it ends its instruction in a state. Nothing else in the package unfolds the monad. -/

namespace Sys2Proof.Laws

open Sys2Proof.Machine

/-- A state, and the answers of accesses that are still to be replayed there (log 4). -/
abbrev Point := State × List Long

/-- The operation ends with the value `a`, at the point `q`. -/
def Gives {α : Type} (x : Op α) (p : Point) (a : α) (q : Point) : Prop :=
  ∀ done, ∃ done', x ⟨p.1, p.2, done, false⟩ = .ok a ⟨q.1, q.2, done', false⟩

/-- The operation ends its instruction, in the state `t` (60 R703). -/
def Ends {α : Type} (x : Op α) (p : Point) (t : State) : Prop :=
  ∀ done, ∃ l done', x ⟨p.1, p.2, done, false⟩ = .error .ended ⟨t, l, done', false⟩

variable {α β : Type} {p q r : Point} {s t : State}

/-! ### The monad -/

theorem gives_pure (a : α) (p : Point) : Gives (pure a) p a p := fun d => ⟨d, rfl⟩

/-- A result given up to equality. -/
theorem gives_pure_eq {a b : α} (h : a = b) (hp : p = q) : Gives (pure a) p b q := by subst h hp; exact gives_pure a p

/-- A result and a point given up to equality. -/
theorem gives_to {x : Op α} {a b : α} (h : Gives x p a q) (ha : a = b) (hq : q = r) : Gives x p b r := by
  subst ha hq; exact h

theorem gives_bind {x : Op α} {f : α → Op β} {a : α} {b : β} (h : Gives x p a q) (hf : Gives (f a) q b r) :
    Gives (x >>= f) p b r := by
  intro d
  obtain ⟨d1, h1⟩ := h d
  obtain ⟨d2, h2⟩ := hf d1
  refine ⟨d2, ?_⟩
  simp only [bind, EStateM.bind, h1, h2]

theorem ends_bind {x : Op α} {f : α → Op β} {a : α} (h : Gives x p a q) (hf : Ends (f a) q t) :
    Ends (x >>= f) p t := by
  intro d
  obtain ⟨d1, h1⟩ := h d
  obtain ⟨l, d2, h2⟩ := hf d1
  refine ⟨l, d2, ?_⟩
  simp only [bind, EStateM.bind, h1, h2]

theorem ends_first {x : Op α} {f : α → Op β} (h : Ends x p t) : Ends (x >>= f) p t := by
  intro d
  obtain ⟨l, d1, h1⟩ := h d
  refine ⟨l, d1, ?_⟩
  simp only [bind, EStateM.bind, h1]

theorem gives_state (p : Point) : Gives Op.state p p.1 p := fun d => ⟨d, rfl⟩

theorem gives_modify (f : State → State) (p : Point) : Gives (Op.modify f) p () (f p.1, p.2) := fun d => ⟨d, rfl⟩

theorem gives_m68kRegs (p : Point) : Gives m68kRegs p p.1.m68k p := fun d => ⟨d, rfl⟩

theorem gives_setM68k (f : M68k → M68k) (p : Point) : Gives (setM68k f) p () (p.1.mapM68k f, p.2) := fun d => ⟨d, rfl⟩

/-- The registers written, given by what they become. -/
theorem gives_setM68k_to {f : M68k → M68k} {g : M68k → M68k} (p : Point) (h : f p.1.m68k = g p.1.m68k) :
    Gives (setM68k f) p () (p.1.mapM68k g, p.2) := fun d => ⟨d, by
  show EStateM.Result.ok () (Ctx.mk (p.1.mapM68k f) p.2 d false) = _
  rw [State.mapM68k, h]
  rfl⟩

theorem gives_z80Regs (p : Point) : Gives z80Regs p p.1.z80 p := fun d => ⟨d, rfl⟩

theorem gives_setZ80 (f : Z80 → Z80) (p : Point) : Gives (setZ80 f) p () (p.1.mapZ80 f, p.2) := fun d => ⟨d, rfl⟩

/-- The registers written, given by what they become. -/
theorem gives_setZ80_to {f : Z80 → Z80} {g : Z80 → Z80} (p : Point) (h : f p.1.z80 = g p.1.z80) :
    Gives (setZ80 f) p () (p.1.mapZ80 g, p.2) := fun d => ⟨d, by
  show EStateM.Result.ok () (Ctx.mk (p.1.mapZ80 f) p.2 d false) = _
  rw [State.mapZ80, h]
  rfl⟩

theorem gives_getCcr (p : Point) : Gives getCcr p p.1.m68k.ccr p := fun d => ⟨d, rfl⟩

theorem gives_setCcr (f : Ccr) (p : Point) : Gives (setCcr f) p () (p.1.withCcr f, p.2) := fun d => ⟨d, rfl⟩

theorem gives_skipWords (k : Nat) (p : Point) : Gives (skipWords k) p () (p.1.past k, p.2) := fun d => ⟨d, rfl⟩

theorem gives_getFlags (p : Point) : Gives getFlags p p.1.z80.flags p := fun d => ⟨d, rfl⟩

theorem gives_setFlags (f : ZFlags) (p : Point) :
    Gives (setFlags f) p () (p.1.mapZ80 fun z => z.flagged f, p.2) := fun d => ⟨d, rfl⟩

theorem gives_draw68k (p : Point) :
    Gives draw68k p ((Config.draw68k p.1.m68k.draws).getLsbD 0)
      (p.1.mapM68k fun m => { m with draws := m.draws + 1 }, p.2) := fun d => ⟨d, rfl⟩

theorem gives_drawZ80 (p : Point) :
    Gives drawZ80 p p.1.z80.freeByte.1 (p.1.mapZ80 fun z => z.freeByte.2, p.2) := fun d => ⟨d, rfl⟩

theorem ends_stop (p : Point) : Ends (Op.stop .ended : Op α) p p.1 := fun d => ⟨_, d, rfl⟩

/-! ### One access: all it can do -/

/-- An access of M68K that is replayed answers from the log, whatever it is (log 4). -/
theorem access68k_replayed (k : Access) (a : Addr24) (sz : Size) (v : Long) {c : Ctx} {x : Long} {l : List Long}
    (h : c.todo = x :: l) : access68k k a sz v c = .ok x { c with todo := l, done := c.done ++ [x] } := by
  simp only [access68k, Op.once, h]

/-- An access of M68K that is not replayed is the fault Unmapped, is refused as self-modifying, waits after its issue, is a
fault at ZRAM, or is made by M68K itself (20 R130, R133, R136, R143, R151). -/
theorem access68k_made (k : Access) (a : Addr24) (sz : Size) (v : Long) {c : Ctx} (h : c.todo = [])
    (hb : c.st.bus.mb68k.op = .none) :
    access68k k a sz v c =
      match route68k c.st.launch a sz with
      | .nowhere => .error (.fault .unmapped) c
      | .owner =>
        if c.selfModifies k a sz then .error (.refused .selfModifyPrefetch) c
        else .error .wait { c with st := c.st.mapBus fun b => { b with mb68k := b.mb68k.issue k a sz v } }
      | .here ps =>
        if c.selfModifies k a sz then .error (.refused .selfModifyPrefetch) c
        else
          match c.st.zramFault ps sz with
          | some f => .error (.fault f) c
          | none =>
            let x := performRow k a sz v c.st (plainAccess c.st a sz ps)
            .ok x.1 { c with st := x.2, done := c.done ++ [x.1] } := by
  simp only [access68k, Op.once, h, perform68k, issue68k, hb]
  cases route68k c.st.launch a sz with
  | here ps => cases c.selfModifies k a sz <;> cases hz : c.st.zramFault ps sz <;> simp [hz]
  | _ => cases c.selfModifies k a sz <;> simp

/-- An access of Z80 that is replayed answers from the log (log 4). -/
theorem accessZ80_replayed (perform : Op Long) {c : Ctx} {x : Long} {l : List Long} (h : c.todo = x :: l) :
    Op.once perform c = .ok x { c with todo := l, done := c.done ++ [x] } := by
  simp only [Op.once, h]

/-- A memory access of Z80 that is not replayed is the fault Unmapped, waits after its issue, is a fault of its row, or is made by
Z80 itself (20 R130, R133, R137, R151). -/
theorem accessZ80_made (k : Access) (a : Word) (v : Byte) {c : Ctx} (h : c.todo = []) (hb : c.st.bus.mbZ80.op = .none) :
    Op.once (performZ80 k a v) c =
      match placeZ80 c.st.launch a with
      | none => .error (.fault .unmapped) c
      | some p =>
        if c.st.launch.localZ80 a then
          match accessAtZ80 c.st a p with
          | .error f => .error (.fault f) c
          | .ok r =>
            let x := performRow k a .b (v.setWidth 32) c.st r
            .ok x.1 { c with st := x.2, done := c.done ++ [x.1] }
        else .error .wait { c with st := c.st.mapBus fun b => { b with mbZ80 := b.mbZ80.issue k a .b (v.setWidth 32) } } := by
  simp only [Op.once, h, performZ80, issueZ80, hb]
  cases placeZ80 c.st.launch a with
  | none => simp
  | some p => cases c.st.launch.localZ80 a <;> cases hr : accessAtZ80 c.st a p <;> simp [hr]

/-- A port access of Z80 that is not replayed waits after its issue, or is made by Z80 itself (20 R130, R133, R151). -/
theorem accessPort_made (k : Access) (port : Word) (v : Byte) {c : Ctx} (h : c.todo = []) (hb : c.st.bus.mbZ80.op = .none) :
    Op.once (performPort k port v) c =
      if c.st.launch.map.ownPorts then
        let x := performRow k port .b (v.setWidth 32) c.st (portAccess c.st port)
        .ok x.1 { c with st := x.2, done := c.done ++ [x.1] }
      else .error .wait { c with st := c.st.mapBus fun b => { b with mbZ80 := b.mbZ80.issue k port .b (v.setWidth 32) } } := by
  simp only [Op.once, h, performPort, issueZ80, hb]
  cases c.st.launch.map.ownPorts <;> simp

/-- What a read answers that a processor performs itself. -/
@[simp] theorem performRow_read {w : Nat} (a : BitVec w) (sz : Size) (v : Long) (s : State) (r : RowAccess) :
    performRow .read a sz v s r = r.read := rfl

/-- The state after a write that a processor performs itself. -/
@[simp] theorem performRow_write {w : Nat} (a : BitVec w) (sz : Size) (v : Long) (s : State) (r : RowAccess) :
    performRow .write a sz v s r = (v, r.write v s) := rfl

/-- A TAS that a processor performs itself is its read and its write (20 R128). -/
@[simp] theorem performRow_tas {w : Nat} (a : BitVec w) (sz : Size) (v : Long) (s : State) (r : RowAccess) :
    performRow .tas a sz v s r = (r.read.1, r.write (r.read.1 ||| 0x80#32) r.read.2) := rfl

/-! ### M68K accesses -/

/-- An access that is performed, and not replayed. -/
theorem gives_once {x : Op Long} {a : Long} (h : Gives x (s, []) a (t, [])) : Gives (Op.once x) (s, []) a (t, []) := by
  intro d
  obtain ⟨d1, h1⟩ := h d
  exact ⟨d1 ++ [a], by simp only [Op.once, h1]⟩

/-- An access that is replayed changes nothing (log 4). -/
theorem gives_replay (x : Op Long) (s : State) (a : Long) (l : List Long) : Gives (Op.once x) (s, a :: l) a (s, l) :=
  fun d => ⟨d ++ [a], rfl⟩

/-- The places of an access here: it is not misaligned, its route is here, and it is no fault of ZRAM. -/
theorem placesHere_some {sz : Size} {a : Long} {ps : List Place} (h : s.placesHere sz a = some ps) :
    oddAccess (a.setWidth 24) sz = false ∧ route68k s.launch (a.setWidth 24) sz = .here ps ∧ s.zramFault ps sz = none := by
  rw [State.placesHere] at h
  split at h
  · cases h
  · rename_i ho
    split at h
    · rename_i e
      split at h
      · rename_i hz; injection h with h; subst h; exact ⟨by simpa using ho, e, by simpa using hz⟩
      · cases h
    · cases h

theorem gives_load68k {sz : Size} {a : Long} {v : BitVec sz.bits} (h : s.loadAt sz a = some (v, t)) :
    Gives (load68k sz a) (s, []) v (t, []) := by
  rw [State.loadAt, Option.map_eq_some_iff] at h
  obtain ⟨ps, hp, h⟩ := h
  obtain ⟨ho, hr, hz⟩ := placesHere_some hp
  cases h
  refine gives_bind (gives_state _) ?_
  simp only [ho, Bool.false_eq_true, if_false]
  refine gives_bind (gives_once (t := (s.plainRead ps).2) (a := (s.plainRead ps).1) fun d => ⟨d, ?_⟩) (gives_pure _ _)
  simp [perform68k, hr, hz, Ctx.selfModifies, Access.stores, plainAccess]

theorem gives_store68k {sz : Size} {a : Long} {v : BitVec sz.bits} (h : s.storeAt sz a v = some t) :
    Gives (store68k sz a v) (s, []) () (t, []) := by
  rw [State.storeAt] at h
  split at h
  · rename_i ps hp
    obtain ⟨ho, hr, hz⟩ := placesHere_some hp
    split at h
    · cases h
    · rename_i hh
      cases h
      refine gives_bind (gives_state _) ?_
      simp only [ho, Bool.false_eq_true, if_false]
      refine gives_bind (gives_once (t := s.plainWrite (a.setWidth 24) sz (v.setWidth 32) ps) (a := v.setWidth 32) fun d => ⟨d, ?_⟩)
        (gives_pure _ _)
      simp [perform68k, hr, hz, hh, Ctx.selfModifies, plainAccess]
  · cases h

/-- TAS of a byte that M68K reaches itself: one read and one write (20 R128). -/
theorem gives_tas68k {a : Long} {ps : List Place} (hp : s.placesHere .b a = some ps)
    (hh : hitsPrefetch s.launch s.m68k.pc (a.setWidth 24) .b = false) :
    Gives (tas68k a) (s, []) ((s.plainRead ps).1.setWidth 8)
      ((s.plainRead ps).2.plainWrite (a.setWidth 24) .b ((s.plainRead ps).1 ||| 0x80#32) ps, []) := by
  obtain ⟨-, hr, hz⟩ := placesHere_some hp
  refine gives_bind (gives_once (a := (s.plainRead ps).1) fun d => ⟨d, ?_⟩) (gives_pure _ _)
  simp [perform68k, hr, hz, hh, Ctx.selfModifies, plainAccess]

theorem gives_push68k {sz : Size} {v : BitVec sz.bits} (h : s.pushAt sz v = some t) :
    Gives (push68k sz v) (s, []) () (t, []) :=
  gives_bind (gives_setM68k _ _) (gives_bind (gives_m68kRegs _) (gives_store68k h))

theorem gives_pop68k {sz : Size} {v : BitVec sz.bits} (h : s.popAt sz = some (v, t)) :
    Gives (pop68k sz) (s, []) v (t, []) := by
  rw [State.popAt, Option.map_eq_some_iff] at h
  obtain ⟨⟨w, u⟩, hl, h⟩ := h
  cases h
  exact gives_bind (gives_m68kRegs _) (gives_bind (gives_load68k hl) (gives_bind (gives_setM68k _ _) (gives_pure _ _)))

/-- Changes of M68K's registers that agree on the registers there. -/
theorem mapM68k_congr {f g : M68k → M68k} (h : f s.m68k = g s.m68k) : s.mapM68k f = s.mapM68k g := by
  rw [State.mapM68k, h]
  rfl

/-- Changes of Z80's registers that agree on the registers there. -/
theorem mapZ80_congr {f g : Z80 → Z80} (h : f s.z80 = g s.z80) : s.mapZ80 f = s.mapZ80 g := by
  rw [State.mapZ80, h]
  rfl

/-- As `mapM68k_congr`, at a point. -/
theorem point_congr68k {f g : M68k → M68k} {l : List Long} (h : f s.m68k = g s.m68k) :
    ((s.mapM68k f, l) : Point) = (s.mapM68k g, l) := by rw [mapM68k_congr h]

/-- As `mapZ80_congr`, at a point. -/
theorem point_congrZ80 {f g : Z80 → Z80} {l : List Long} (h : f s.z80 = g s.z80) :
    ((s.mapZ80 f, l) : Point) = (s.mapZ80 g, l) := by rw [mapZ80_congr h]

/-! ### M68K operands -/

@[simp] theorem readPlace_m68k (s : State) (p : Place) : (s.readPlace p).2.m68k = s.m68k := by
  cases p <;> simp only [State.readPlace, State.drawByte, State.mapBus]
  split <;> rfl

@[simp] theorem readPlaces_m68k (s : State) (ps : List Place) : (s.readPlaces ps).2.m68k = s.m68k := by
  induction ps generalizing s with
  | nil => rfl
  | cons p r ih => simp [State.readPlaces, ih]

@[simp] theorem plainRead_m68k (s : State) (ps : List Place) : (s.plainRead ps).2.m68k = s.m68k := by
  simp [State.plainRead]

/-- A load leaves M68K's registers as they are. -/
theorem loadAt_m68k {sz : Size} {a : Long} {v : BitVec sz.bits} (h : s.loadAt sz a = some (v, t)) : t.m68k = s.m68k := by
  rw [State.loadAt, Option.map_eq_some_iff] at h
  obtain ⟨ps, -, h⟩ := h
  cases h
  exact plainRead_m68k _ _

/-- Reading a location leaves M68K's registers as they are. -/
theorem readAt_m68k {sz : Size} {loc : Loc} {v : BitVec sz.bits} (h : s.readAt sz loc = some (v, t)) : t.m68k = s.m68k := by
  cases loc with
  | mem a => exact loadAt_m68k h
  | _ => cases h; rfl

/-- Resolving an operand leaves the data registers as they are. -/
theorem locate_dreg {sz : Size} {ea : Ea} {loc : Loc} (h : s.locate sz ea = some (loc, t)) (n : Reg) :
    t.m68k.dreg n = s.m68k.dreg n := by
  rw [State.locate, Option.map_eq_some_iff] at h
  obtain ⟨⟨l, m⟩, hr, h⟩ := h
  cases h
  cases ea <;> simp only [M68k.resolve] at hr
  case index => split at hr <;> cases hr; rfl
  case pcIndex => split at hr <;> cases hr; rfl
  case imm => cases sz <;> cases hr <;> rfl
  all_goals cases hr; rfl

/-- Resolving an operand leaves SR as it is. -/
theorem locate_sr {sz : Size} {ea : Ea} {loc : Loc} (h : s.locate sz ea = some (loc, t)) : t.m68k.sr = s.m68k.sr := by
  rw [State.locate, Option.map_eq_some_iff] at h
  obtain ⟨⟨l, m⟩, hr, h⟩ := h
  cases h
  cases ea <;> simp only [M68k.resolve] at hr
  case index => split at hr <;> cases hr; rfl
  case pcIndex => split at hr <;> cases hr; rfl
  case imm => cases sz <;> cases hr <;> rfl
  all_goals cases hr; rfl

theorem gives_resolve {sz : Size} {ea : Ea} {loc : Loc} (l : List Long) (h : s.locate sz ea = some (loc, t)) :
    Gives (resolve sz ea) (s, l) loc (t, l) := by
  rw [State.locate, Option.map_eq_some_iff] at h
  obtain ⟨⟨loc', m⟩, hr, h⟩ := h
  cases h
  refine gives_bind (gives_m68kRegs _) ?_
  simp only [hr]
  exact gives_bind (gives_setM68k _ _) (gives_bind (gives_setM68k _ _) (gives_pure _ _))

theorem gives_readLoc {sz : Size} {loc : Loc} {v : BitVec sz.bits} (h : s.readAt sz loc = some (v, t)) :
    Gives (readLoc sz loc) (s, []) v (t, []) := by
  cases loc with
  | mem a => exact gives_load68k h
  | dreg n => cases h; exact gives_bind (gives_m68kRegs _) (gives_pure _ _)
  | areg n => cases h; exact gives_bind (gives_m68kRegs _) (gives_pure _ _)
  | imm v => cases h; exact gives_pure _ _

theorem gives_writeLoc {sz : Size} {loc : Loc} {v : BitVec sz.bits} (h : s.writeAt sz loc v = some t) :
    Gives (writeLoc sz loc v) (s, []) () (t, []) := by
  cases loc with
  | mem a => exact gives_store68k h
  | dreg n => cases h; exact gives_setM68k _ _
  | areg n => cases h; exact gives_setM68k _ _
  | imm v => cases h; exact gives_pure _ _

theorem gives_readEa {sz : Size} {ea : Ea} {loc : Loc} {v : BitVec sz.bits} {u : State}
    (h : s.locate sz ea = some (loc, u)) (hr : u.readAt sz loc = some (v, t)) :
    Gives (readEa sz ea) (s, []) v (t, []) :=
  gives_bind (gives_resolve _ h) (gives_readLoc hr)

theorem gives_resolveAddress {sz : Size} {ea : Ea} {a : Long} (l : List Long) (h : s.locate sz ea = some (.mem a, t)) :
    Gives (resolveAddress sz ea) (s, l) a (t, l) :=
  gives_bind (gives_resolve _ h) (gives_pure _ _)

theorem gives_eaToDn {sz : Size} {ea : Ea} {loc : Loc} {v : BitVec sz.bits} {u : State} (n : Reg) (f : Alu sz.bits)
    (h : s.locate sz ea = some (loc, u)) (hr : u.readAt sz loc = some (v, t)) :
    Gives (eaToDn sz ea n f) (s, []) []
      (t.mapM68k fun m => (m.setDPart n sz (f v ((t.m68k.dreg n).setWidth sz.bits) t.m68k.ccr).1).setCcr
        (f v ((t.m68k.dreg n).setWidth sz.bits) t.m68k.ccr).2, []) :=
  gives_bind (gives_readEa h hr) (gives_bind (gives_m68kRegs _) (gives_bind (gives_setM68k _ _) (gives_pure _ _)))

theorem gives_updateEa {sz : Size} {ea : Ea} {loc : Loc} {d : BitVec sz.bits} {u v : State}
    {f : BitVec sz.bits → M68k → BitVec sz.bits × Ccr} (h : s.locate sz ea = some (loc, u))
    (hr : u.readAt sz loc = some (d, v)) (hw : v.writeAt sz loc (f d v.m68k).1 = some t) :
    Gives (updateEa sz ea f) (s, []) [] (t.withCcr (f d v.m68k).2, []) :=
  gives_bind (gives_resolve _ h) (gives_bind (gives_readLoc hr) (gives_bind (gives_m68kRegs _)
    (gives_bind (gives_writeLoc hw) (gives_bind (gives_setCcr _ _) (gives_pure _ _)))))

/-! ### Exceptions -/

theorem ends_raise68k (v : Nat) (spc : Long) (h : s.enterAt v spc = some t) : Ends (raise68k v spc : Op α) (s, []) t := by
  rw [State.enterAt] at h
  split at h
  · cases h
  · rename_i t1 h1
    split at h
    · cases h
    · rename_i t2 h2
      split at h
      · cases h
      · rename_i a t3 h3
        injection h with h
        refine ends_bind (a := ()) (q := (t, [])) ?_ (ends_stop _)
        refine gives_bind (gives_m68kRegs _) (gives_bind (gives_setM68k _ _) ?_)
        refine gives_bind (gives_push68k h1) (gives_bind (gives_push68k h2) (gives_bind (gives_load68k h3) ?_))
        exact fun d => ⟨d, by rw [← h]; rfl⟩

theorem gives_privileged (l : List Long) (h : s.m68k.super = true) : Gives privileged (s, l) () (s, l) := by
  refine gives_bind (gives_m68kRegs _) ?_
  simp only [h, if_true]
  exact gives_pure _ _

theorem ends_privileged (h : s.m68k.super = false) (he : s.enterAt 8 (s.m68k.pc - 2#32) = some t) :
    Ends privileged (s, []) t := by
  refine ends_bind (gives_m68kRegs _) ?_
  simp only [h, Bool.false_eq_true, if_false]
  exact ends_raise68k _ _ he

/-! ### Running an M68K instruction -/

theorem run68k_next {i : Instr} {rule : Op (List Nat)} {data : List Nat} (hw : s.ready68k)
    (h : Gives rule (s.past 1, []) data (t, [])) : run68k i rule s = .next (t.ended68k i data) := by
  have hs : s.start68k = ⟨s, [], [], false⟩ := by simp only [State.start68k, show s.wait68k = none from hw]
  have h0 := gives_setM68k (fun m => m.skip 1) (s, [])
  obtain ⟨d, h1⟩ := gives_bind h0 (f := fun _ => do let data ← rule; spend68k (i.cost68k data))
    (gives_bind h (gives_setM68k (fun m => m.spend (i.cost68k data)) _)) []
  rw [run68k, hs]
  exact congrArg (finish68k (.exec i) s) h1

theorem run68k_ended {i : Instr} {rule : Op (List Nat)} (hw : s.ready68k) (h : Ends rule (s.past 1, []) t) :
    run68k i rule s = .next t := by
  have hs : s.start68k = ⟨s, [], [], false⟩ := by simp only [State.start68k, show s.wait68k = none from hw]
  have h0 := gives_setM68k (fun m => m.skip 1) (s, [])
  obtain ⟨l, d, h1⟩ := ends_bind h0 (f := fun _ => do let data ← rule; spend68k (i.cost68k data)) (ends_first h) []
  rw [run68k, hs]
  exact congrArg (finish68k (.exec i) s) h1

/-- As `run68k_next`, for the instruction that `x` runs: `rfl` finds its rule. -/
theorem next68k {x : Host.Outcome State Fault Refusal} {i : Instr} {rule : Op (List Nat)} {data : List Nat}
    (hx : x = run68k i rule s) (hw : s.ready68k) (h : Gives rule (s.past 1, []) data (t, [])) :
    x = .next (t.ended68k i data) := hx.trans (run68k_next hw h)

/-- As `run68k_ended`, for the instruction that `x` runs. -/
theorem ended68k {x : Host.Outcome State Fault Refusal} {i : Instr} {rule : Op (List Nat)}
    (hx : x = run68k i rule s) (hw : s.ready68k) (h : Ends rule (s.past 1, []) t) : x = .next t :=
  hx.trans (run68k_ended hw h)

/-- Words passed twice. -/
theorem past_past (s : State) (j k : Nat) : (s.past j).past k = s.past (j + k) := by
  simp only [State.past, mapM68k_mapM68k, skip_skip]

/-! ### Z80 accesses -/

theorem gives_loadZ80 {a : Word} {v : Byte} (h : s.peek a = some v) : Gives (loadZ80 a) (s, []) v (s, []) := by
  rw [State.peek] at h
  split at h
  · rename_i off hp
    split at h
    · rename_i hl
      cases h
      refine gives_bind (gives_once (t := s) (a := (s.mem.read (zramKey off)).setWidth 32) fun d => ⟨d, ?_⟩)
        (gives_pure_eq (by simp) rfl)
      simp [performZ80, hp, hl, accessAtZ80]
    · cases h
  · cases h

theorem gives_storeZ80 {a : Word} {v : Byte} (h : s.poke a v = some t) : Gives (storeZ80 a v) (s, []) () (t, []) := by
  rw [State.poke] at h
  split at h
  · rename_i off hp
    split at h
    · rename_i hl
      cases h
      refine gives_bind (gives_once (t := { s with mem := s.mem.write (zramKey off) v }) (a := v.setWidth 32) fun d => ⟨d, ?_⟩)
        (gives_pure _ _)
      simp [performZ80, hp, hl, accessAtZ80]
    · cases h
  · cases h

theorem gives_inPort (port : Word) (s : State) (v : Long) (l : List Long) :
    Gives (inPort port) (s, v :: l) (v.setWidth 8) (s, l) :=
  gives_bind (gives_replay _ _ _ _) (gives_pure _ _)

theorem gives_outPort (port : Word) (w : Byte) (s : State) (v : Long) (l : List Long) :
    Gives (outPort port w) (s, v :: l) () (s, l) :=
  gives_bind (gives_replay _ _ _ _) (gives_pure _ _)

theorem gives_readOp8 {o : ZOp8} {v : Byte} (h : s.peekOp8 o = some v) : Gives (readOp8 o) (s, []) v (s, []) := by
  cases o with
  | reg r => cases h; exact gives_bind (gives_z80Regs _) (gives_pure _ _)
  | hl => exact gives_bind (gives_bind (gives_z80Regs _) (gives_pure _ _)) (gives_loadZ80 h)

theorem gives_writeOp8 {o : ZOp8} {v : Byte} (h : s.pokeOp8 o v = some t) : Gives (writeOp8 o v) (s, []) () (t, []) := by
  cases o with
  | reg r => cases h; exact gives_setZ80 _ _
  | hl => exact gives_bind (gives_bind (gives_z80Regs _) (gives_pure _ _)) (gives_storeZ80 h)

theorem gives_xxd (x : Idx) (d : Byte) (s : State) (l : List Long) :
    Gives (xxd x d) (s, l) ((s.displaced d).xxdAt x d) (s.displaced d, l) :=
  gives_bind (gives_setZ80 _ _) (gives_bind (gives_z80Regs _) (gives_pure _ _))

theorem gives_readXd {x : Idx} {d : Byte} {v : Byte} (h : (s.displaced d).peek (s.xxdAt x d) = some v) :
    Gives (readXd x d) (s, []) v (s.displaced d, []) :=
  gives_bind (gives_xxd x d s []) (gives_loadZ80 (by cases x <;> exact h))

theorem gives_updateOp8 {o : ZOp8} {v w : Byte} {u : State} {f : Byte → Op Byte} (hr : s.peekOp8 o = some v)
    (hf : Gives (f v) (s, []) w (u, [])) (hw : u.pokeOp8 o w = some t) : Gives (updateOp8 o f) (s, []) () (t, []) :=
  gives_bind (gives_readOp8 hr) (gives_bind hf (gives_writeOp8 hw))

theorem gives_updateXd {x : Idx} {d v w : Byte} {u : State} {f : Byte → Op Byte}
    (hr : (s.displaced d).peek (s.xxdAt x d) = some v) (hf : Gives (f v) (s.displaced d, []) w (u, []))
    (hw : u.poke (s.xxdAt x d) w = some t) : Gives (updateXd x d f) (s, []) () (t, []) :=
  have e : (s.displaced d).xxdAt x d = s.xxdAt x d := by cases x <;> rfl
  gives_bind (gives_xxd x d s []) (e ▸ gives_bind (gives_loadZ80 hr) (gives_bind hf (gives_storeZ80 hw)))

theorem gives_load16Z80 {a v : Word} (h : s.peek16 a = some v) : Gives (load16Z80 a) (s, []) v (s, []) := by
  rw [State.peek16] at h
  split at h
  · rename_i lo hi h1 h2
    cases h
    exact gives_bind (gives_loadZ80 h1) (gives_bind (gives_loadZ80 h2) (gives_pure _ _))
  · cases h

theorem gives_store16Z80 {a v : Word} (h : s.poke16 a v = some t) : Gives (store16Z80 a v) (s, []) () (t, []) := by
  rw [State.poke16, Option.bind_eq_some_iff] at h
  obtain ⟨u, h1, h2⟩ := h
  exact gives_bind (gives_storeZ80 h1) (gives_storeZ80 h2)

theorem gives_pushZ80 {v : Word} (h : s.pushZ v = some t) : Gives (pushZ80 v) (s, []) () (t, []) := by
  rw [State.pushZ] at h
  simp only [Option.bind_eq_some_iff] at h
  obtain ⟨u, h1, h2⟩ := h
  exact gives_bind (gives_setZ80 _ _) (gives_bind (gives_z80Regs _) (gives_bind (gives_storeZ80 h1)
    (gives_bind (gives_setZ80 _ _) (gives_bind (gives_z80Regs _) (gives_storeZ80 h2)))))

theorem gives_popZ80 {v : Word} (h : s.popZ = some (v, t)) : Gives popZ80 (s, []) v (t, []) := by
  rw [State.popZ, Option.map_eq_some_iff] at h
  obtain ⟨w, hw, h⟩ := h
  cases h
  rw [State.peek16] at hw
  split at hw
  · rename_i lo hi h1 h2
    cases hw
    refine gives_bind (gives_z80Regs _) (gives_bind (gives_loadZ80 h1) (gives_bind (gives_setZ80 _ _)
      (gives_bind (gives_z80Regs _) (gives_bind (gives_loadZ80 h2) (gives_bind (gives_setZ80 _ _)
        (gives_pure_eq rfl ?_))))))
    simp only [State.mapZ80, BitVec.add_assoc]
    rfl
  · cases hw

/-! ### Running a Z80 instruction -/

theorem runZ80_next {i : Instr} {rule : Word → Op (List Nat)} {data : List Nat} (hw : s.readyZ80)
    (h : Gives (rule s.z80.pc) (s.pastZ80 i, []) data (t, [])) : runZ80 i rule s = .next (t.endedZ80 i data) := by
  have hs : s.startZ80 = ⟨s, [], [], false⟩ := by simp only [State.startZ80, show s.waitZ80 = none from hw]
  have h0 := gives_setZ80 (fun z => z.begin (encodeZ80 i).length) (s, [])
  obtain ⟨d, h1⟩ := gives_bind h0 (f := fun _ => do let data ← rule s.z80.pc; spendZ80 (i.costZ80 data))
    (gives_bind h (gives_setZ80 (fun z => z.spend (i.costZ80 data)) _)) []
  rw [runZ80, hs]
  exact congrArg (finishZ80 (.exec i) s) h1

/-- A Z80 instruction that waited runs again with its answers (log 4). -/
theorem runZ80_held {i : Instr} {rule : Word → Op (List Nat)} {data : List Nat} {z : Z80} {v : Long}
    (hw : s.heldZ80 i z v) (h : Gives (rule z.pc) ((s.backZ80 z).pastZ80 i, [v]) data (t, [])) :
    runZ80 i rule s = .next (t.endedZ80 i data) := by
  have hs : s.startZ80 = ⟨s.backZ80 z, [v], [], false⟩ := by
    rw [State.startZ80, show s.waitZ80 = _ from hw]
    rfl
  have h0 := gives_setZ80 (fun z => z.begin (encodeZ80 i).length) (s.backZ80 z, [v])
  obtain ⟨d, h1⟩ := gives_bind h0 (f := fun _ => do let data ← rule z.pc; spendZ80 (i.costZ80 data))
    (gives_bind h (gives_setZ80 (fun z => z.spend (i.costZ80 data)) _)) []
  rw [runZ80, hs]
  exact congrArg (finishZ80 (.exec i) s) h1

/-- As `runZ80_next`, for the instruction that `x` runs. -/
theorem nextZ80 {x : Host.Outcome State Fault Refusal} {i : Instr} {rule : Word → Op (List Nat)} {data : List Nat}
    (hx : x = runZ80 i rule s) (hw : s.readyZ80) (h : Gives (rule s.z80.pc) (s.pastZ80 i, []) data (t, [])) :
    x = .next (t.endedZ80 i data) := hx.trans (runZ80_next hw h)

/-- As `runZ80_held`, for the instruction that `x` runs. -/
theorem heldZ80 {x : Host.Outcome State Fault Refusal} {i : Instr} {rule : Word → Op (List Nat)} {data : List Nat} {z : Z80}
    {v : Long} (hx : x = runZ80 i rule s) (hw : s.heldZ80 i z v)
    (h : Gives (rule z.pc) ((s.backZ80 z).pastZ80 i, [v]) data (t, [])) : x = .next (t.endedZ80 i data) :=
  hx.trans (runZ80_held hw h)

end Sys2Proof.Laws
end

