-- ==== Sys2Proof/Laws/PerInstr.lean ====
section
/-! SUPPORT. The family Length: how many words or bytes an instruction takes, as 30 R185 and R220 bound it, for every
constructor. -/

namespace Sys2Proof.Laws.Length

/-- An M68K instruction is one to five words and a Z80 instruction one to four bytes (30 R185, R220). -/
def Statement (i : Instr) : Prop :=
  if i.is68k then 1 ≤ (encode68k i).length ∧ (encode68k i).length ≤ 5
  else 1 ≤ (encodeZ80 i).length ∧ (encodeZ80 i).length ≤ 4

theorem of_ext {i : Instr} (h : encodeZ80 i = []) (hx : (ext68k i).length ≤ 4) : Statement i := by
  simp only [Statement, Instr.is68k, h, List.isEmpty_nil, if_true, encode68k, List.length_cons]
  omega

theorem of_bytes (n : Nat) {i : Instr} (h : (encodeZ80 i).length = n) (h1 : 0 < n) (h4 : n ≤ 4) : Statement i := by
  have h0 : i.is68k = false := by
    unfold Instr.is68k
    cases hb : encodeZ80 i with
    | nil => simp only [hb, List.length_nil] at h; omega
    | cons _ _ => rfl
  simp only [Statement, h0, Bool.false_eq_true, if_false, h]
  omega

/-- An operand has at most two extension words (30 R186). -/
theorem ea_le (sz : Size) (ea : Ea) : (ea.ext sz).length ≤ 2 := by
  cases ea <;> cases sz <;> simp [Ea.ext, immExt]

/-- An immediate has at most two extension words (30 R189). -/
theorem imm_le (sz : Size) (v : Long) : (immExt sz v).length ≤ 2 := by
  cases sz <;> simp [immExt]

/-- A displacement has at most one extension word (30 R192). -/
theorem disp_le (d : Disp) : d.ext.length ≤ 1 := by
  cases d <;> simp [Disp.ext]

theorem add_le {xs ys : List Word} (hx : xs.length ≤ 2) (hy : ys.length ≤ 2) : (xs ++ ys).length ≤ 4 := by
  rw [List.length_append]; omega

theorem oriToCcr (imm : Word) : Statement (.oriToCcr imm) := of_ext rfl (Nat.le_add_left 1 3)
theorem oriToSr (imm : Word) : Statement (.oriToSr imm) := of_ext rfl (Nat.le_add_left 1 3)
theorem andiToCcr (imm : Word) : Statement (.andiToCcr imm) := of_ext rfl (Nat.le_add_left 1 3)
theorem andiToSr (imm : Word) : Statement (.andiToSr imm) := of_ext rfl (Nat.le_add_left 1 3)
theorem eoriToCcr (imm : Word) : Statement (.eoriToCcr imm) := of_ext rfl (Nat.le_add_left 1 3)
theorem eoriToSr (imm : Word) : Statement (.eoriToSr imm) := of_ext rfl (Nat.le_add_left 1 3)
theorem ori (sz : Size) (imm : Long) (ea : Ea) : Statement (.ori sz imm ea) := of_ext rfl (add_le (imm_le sz imm) (ea_le sz ea))
theorem andi (sz : Size) (imm : Long) (ea : Ea) : Statement (.andi sz imm ea) := of_ext rfl (add_le (imm_le sz imm) (ea_le sz ea))
theorem subi (sz : Size) (imm : Long) (ea : Ea) : Statement (.subi sz imm ea) := of_ext rfl (add_le (imm_le sz imm) (ea_le sz ea))
theorem addi (sz : Size) (imm : Long) (ea : Ea) : Statement (.addi sz imm ea) := of_ext rfl (add_le (imm_le sz imm) (ea_le sz ea))
theorem eori (sz : Size) (imm : Long) (ea : Ea) : Statement (.eori sz imm ea) := of_ext rfl (add_le (imm_le sz imm) (ea_le sz ea))
theorem cmpi (sz : Size) (imm : Long) (ea : Ea) : Statement (.cmpi sz imm ea) := of_ext rfl (add_le (imm_le sz imm) (ea_le sz ea))
theorem btstImm (k : Word) (ea : Ea) : Statement (.btstImm k ea) := of_ext rfl ((Nat.succ_le_succ (ea_le .b ea)).trans (by decide))
theorem bchgImm (k : Word) (ea : Ea) : Statement (.bchgImm k ea) := of_ext rfl ((Nat.succ_le_succ (ea_le .b ea)).trans (by decide))
theorem bclrImm (k : Word) (ea : Ea) : Statement (.bclrImm k ea) := of_ext rfl ((Nat.succ_le_succ (ea_le .b ea)).trans (by decide))
theorem bsetImm (k : Word) (ea : Ea) : Statement (.bsetImm k ea) := of_ext rfl ((Nat.succ_le_succ (ea_le .b ea)).trans (by decide))
theorem btstReg (n : Reg) (ea : Ea) : Statement (.btstReg n ea) := of_ext rfl ((ea_le .b ea).trans (by decide))
theorem bchgReg (n : Reg) (ea : Ea) : Statement (.bchgReg n ea) := of_ext rfl ((ea_le .b ea).trans (by decide))
theorem bclrReg (n : Reg) (ea : Ea) : Statement (.bclrReg n ea) := of_ext rfl ((ea_le .b ea).trans (by decide))
theorem bsetReg (n : Reg) (ea : Ea) : Statement (.bsetReg n ea) := of_ext rfl ((ea_le .b ea).trans (by decide))
theorem movepLoad (sz : Size) (x y : Reg) (d : Word) : Statement (.movepLoad sz x y d) := of_ext rfl (Nat.le_add_left 1 3)
theorem movepStore (sz : Size) (x y : Reg) (d : Word) : Statement (.movepStore sz x y d) := of_ext rfl (Nat.le_add_left 1 3)
theorem moveB (src dst : Ea) : Statement (.moveB src dst) := of_ext rfl (add_le (ea_le .b src) (ea_le .b dst))
theorem moveL (src dst : Ea) : Statement (.moveL src dst) := of_ext rfl (add_le (ea_le .l src) (ea_le .l dst))
theorem moveW (src dst : Ea) : Statement (.moveW src dst) := of_ext rfl (add_le (ea_le .w src) (ea_le .w dst))
theorem moveaL (src : Ea) (n : Reg) : Statement (.moveaL src n) := of_ext rfl ((ea_le .l src).trans (by decide))
theorem moveaW (src : Ea) (n : Reg) : Statement (.moveaW src n) := of_ext rfl ((ea_le .w src).trans (by decide))
theorem negx (sz : Size) (ea : Ea) : Statement (.negx sz ea) := of_ext rfl ((ea_le sz ea).trans (by decide))
theorem moveFromSr (ea : Ea) : Statement (.moveFromSr ea) := of_ext rfl ((ea_le .w ea).trans (by decide))
theorem chk (ea : Ea) (n : Reg) : Statement (.chk ea n) := of_ext rfl ((ea_le .w ea).trans (by decide))
theorem lea (ea : Ea) (n : Reg) : Statement (.lea ea n) := of_ext rfl ((ea_le .l ea).trans (by decide))
theorem clr (sz : Size) (ea : Ea) : Statement (.clr sz ea) := of_ext rfl ((ea_le sz ea).trans (by decide))
theorem neg (sz : Size) (ea : Ea) : Statement (.neg sz ea) := of_ext rfl ((ea_le sz ea).trans (by decide))
theorem moveToCcr (ea : Ea) : Statement (.moveToCcr ea) := of_ext rfl ((ea_le .w ea).trans (by decide))
theorem notOp (sz : Size) (ea : Ea) : Statement (.notOp sz ea) := of_ext rfl ((ea_le sz ea).trans (by decide))
theorem moveToSr (ea : Ea) : Statement (.moveToSr ea) := of_ext rfl ((ea_le .w ea).trans (by decide))
theorem nbcd (ea : Ea) : Statement (.nbcd ea) := of_ext rfl ((ea_le .b ea).trans (by decide))
theorem swap (n : Reg) : Statement (.swap n) := of_ext rfl (Nat.zero_le 4)
theorem pea (ea : Ea) : Statement (.pea ea) := of_ext rfl ((ea_le .l ea).trans (by decide))
theorem extW (n : Reg) : Statement (.extW n) := of_ext rfl (Nat.zero_le 4)
theorem extL (n : Reg) : Statement (.extL n) := of_ext rfl (Nat.zero_le 4)
theorem movemStore (sz : Size) (mask : Word) (ea : Ea) : Statement (.movemStore sz mask ea) := of_ext rfl ((Nat.succ_le_succ (ea_le sz ea)).trans (by decide))
theorem tst (sz : Size) (ea : Ea) : Statement (.tst sz ea) := of_ext rfl ((ea_le sz ea).trans (by decide))
theorem tas (ea : Ea) : Statement (.tas ea) := of_ext rfl ((ea_le .b ea).trans (by decide))
theorem illegal (w : Word) : Statement (.illegal w) := of_ext rfl (Nat.zero_le 4)
theorem movemLoad (sz : Size) (mask : Word) (ea : Ea) : Statement (.movemLoad sz mask ea) := of_ext rfl ((Nat.succ_le_succ (ea_le sz ea)).trans (by decide))
theorem trap (v : BitVec 4) : Statement (.trap v) := of_ext rfl (Nat.zero_le 4)
theorem link (n : Reg) (d : Word) : Statement (.link n d) := of_ext rfl (Nat.le_add_left 1 3)
theorem unlk (n : Reg) : Statement (.unlk n) := of_ext rfl (Nat.zero_le 4)
theorem moveUsp (toAn : Bool) (n : Reg) : Statement (.moveUsp toAn n) := of_ext rfl (Nat.zero_le 4)
theorem stop (imm : Word) : Statement (.stop imm) := of_ext rfl (Nat.le_add_left 1 3)
theorem jsr (ea : Ea) : Statement (.jsr ea) := of_ext rfl ((ea_le .l ea).trans (by decide))
theorem jmp (ea : Ea) : Statement (.jmp ea) := of_ext rfl ((ea_le .l ea).trans (by decide))
theorem addq (sz : Size) (q : BitVec 3) (ea : Ea) : Statement (.addq sz q ea) := of_ext rfl ((ea_le sz ea).trans (by decide))
theorem subq (sz : Size) (q : BitVec 3) (ea : Ea) : Statement (.subq sz q ea) := of_ext rfl ((ea_le sz ea).trans (by decide))
theorem dbcc (cnd : Cond) (n : Reg) (d : Word) : Statement (.dbcc cnd n d) := of_ext rfl (Nat.le_add_left 1 3)
theorem scc (cnd : Cond) (ea : Ea) : Statement (.scc cnd ea) := of_ext rfl ((ea_le .b ea).trans (by decide))
theorem bra (disp : Disp) : Statement (.bra disp) := of_ext rfl ((disp_le disp).trans (by decide))
theorem bsr (disp : Disp) : Statement (.bsr disp) := of_ext rfl ((disp_le disp).trans (by decide))
theorem bcc (cnd : Cond) (disp : Disp) : Statement (.bcc cnd disp) := of_ext rfl ((disp_le disp).trans (by decide))
theorem moveq (n : Reg) (d : Byte) : Statement (.moveq n d) := of_ext rfl (Nat.zero_le 4)
theorem divu (ea : Ea) (n : Reg) : Statement (.divu ea n) := of_ext rfl ((ea_le .w ea).trans (by decide))
theorem divs (ea : Ea) (n : Reg) : Statement (.divs ea n) := of_ext rfl ((ea_le .w ea).trans (by decide))
theorem sbcd (mem : Bool) (y x : Reg) : Statement (.sbcd mem y x) := of_ext rfl (Nat.zero_le 4)
theorem orToDn (sz : Size) (ea : Ea) (n : Reg) : Statement (.orToDn sz ea n) := of_ext rfl ((ea_le sz ea).trans (by decide))
theorem orToEa (sz : Size) (n : Reg) (ea : Ea) : Statement (.orToEa sz n ea) := of_ext rfl ((ea_le sz ea).trans (by decide))
theorem subToDn (sz : Size) (ea : Ea) (n : Reg) : Statement (.subToDn sz ea n) := of_ext rfl ((ea_le sz ea).trans (by decide))
theorem subToEa (sz : Size) (n : Reg) (ea : Ea) : Statement (.subToEa sz n ea) := of_ext rfl ((ea_le sz ea).trans (by decide))
theorem suba (sz : Size) (ea : Ea) (n : Reg) : Statement (.suba sz ea n) := of_ext rfl ((ea_le sz ea).trans (by decide))
theorem subx (sz : Size) (mem : Bool) (y x : Reg) : Statement (.subx sz mem y x) := of_ext rfl (Nat.zero_le 4)
theorem addToDn (sz : Size) (ea : Ea) (n : Reg) : Statement (.addToDn sz ea n) := of_ext rfl ((ea_le sz ea).trans (by decide))
theorem addToEa (sz : Size) (n : Reg) (ea : Ea) : Statement (.addToEa sz n ea) := of_ext rfl ((ea_le sz ea).trans (by decide))
theorem adda (sz : Size) (ea : Ea) (n : Reg) : Statement (.adda sz ea n) := of_ext rfl ((ea_le sz ea).trans (by decide))
theorem addx (sz : Size) (mem : Bool) (y x : Reg) : Statement (.addx sz mem y x) := of_ext rfl (Nat.zero_le 4)
theorem lineA (w : BitVec 12) : Statement (.lineA w) := of_ext rfl (Nat.zero_le 4)
theorem cmp (sz : Size) (ea : Ea) (n : Reg) : Statement (.cmp sz ea n) := of_ext rfl ((ea_le sz ea).trans (by decide))
theorem cmpa (sz : Size) (ea : Ea) (n : Reg) : Statement (.cmpa sz ea n) := of_ext rfl ((ea_le sz ea).trans (by decide))
theorem eor (sz : Size) (n : Reg) (ea : Ea) : Statement (.eor sz n ea) := of_ext rfl ((ea_le sz ea).trans (by decide))
theorem cmpm (sz : Size) (y x : Reg) : Statement (.cmpm sz y x) := of_ext rfl (Nat.zero_le 4)
theorem mulu (ea : Ea) (n : Reg) : Statement (.mulu ea n) := of_ext rfl ((ea_le .w ea).trans (by decide))
theorem muls (ea : Ea) (n : Reg) : Statement (.muls ea n) := of_ext rfl ((ea_le .w ea).trans (by decide))
theorem abcd (mem : Bool) (y x : Reg) : Statement (.abcd mem y x) := of_ext rfl (Nat.zero_le 4)
theorem exgDD (x y : Reg) : Statement (.exgDD x y) := of_ext rfl (Nat.zero_le 4)
theorem exgAA (x y : Reg) : Statement (.exgAA x y) := of_ext rfl (Nat.zero_le 4)
theorem exgDA (x y : Reg) : Statement (.exgDA x y) := of_ext rfl (Nat.zero_le 4)
theorem andToDn (sz : Size) (ea : Ea) (n : Reg) : Statement (.andToDn sz ea n) := of_ext rfl ((ea_le sz ea).trans (by decide))
theorem andToEa (sz : Size) (n : Reg) (ea : Ea) : Statement (.andToEa sz n ea) := of_ext rfl ((ea_le sz ea).trans (by decide))
theorem asrReg (sz : Size) (c : ShiftCount) (y : Reg) : Statement (.asrReg sz c y) := of_ext rfl (Nat.zero_le 4)
theorem aslReg (sz : Size) (c : ShiftCount) (y : Reg) : Statement (.aslReg sz c y) := of_ext rfl (Nat.zero_le 4)
theorem lsrReg (sz : Size) (c : ShiftCount) (y : Reg) : Statement (.lsrReg sz c y) := of_ext rfl (Nat.zero_le 4)
theorem lslReg (sz : Size) (c : ShiftCount) (y : Reg) : Statement (.lslReg sz c y) := of_ext rfl (Nat.zero_le 4)
theorem roxrReg (sz : Size) (c : ShiftCount) (y : Reg) : Statement (.roxrReg sz c y) := of_ext rfl (Nat.zero_le 4)
theorem roxlReg (sz : Size) (c : ShiftCount) (y : Reg) : Statement (.roxlReg sz c y) := of_ext rfl (Nat.zero_le 4)
theorem rorReg (sz : Size) (c : ShiftCount) (y : Reg) : Statement (.rorReg sz c y) := of_ext rfl (Nat.zero_le 4)
theorem rolReg (sz : Size) (c : ShiftCount) (y : Reg) : Statement (.rolReg sz c y) := of_ext rfl (Nat.zero_le 4)
theorem asrMem (ea : Ea) : Statement (.asrMem ea) := of_ext rfl ((ea_le .w ea).trans (by decide))
theorem aslMem (ea : Ea) : Statement (.aslMem ea) := of_ext rfl ((ea_le .w ea).trans (by decide))
theorem lsrMem (ea : Ea) : Statement (.lsrMem ea) := of_ext rfl ((ea_le .w ea).trans (by decide))
theorem lslMem (ea : Ea) : Statement (.lslMem ea) := of_ext rfl ((ea_le .w ea).trans (by decide))
theorem roxrMem (ea : Ea) : Statement (.roxrMem ea) := of_ext rfl ((ea_le .w ea).trans (by decide))
theorem roxlMem (ea : Ea) : Statement (.roxlMem ea) := of_ext rfl ((ea_le .w ea).trans (by decide))
theorem rorMem (ea : Ea) : Statement (.rorMem ea) := of_ext rfl ((ea_le .w ea).trans (by decide))
theorem rolMem (ea : Ea) : Statement (.rolMem ea) := of_ext rfl ((ea_le .w ea).trans (by decide))
theorem lineF (w : BitVec 12) : Statement (.lineF w) := of_ext rfl (Nat.zero_le 4)
theorem zLdPairImm (p : ZPair) (nn : Word) : Statement (.zLdPairImm p nn) := of_bytes 3 rfl (by decide) (by decide)
theorem zLdIndA (p : BcDe) : Statement (.zLdIndA p) := of_bytes 1 rfl (by decide) (by decide)
theorem zLdAInd (p : BcDe) : Statement (.zLdAInd p) := of_bytes 1 rfl (by decide) (by decide)
theorem zIncPair (p : ZPair) : Statement (.zIncPair p) := of_bytes 1 rfl (by decide) (by decide)
theorem zDecPair (p : ZPair) : Statement (.zDecPair p) := of_bytes 1 rfl (by decide) (by decide)
theorem zIncR (o : ZOp8) : Statement (.zIncR o) := of_bytes 1 rfl (by decide) (by decide)
theorem zDecR (o : ZOp8) : Statement (.zDecR o) := of_bytes 1 rfl (by decide) (by decide)
theorem zLdRImm (r : ZReg) (n : Byte) : Statement (.zLdRImm r n) := of_bytes 2 rfl (by decide) (by decide)
theorem zLdHlImm (n : Byte) : Statement (.zLdHlImm n) := of_bytes 2 rfl (by decide) (by decide)
theorem zAddHl (p : ZPair) : Statement (.zAddHl p) := of_bytes 1 rfl (by decide) (by decide)
theorem zDjnz (e : Byte) : Statement (.zDjnz e) := of_bytes 2 rfl (by decide) (by decide)
theorem zJr (e : Byte) : Statement (.zJr e) := of_bytes 2 rfl (by decide) (by decide)
theorem zJrCc (cnd : ZJrCond) (e : Byte) : Statement (.zJrCc cnd e) := of_bytes 2 rfl (by decide) (by decide)
theorem zLdNnHl (nn : Word) : Statement (.zLdNnHl nn) := of_bytes 3 rfl (by decide) (by decide)
theorem zLdHlNn (nn : Word) : Statement (.zLdHlNn nn) := of_bytes 3 rfl (by decide) (by decide)
theorem zLdNnA (nn : Word) : Statement (.zLdNnA nn) := of_bytes 3 rfl (by decide) (by decide)
theorem zLdANn (nn : Word) : Statement (.zLdANn nn) := of_bytes 3 rfl (by decide) (by decide)
theorem zLdRR (dst src : ZReg) : Statement (.zLdRR dst src) := of_bytes 1 rfl (by decide) (by decide)
theorem zLdRHl (r : ZReg) : Statement (.zLdRHl r) := of_bytes 1 rfl (by decide) (by decide)
theorem zLdHlR (r : ZReg) : Statement (.zLdHlR r) := of_bytes 1 rfl (by decide) (by decide)
theorem zAddR (o : ZOp8) : Statement (.zAddR o) := of_bytes 1 rfl (by decide) (by decide)
theorem zAdcR (o : ZOp8) : Statement (.zAdcR o) := of_bytes 1 rfl (by decide) (by decide)
theorem zSubR (o : ZOp8) : Statement (.zSubR o) := of_bytes 1 rfl (by decide) (by decide)
theorem zSbcR (o : ZOp8) : Statement (.zSbcR o) := of_bytes 1 rfl (by decide) (by decide)
theorem zAndR (o : ZOp8) : Statement (.zAndR o) := of_bytes 1 rfl (by decide) (by decide)
theorem zXorR (o : ZOp8) : Statement (.zXorR o) := of_bytes 1 rfl (by decide) (by decide)
theorem zOrR (o : ZOp8) : Statement (.zOrR o) := of_bytes 1 rfl (by decide) (by decide)
theorem zCpR (o : ZOp8) : Statement (.zCpR o) := of_bytes 1 rfl (by decide) (by decide)
theorem zAddN (n : Byte) : Statement (.zAddN n) := of_bytes 2 rfl (by decide) (by decide)
theorem zAdcN (n : Byte) : Statement (.zAdcN n) := of_bytes 2 rfl (by decide) (by decide)
theorem zSubN (n : Byte) : Statement (.zSubN n) := of_bytes 2 rfl (by decide) (by decide)
theorem zSbcN (n : Byte) : Statement (.zSbcN n) := of_bytes 2 rfl (by decide) (by decide)
theorem zAndN (n : Byte) : Statement (.zAndN n) := of_bytes 2 rfl (by decide) (by decide)
theorem zXorN (n : Byte) : Statement (.zXorN n) := of_bytes 2 rfl (by decide) (by decide)
theorem zOrN (n : Byte) : Statement (.zOrN n) := of_bytes 2 rfl (by decide) (by decide)
theorem zCpN (n : Byte) : Statement (.zCpN n) := of_bytes 2 rfl (by decide) (by decide)
theorem zRetCc (cnd : ZCond) : Statement (.zRetCc cnd) := of_bytes 1 rfl (by decide) (by decide)
theorem zPop (q : ZPairQ) : Statement (.zPop q) := of_bytes 1 rfl (by decide) (by decide)
theorem zJpCc (cnd : ZCond) (nn : Word) : Statement (.zJpCc cnd nn) := of_bytes 3 rfl (by decide) (by decide)
theorem zJp (nn : Word) : Statement (.zJp nn) := of_bytes 3 rfl (by decide) (by decide)
theorem zCallCc (cnd : ZCond) (nn : Word) : Statement (.zCallCc cnd nn) := of_bytes 3 rfl (by decide) (by decide)
theorem zPush (q : ZPairQ) : Statement (.zPush q) := of_bytes 1 rfl (by decide) (by decide)
theorem zRst (t : BitVec 3) : Statement (.zRst t) := of_bytes 1 rfl (by decide) (by decide)
theorem zCbPrefix (op : Byte) : Statement (.zCbPrefix op) := of_bytes 2 rfl (by decide) (by decide)
theorem zCall (nn : Word) : Statement (.zCall nn) := of_bytes 3 rfl (by decide) (by decide)
theorem zOutNA (n : Byte) : Statement (.zOutNA n) := of_bytes 2 rfl (by decide) (by decide)
theorem zInAN (n : Byte) : Statement (.zInAN n) := of_bytes 2 rfl (by decide) (by decide)
theorem zDdPrefix (op : Byte) : Statement (.zDdPrefix op) := of_bytes 2 rfl (by decide) (by decide)
theorem zEdPrefix (op : Byte) : Statement (.zEdPrefix op) := of_bytes 2 rfl (by decide) (by decide)
theorem zFdPrefix (op : Byte) : Statement (.zFdPrefix op) := of_bytes 2 rfl (by decide) (by decide)
theorem zRlc (o : ZOp8) : Statement (.zRlc o) := of_bytes 2 rfl (by decide) (by decide)
theorem zRrc (o : ZOp8) : Statement (.zRrc o) := of_bytes 2 rfl (by decide) (by decide)
theorem zRl (o : ZOp8) : Statement (.zRl o) := of_bytes 2 rfl (by decide) (by decide)
theorem zRr (o : ZOp8) : Statement (.zRr o) := of_bytes 2 rfl (by decide) (by decide)
theorem zSla (o : ZOp8) : Statement (.zSla o) := of_bytes 2 rfl (by decide) (by decide)
theorem zSra (o : ZOp8) : Statement (.zSra o) := of_bytes 2 rfl (by decide) (by decide)
theorem zSrl (o : ZOp8) : Statement (.zSrl o) := of_bytes 2 rfl (by decide) (by decide)
theorem zBit (b : BitVec 3) (o : ZOp8) : Statement (.zBit b o) := of_bytes 2 rfl (by decide) (by decide)
theorem zRes (b : BitVec 3) (o : ZOp8) : Statement (.zRes b o) := of_bytes 2 rfl (by decide) (by decide)
theorem zSet (b : BitVec 3) (o : ZOp8) : Statement (.zSet b o) := of_bytes 2 rfl (by decide) (by decide)
theorem zInRC (r : ZReg) : Statement (.zInRC r) := of_bytes 2 rfl (by decide) (by decide)
theorem zOutCR (r : ZReg) : Statement (.zOutCR r) := of_bytes 2 rfl (by decide) (by decide)
theorem zSbcHl (p : ZPair) : Statement (.zSbcHl p) := of_bytes 2 rfl (by decide) (by decide)
theorem zAdcHl (p : ZPair) : Statement (.zAdcHl p) := of_bytes 2 rfl (by decide) (by decide)
theorem zLdNnPair (p : ZPair) (nn : Word) : Statement (.zLdNnPair p nn) := of_bytes 4 rfl (by decide) (by decide)
theorem zLdPairNn (p : ZPair) (nn : Word) : Statement (.zLdPairNn p nn) := of_bytes 4 rfl (by decide) (by decide)
theorem zAddXx (x : Idx) (p : ZPairX) : Statement (.zAddXx x p) := of_bytes 2 rfl (by decide) (by decide)
theorem zLdXxImm (x : Idx) (nn : Word) : Statement (.zLdXxImm x nn) := of_bytes 4 rfl (by decide) (by decide)
theorem zLdNnXx (x : Idx) (nn : Word) : Statement (.zLdNnXx x nn) := of_bytes 4 rfl (by decide) (by decide)
theorem zIncXx (x : Idx) : Statement (.zIncXx x) := of_bytes 2 rfl (by decide) (by decide)
theorem zLdXxNn (x : Idx) (nn : Word) : Statement (.zLdXxNn x nn) := of_bytes 4 rfl (by decide) (by decide)
theorem zDecXx (x : Idx) : Statement (.zDecXx x) := of_bytes 2 rfl (by decide) (by decide)
theorem zIncXd (x : Idx) (d : Byte) : Statement (.zIncXd x d) := of_bytes 3 rfl (by decide) (by decide)
theorem zDecXd (x : Idx) (d : Byte) : Statement (.zDecXd x d) := of_bytes 3 rfl (by decide) (by decide)
theorem zLdXdImm (x : Idx) (d n : Byte) : Statement (.zLdXdImm x d n) := of_bytes 4 rfl (by decide) (by decide)
theorem zLdRXd (x : Idx) (r : ZReg) (d : Byte) : Statement (.zLdRXd x r d) := of_bytes 3 rfl (by decide) (by decide)
theorem zLdXdR (x : Idx) (r : ZReg) (d : Byte) : Statement (.zLdXdR x r d) := of_bytes 3 rfl (by decide) (by decide)
theorem zAddXd (x : Idx) (d : Byte) : Statement (.zAddXd x d) := of_bytes 3 rfl (by decide) (by decide)
theorem zAdcXd (x : Idx) (d : Byte) : Statement (.zAdcXd x d) := of_bytes 3 rfl (by decide) (by decide)
theorem zSubXd (x : Idx) (d : Byte) : Statement (.zSubXd x d) := of_bytes 3 rfl (by decide) (by decide)
theorem zSbcXd (x : Idx) (d : Byte) : Statement (.zSbcXd x d) := of_bytes 3 rfl (by decide) (by decide)
theorem zAndXd (x : Idx) (d : Byte) : Statement (.zAndXd x d) := of_bytes 3 rfl (by decide) (by decide)
theorem zXorXd (x : Idx) (d : Byte) : Statement (.zXorXd x d) := of_bytes 3 rfl (by decide) (by decide)
theorem zOrXd (x : Idx) (d : Byte) : Statement (.zOrXd x d) := of_bytes 3 rfl (by decide) (by decide)
theorem zCpXd (x : Idx) (d : Byte) : Statement (.zCpXd x d) := of_bytes 3 rfl (by decide) (by decide)
theorem zPopXx (x : Idx) : Statement (.zPopXx x) := of_bytes 2 rfl (by decide) (by decide)
theorem zExSpXx (x : Idx) : Statement (.zExSpXx x) := of_bytes 2 rfl (by decide) (by decide)
theorem zPushXx (x : Idx) : Statement (.zPushXx x) := of_bytes 2 rfl (by decide) (by decide)
theorem zJpXx (x : Idx) : Statement (.zJpXx x) := of_bytes 2 rfl (by decide) (by decide)
theorem zLdSpXx (x : Idx) : Statement (.zLdSpXx x) := of_bytes 2 rfl (by decide) (by decide)
theorem zDdcbPrefix (x : Idx) (d op : Byte) : Statement (.zDdcbPrefix x d op) := of_bytes 4 rfl (by decide) (by decide)
theorem zRlcXd (x : Idx) (d : Byte) : Statement (.zRlcXd x d) := of_bytes 4 rfl (by decide) (by decide)
theorem zRrcXd (x : Idx) (d : Byte) : Statement (.zRrcXd x d) := of_bytes 4 rfl (by decide) (by decide)
theorem zRlXd (x : Idx) (d : Byte) : Statement (.zRlXd x d) := of_bytes 4 rfl (by decide) (by decide)
theorem zRrXd (x : Idx) (d : Byte) : Statement (.zRrXd x d) := of_bytes 4 rfl (by decide) (by decide)
theorem zSlaXd (x : Idx) (d : Byte) : Statement (.zSlaXd x d) := of_bytes 4 rfl (by decide) (by decide)
theorem zSraXd (x : Idx) (d : Byte) : Statement (.zSraXd x d) := of_bytes 4 rfl (by decide) (by decide)
theorem zSrlXd (x : Idx) (d : Byte) : Statement (.zSrlXd x d) := of_bytes 4 rfl (by decide) (by decide)
theorem zBitXd (x : Idx) (d : Byte) (b : BitVec 3) : Statement (.zBitXd x d b) := of_bytes 4 rfl (by decide) (by decide)
theorem zResXd (x : Idx) (d : Byte) (b : BitVec 3) : Statement (.zResXd x d b) := of_bytes 4 rfl (by decide) (by decide)
theorem zSetXd (x : Idx) (d : Byte) (b : BitVec 3) : Statement (.zSetXd x d b) := of_bytes 4 rfl (by decide) (by decide)
theorem reset : Statement .reset := of_ext rfl (Nat.zero_le 4)
theorem nop : Statement .nop := of_ext rfl (Nat.zero_le 4)
theorem rte : Statement .rte := of_ext rfl (Nat.zero_le 4)
theorem rts : Statement .rts := of_ext rfl (Nat.zero_le 4)
theorem trapv : Statement .trapv := of_ext rfl (Nat.zero_le 4)
theorem rtr : Statement .rtr := of_ext rfl (Nat.zero_le 4)
theorem zNop : Statement .zNop := of_bytes 1 rfl (by decide) (by decide)
theorem zRlca : Statement .zRlca := of_bytes 1 rfl (by decide) (by decide)
theorem zExAf : Statement .zExAf := of_bytes 1 rfl (by decide) (by decide)
theorem zRrca : Statement .zRrca := of_bytes 1 rfl (by decide) (by decide)
theorem zRla : Statement .zRla := of_bytes 1 rfl (by decide) (by decide)
theorem zRra : Statement .zRra := of_bytes 1 rfl (by decide) (by decide)
theorem zDaa : Statement .zDaa := of_bytes 1 rfl (by decide) (by decide)
theorem zCpl : Statement .zCpl := of_bytes 1 rfl (by decide) (by decide)
theorem zScf : Statement .zScf := of_bytes 1 rfl (by decide) (by decide)
theorem zCcf : Statement .zCcf := of_bytes 1 rfl (by decide) (by decide)
theorem zHalt : Statement .zHalt := of_bytes 1 rfl (by decide) (by decide)
theorem zRet : Statement .zRet := of_bytes 1 rfl (by decide) (by decide)
theorem zExx : Statement .zExx := of_bytes 1 rfl (by decide) (by decide)
theorem zExSpHl : Statement .zExSpHl := of_bytes 1 rfl (by decide) (by decide)
theorem zJpHl : Statement .zJpHl := of_bytes 1 rfl (by decide) (by decide)
theorem zExDeHl : Statement .zExDeHl := of_bytes 1 rfl (by decide) (by decide)
theorem zDi : Statement .zDi := of_bytes 1 rfl (by decide) (by decide)
theorem zLdSpHl : Statement .zLdSpHl := of_bytes 1 rfl (by decide) (by decide)
theorem zEi : Statement .zEi := of_bytes 1 rfl (by decide) (by decide)
theorem zNeg : Statement .zNeg := of_bytes 2 rfl (by decide) (by decide)
theorem zRetn : Statement .zRetn := of_bytes 2 rfl (by decide) (by decide)
theorem zReti : Statement .zReti := of_bytes 2 rfl (by decide) (by decide)
theorem zIm0 : Statement .zIm0 := of_bytes 2 rfl (by decide) (by decide)
theorem zIm1 : Statement .zIm1 := of_bytes 2 rfl (by decide) (by decide)
theorem zIm2 : Statement .zIm2 := of_bytes 2 rfl (by decide) (by decide)
theorem zLdIA : Statement .zLdIA := of_bytes 2 rfl (by decide) (by decide)
theorem zLdRfA : Statement .zLdRfA := of_bytes 2 rfl (by decide) (by decide)
theorem zLdAI : Statement .zLdAI := of_bytes 2 rfl (by decide) (by decide)
theorem zLdARf : Statement .zLdARf := of_bytes 2 rfl (by decide) (by decide)
theorem zRrd : Statement .zRrd := of_bytes 2 rfl (by decide) (by decide)
theorem zRld : Statement .zRld := of_bytes 2 rfl (by decide) (by decide)
theorem zLdi : Statement .zLdi := of_bytes 2 rfl (by decide) (by decide)
theorem zCpi : Statement .zCpi := of_bytes 2 rfl (by decide) (by decide)
theorem zIni : Statement .zIni := of_bytes 2 rfl (by decide) (by decide)
theorem zOuti : Statement .zOuti := of_bytes 2 rfl (by decide) (by decide)
theorem zLdd : Statement .zLdd := of_bytes 2 rfl (by decide) (by decide)
theorem zCpd : Statement .zCpd := of_bytes 2 rfl (by decide) (by decide)
theorem zInd : Statement .zInd := of_bytes 2 rfl (by decide) (by decide)
theorem zOutd : Statement .zOutd := of_bytes 2 rfl (by decide) (by decide)
theorem zLdir : Statement .zLdir := of_bytes 2 rfl (by decide) (by decide)
theorem zCpir : Statement .zCpir := of_bytes 2 rfl (by decide) (by decide)
theorem zInir : Statement .zInir := of_bytes 2 rfl (by decide) (by decide)
theorem zOtir : Statement .zOtir := of_bytes 2 rfl (by decide) (by decide)
theorem zLddr : Statement .zLddr := of_bytes 2 rfl (by decide) (by decide)
theorem zCpdr : Statement .zCpdr := of_bytes 2 rfl (by decide) (by decide)
theorem zIndr : Statement .zIndr := of_bytes 2 rfl (by decide) (by decide)
theorem zOtdr : Statement .zOtdr := of_bytes 2 rfl (by decide) (by decide)

end Sys2Proof.Laws.Length
end

