-- ==== Sys2Proof/Laws/Turn.lean ====
section
/-! SUPPORT. Whose turn is next, case by case, and how a run goes on. -/

namespace Sys2Proof.Laws

open Sys2Proof.Machine

variable {s t : State}

/-- A scheduled turn is taken, and nothing else changes. -/
theorem nextTurn_scheduled {n : Turn} {r : List Turn} (h : s.schedule = n :: r) : s.nextTurn = (n, { s with schedule := r }) := by
  simp only [State.nextTurn, h]

/-- The turn that fairness owes comes when the block before it has been taken. -/
theorem nextTurn_owed (h : s.schedule = []) (hd : s.fairDue = true) :
    s.nextTurn = (s.fairTurn, { s with turns := s.turns + 1, fairDue := false }) := by
  simp only [State.nextTurn, h, hd, if_true]

/-- A block of free turns begins with its first turn, and then owes a fair one. -/
theorem nextTurn_block {n : Turn} {r : List Turn} (h : s.schedule = []) (hd : s.fairDue = false)
    (hb : Config.turnsBefore s.turns = n :: r) : s.nextTurn = (n, { s with schedule := r, fairDue := true }) := by
  simp [State.nextTurn, h, hd, hb]

/-- An empty block owes its fair turn at once. -/
theorem nextTurn_no_block (h : s.schedule = []) (hd : s.fairDue = false) (hb : Config.turnsBefore s.turns = []) :
    s.nextTurn = (s.fairTurn, { s with turns := s.turns + 1 }) := by
  simp [State.nextTurn, h, hd, hb]

/-- The owed turn is the one whose round it is, if its agent takes steps. -/
theorem fairTurn_of_alive {n : Turn} {r : List Turn} (h : fairTurns.drop (s.turns % 4) = n :: r)
    (ha : s.dead (agentOf n) = none) : s.fairTurn = n := by
  simp [State.fairTurn, h, ha]

/-- A run of `n + 1` steps is a step and a run of `n`. -/
theorem after_step (n : Nat) (h : step s = .next t) : s.after (n + 1) = t.after n := by
  simp only [State.after, h]

/-- A run stops where a step does. -/
theorem after_stopped (n : Nat) (h : ∀ t, step s ≠ .next t) : s.after (n + 1) = none := by
  rw [State.after]
  split
  · exact absurd ‹_› (h _)
  · rfl

end Sys2Proof.Laws
end

