-- ==== Sys2Proof/Machine/Host.lean ====
section
/-! DEFINITION. The host's clocks and budgets (70 R822, R823): definitions the step does not use. -/

namespace Sys2Proof.Machine

/-- The M68K clock in Hz: a seventh of the master clock (70 R822). -/
def clock68k (r : Region) : Rat := Config.masterClock r / 7

/-- The Z80 clock in Hz: a fifteenth of the master clock (70 R822). -/
def clockZ80 (r : Region) : Rat := Config.masterClock r / 15

/-- What one `advanceFrame(speedFactor)` adds to a budget (70 R823). -/
def frameBudget (clock speedFactor : Rat) : Rat := clock / Config.frameRate * speedFactor

/-- M68K may still step in this frame: its counter is below its budget and it has no mark but that of a halt (70 R823). -/
def runs68k (s : State) (budget : Rat) : Bool := decide ((s.m68k.cyc : Rat) < budget) && (s.dead .m68k).isNone

/-- Z80 may still step in this frame (70 R823). -/
def runsZ80 (s : State) (budget : Rat) : Bool := decide ((s.z80.cyc : Rat) < budget) && (s.dead .z80).isNone

end Sys2Proof.Machine
end

