-- ==== Sys2Proof/Tests/Slice0.lean ====
section
/-! SUPPORT. The tests: words of every instruction decode, terms that are no instruction are refused, the vectors of the spec's
table of test vectors and the examples of its rules, and a witness for every statement with hypotheses. -/

set_option maxRecDepth 20000
set_option Elab.async false

namespace Sys2Proof.Tests

open Sys2Proof Sys2Proof.Machine

/-- The bytes at an M68K address. -/
def bytesAt (s : State) (a n : Nat) : List Byte := (List.range n).map fun k => s.mem.read (a + k)

/-- The bytes at a Z80 address in ZRAM. -/
def zbytesAt (s : State) (a n : Nat) : List Byte := (List.range n).map fun k => s.mem.read (0xA00000 + a + k)

/-- What `g` reads off the next state. -/
def nextOf {α : Type} (g : State → α) (x : Host.Outcome State Fault Refusal) : Option α :=
  match x with
  | .next s => some (g s)
  | _ => none

/-- Memory with runs of bytes. -/
def fill (m : Memory) (base : Nat) : List (Nat × List Byte) → Memory
  | [] => m
  | (a, bs) :: r => fill (m.writeList (base + a) bs) base r

/-- M68K at 0x1000 with A7 = 0x00FFE000 and the words there, ready to step. -/
def start68k (ws : List Word) (mem : List (Nat × List Byte)) (f : M68k → M68k) : State :=
  let s := State.reset
  { s with m68k := f { s.m68k.setSp 0x00FFE000#32 with pc := 0x1000#32 }, mem := fill [] 0 mem }.place68k ws

/-- What `g` reads after one step of M68K. -/
def after68k {α : Type} (ws : List Word) (mem : List (Nat × List Byte)) (f : M68k → M68k) (g : State → α) : Option α :=
  nextOf g (step (start68k ws mem f))

/-- Z80 at 0x0100 with the bytes there, ready to step. -/
def startZ80 (bs : List Byte) (mem : List (Nat × List Byte)) (f : Z80 → Z80) : State :=
  let s := State.reset
  { s with z80 := f { s.z80 with pc := 0x0100#16 }, mem := fill [] 0xA00000 mem }.placeZ80 bs

/-- What `g` reads after one step of Z80. -/
def afterZ80 {α : Type} (bs : List Byte) (mem : List (Nat × List Byte)) (f : Z80 → Z80) (g : State → α) : Option α :=
  nextOf g (step (startZ80 bs mem f))

/-! ### Decoding -/

/-- M68K words written out from the encodings of 30 and of the rules (part 1): each decodes to its instruction, with no word over. -/
theorem test_decode_m68k_1 :
    decode68k [0x003C, 0x0015] = (.oriToCcr 0x15, []) ∧
    decode68k [0x007C, 0x0700] = (.oriToSr 0x700, []) ∧
    decode68k [0x023C, 0x001F] = (.andiToCcr 0x1F, []) ∧
    decode68k [0x027C, 0xF8FF] = (.andiToSr 0xF8FF, []) ∧
    decode68k [0x0A3C, 0x0001] = (.eoriToCcr 1, []) ∧
    decode68k [0x0A7C, 0x2000] = (.eoriToSr 0x2000, []) ∧
    decode68k [0x0013, 0x00AB] = (.ori .b 0xAB (.ind 3), []) ∧
    decode68k [0x0241, 0x1234] = (.andi .w 0x1234 (.dn 1), []) ∧
    decode68k [0x049A, 0x0001, 0x0002] = (.subi .l 0x00010002 (.post 2), []) ∧
    decode68k [0x0627, 0x0001] = (.addi .b 1 (.pre 7), []) ∧
    decode68k [0x0A6D, 0x00FF, 0x0010] = (.eori .w 0xFF (.disp 5 0x10), []) ∧
    decode68k [0x0CB8, 0x0000, 0x0005, 0x8000] = (.cmpi .l 5 (.absW 0x8000), []) ∧
    decode68k [0x0801, 0x001F] = (.btstImm 0x1F (.dn 1), []) ∧
    decode68k [0x0852, 0x0003] = (.bchgImm 3 (.ind 2), []) ∧
    decode68k [0x0892, 0x0003] = (.bclrImm 3 (.ind 2), []) ∧
    decode68k [0x08D2, 0x0003] = (.bsetImm 3 (.ind 2), []) ∧
    decode68k [0x073C, 0x0080] = (.btstReg 3 (.imm 0x80), []) ∧
    decode68k [0x0752] = (.bchgReg 3 (.ind 2), []) ∧
    decode68k [0x0792] = (.bclrReg 3 (.ind 2), []) ∧
    decode68k [0x07D2] = (.bsetReg 3 (.ind 2), []) := by decide +kernel

/-- M68K words written out from the encodings of 30 and of the rules (part 2): each decodes to its instruction, with no word over. -/
theorem test_decode_m68k_2 :
    decode68k [0x054B, 0x0008] = (.movepLoad .l 2 3 8, []) ∧
    decode68k [0x058B, 0x0008] = (.movepStore .w 2 3 8, []) ∧
    decode68k [0x1419] = (.moveB (.post 1) (.dn 2), []) ∧
    decode68k [0x2F01] = (.moveL (.dn 1) (.pre 7), []) ∧
    decode68k [0x33FC, 0x1234, 0x00FF, 0x8000] = (.moveW (.imm 0x1234) (.absL 0x00FF8000), []) ∧
    decode68k [0x247A, 0x0010] = (.moveaL (.pcDisp 0x10) 2, []) ∧
    decode68k [0x3447] = (.moveaW (.dn 7) 2, []) ∧
    decode68k [0x4043] = (.negx .w (.dn 3), []) ∧
    decode68k [0x40C2] = (.moveFromSr (.dn 2), []) ∧
    decode68k [0x4991] = (.chk (.ind 1) 4, []) ∧
    decode68k [0x4BF2, 0x1804] = (.lea (.index 2 0x1804) 5, []) ∧
    decode68k [0x4293] = (.clr .l (.ind 3), []) ∧
    decode68k [0x4400] = (.neg .b (.dn 0), []) ∧
    decode68k [0x44C5] = (.moveToCcr (.dn 5), []) ∧
    decode68k [0x4641] = (.notOp .w (.dn 1), []) ∧
    decode68k [0x46C5] = (.moveToSr (.dn 5), []) ∧
    decode68k [0x4803] = (.nbcd (.dn 3), []) ∧
    decode68k [0x4846] = (.swap 6, []) ∧
    decode68k [0x4852] = (.pea (.ind 2), []) ∧
    decode68k [0x4881] = (.extW 1, []) := by decide +kernel

/-- M68K words written out from the encodings of 30 and of the rules (part 3): each decodes to its instruction, with no word over. -/
theorem test_decode_m68k_3 :
    decode68k [0x48C1] = (.extL 1, []) ∧
    decode68k [0x48E7, 0xC0C0] = (.movemStore .l 0xC0C0 (.pre 7), []) ∧
    decode68k [0x4A10] = (.tst .b (.ind 0), []) ∧
    decode68k [0x4AD0] = (.tas (.ind 0), []) ∧
    decode68k [0x4AFC] = (.illegal 0x4AFC, []) ∧
    decode68k [0x4C9F, 0x0303] = (.movemLoad .w 0x303 (.post 7), []) ∧
    decode68k [0x4E4F] = (.trap 15, []) ∧
    decode68k [0x4E56, 0xFFF8] = (.link 6 0xFFF8, []) ∧
    decode68k [0x4E5E] = (.unlk 6, []) ∧
    decode68k [0x4E63] = (.moveUsp false 3, []) ∧
    decode68k [0x4E6B] = (.moveUsp true 3, []) ∧
    decode68k [0x4E70] = (.reset, []) ∧
    decode68k [0x4E71] = (.nop, []) ∧
    decode68k [0x4E72, 0x2000] = (.stop 0x2000, []) ∧
    decode68k [0x4E73] = (.rte, []) ∧
    decode68k [0x4E75] = (.rts, []) ∧
    decode68k [0x4E76] = (.trapv, []) ∧
    decode68k [0x4E77] = (.rtr, []) ∧
    decode68k [0x4EB8, 0x1234] = (.jsr (.absW 0x1234), []) ∧
    decode68k [0x4ED0] = (.jmp (.ind 0), []) := by decide +kernel

/-- M68K words written out from the encodings of 30 and of the rules (part 4): each decodes to its instruction, with no word over. -/
theorem test_decode_m68k_4 :
    decode68k [0x504A] = (.addq .w 0 (.an 2), []) ∧
    decode68k [0x5781] = (.subq .l 3 (.dn 1), []) ∧
    decode68k [0x56CA, 0xFFFC] = (.dbcc .ne 2 0xFFFC, []) ∧
    decode68k [0x5DD1] = (.scc .lt (.ind 1), []) ∧
    decode68k [0x6010] = (.bra (.short 0x10), []) ∧
    decode68k [0x6100, 0x1000] = (.bsr (.word 0x1000), []) ∧
    decode68k [0x6CFE] = (.bcc .ge (.short 0xFE), []) ∧
    decode68k [0x76FF] = (.moveq 3 0xFF, []) ∧
    decode68k [0x8EC1] = (.divu (.dn 1) 7, []) ∧
    decode68k [0x8FC1] = (.divs (.dn 1) 7, []) ∧
    decode68k [0x8509] = (.sbcd true 1 2, []) ∧
    decode68k [0x8091] = (.orToDn .l (.ind 1) 0, []) ∧
    decode68k [0x8111] = (.orToEa .b 0 (.ind 1), []) ∧
    decode68k [0x9441] = (.subToDn .w (.dn 1) 2, []) ∧
    decode68k [0x9591] = (.subToEa .l 2 (.ind 1), []) ∧
    decode68k [0x94C1] = (.suba .w (.dn 1) 2, []) ∧
    decode68k [0x9501] = (.subx .b false 1 2, []) ∧
    decode68k [0xD401] = (.addToDn .b (.dn 1) 2, []) ∧
    decode68k [0xD551] = (.addToEa .w 2 (.ind 1), []) ∧
    decode68k [0xD5C1] = (.adda .l (.dn 1) 2, []) := by decide +kernel

/-- M68K words written out from the encodings of 30 and of the rules (part 5): each decodes to its instruction, with no word over. -/
theorem test_decode_m68k_5 :
    decode68k [0xD589] = (.addx .l true 1 2, []) ∧
    decode68k [0xA123] = (.lineA 0x123, []) ∧
    decode68k [0xB441] = (.cmp .w (.dn 1) 2, []) ∧
    decode68k [0xB4C1] = (.cmpa .w (.dn 1) 2, []) ∧
    decode68k [0xB581] = (.eor .l 2 (.dn 1), []) ∧
    decode68k [0xB509] = (.cmpm .b 1 2, []) ∧
    decode68k [0xC4C1] = (.mulu (.dn 1) 2, []) ∧
    decode68k [0xC5C1] = (.muls (.dn 1) 2, []) ∧
    decode68k [0xC501] = (.abcd false 1 2, []) ∧
    decode68k [0xC541] = (.exgDD 2 1, []) ∧
    decode68k [0xC549] = (.exgAA 2 1, []) ∧
    decode68k [0xC589] = (.exgDA 2 1, []) ∧
    decode68k [0xC441] = (.andToDn .w (.dn 1) 2, []) ∧
    decode68k [0xC591] = (.andToEa .l 2 (.ind 1), []) ∧
    decode68k [0xE200] = (.asrReg .b (.quick 1) 0, []) ∧
    decode68k [0xE362] = (.aslReg .w (.reg 1) 2, []) ∧
    decode68k [0xE08B] = (.lsrReg .l (.quick 0) 3, []) ∧
    decode68k [0xE10B] = (.lslReg .b (.quick 0) 3, []) ∧
    decode68k [0xEE70] = (.roxrReg .w (.reg 7) 0, []) ∧
    decode68k [0xEF70] = (.roxlReg .w (.reg 7) 0, []) := by decide +kernel

/-- M68K words written out from the encodings of 30 and of the rules (part 6): each decodes to its instruction, with no word over. -/
theorem test_decode_m68k_6 :
    decode68k [0xEE99] = (.rorReg .l (.quick 7) 1, []) ∧
    decode68k [0xEF99] = (.rolReg .l (.quick 7) 1, []) ∧
    decode68k [0xE0D1] = (.asrMem (.ind 1), []) ∧
    decode68k [0xE1D1] = (.aslMem (.ind 1), []) ∧
    decode68k [0xE2D1] = (.lsrMem (.ind 1), []) ∧
    decode68k [0xE3D1] = (.lslMem (.ind 1), []) ∧
    decode68k [0xE4D1] = (.roxrMem (.ind 1), []) ∧
    decode68k [0xE5D1] = (.roxlMem (.ind 1), []) ∧
    decode68k [0xE6D1] = (.rorMem (.ind 1), []) ∧
    decode68k [0xE7D1] = (.rolMem (.ind 1), []) ∧
    decode68k [0xF00D] = (.lineF 0x00D, []) := by decide +kernel

/-- Z80 bytes written out from the encodings of 30 and of the rules (part 1): each decodes to its instruction, with no word over. -/
theorem test_decode_z80_1 :
    decodeZ80 [0x00] = (.zNop, []) ∧
    decodeZ80 [0x21, 0x34, 0x12] = (.zLdPairImm .hl 0x1234, []) ∧
    decodeZ80 [0x12] = (.zLdIndA .de, []) ∧
    decodeZ80 [0x0A] = (.zLdAInd .bc, []) ∧
    decodeZ80 [0x33] = (.zIncPair .sp, []) ∧
    decodeZ80 [0x0B] = (.zDecPair .bc, []) ∧
    decodeZ80 [0x34] = (.zIncR .hl, []) ∧
    decodeZ80 [0x3D] = (.zDecR (.reg .a), []) ∧
    decodeZ80 [0x06, 0x7F] = (.zLdRImm .b 0x7F, []) ∧
    decodeZ80 [0x36, 0x80] = (.zLdHlImm 0x80, []) ∧
    decodeZ80 [0x07] = (.zRlca, []) ∧
    decodeZ80 [0x08] = (.zExAf, []) ∧
    decodeZ80 [0x39] = (.zAddHl .sp, []) ∧
    decodeZ80 [0x0F] = (.zRrca, []) ∧
    decodeZ80 [0x10, 0xFE] = (.zDjnz 0xFE, []) ∧
    decodeZ80 [0x17] = (.zRla, []) ∧
    decodeZ80 [0x18, 0x05] = (.zJr 5, []) ∧
    decodeZ80 [0x1F] = (.zRra, []) ∧
    decodeZ80 [0x38, 0x05] = (.zJrCc .c 5, []) ∧
    decodeZ80 [0x22, 0x34, 0x12] = (.zLdNnHl 0x1234, []) := by decide +kernel

/-- Z80 bytes written out from the encodings of 30 and of the rules (part 2): each decodes to its instruction, with no word over. -/
theorem test_decode_z80_2 :
    decodeZ80 [0x27] = (.zDaa, []) ∧
    decodeZ80 [0x2A, 0x34, 0x12] = (.zLdHlNn 0x1234, []) ∧
    decodeZ80 [0x2F] = (.zCpl, []) ∧
    decodeZ80 [0x32, 0x34, 0x12] = (.zLdNnA 0x1234, []) ∧
    decodeZ80 [0x37] = (.zScf, []) ∧
    decodeZ80 [0x3A, 0x34, 0x12] = (.zLdANn 0x1234, []) ∧
    decodeZ80 [0x3F] = (.zCcf, []) ∧
    decodeZ80 [0x57] = (.zLdRR .d .a, []) ∧
    decodeZ80 [0x6E] = (.zLdRHl .l, []) ∧
    decodeZ80 [0x74] = (.zLdHlR .h, []) ∧
    decodeZ80 [0x76] = (.zHalt, []) ∧
    decodeZ80 [0x86] = (.zAddR .hl, []) ∧
    decodeZ80 [0x89] = (.zAdcR (.reg .c), []) ∧
    decodeZ80 [0x93] = (.zSubR (.reg .e), []) ∧
    decodeZ80 [0x9E] = (.zSbcR .hl, []) ∧
    decodeZ80 [0xA5] = (.zAndR (.reg .l), []) ∧
    decodeZ80 [0xAF] = (.zXorR (.reg .a), []) ∧
    decodeZ80 [0xB0] = (.zOrR (.reg .b), []) ∧
    decodeZ80 [0xBC] = (.zCpR (.reg .h), []) ∧
    decodeZ80 [0xC6, 0x01] = (.zAddN 1, []) := by decide +kernel

/-- Z80 bytes written out from the encodings of 30 and of the rules (part 3): each decodes to its instruction, with no word over. -/
theorem test_decode_z80_3 :
    decodeZ80 [0xCE, 0x02] = (.zAdcN 2, []) ∧
    decodeZ80 [0xD6, 0x03] = (.zSubN 3, []) ∧
    decodeZ80 [0xDE, 0x04] = (.zSbcN 4, []) ∧
    decodeZ80 [0xE6, 0x05] = (.zAndN 5, []) ∧
    decodeZ80 [0xEE, 0x06] = (.zXorN 6, []) ∧
    decodeZ80 [0xF6, 0x07] = (.zOrN 7, []) ∧
    decodeZ80 [0xFE, 0x08] = (.zCpN 8, []) ∧
    decodeZ80 [0xE8] = (.zRetCc .pe, []) ∧
    decodeZ80 [0xF1] = (.zPop .af, []) ∧
    decodeZ80 [0xFA, 0x34, 0x12] = (.zJpCc .m 0x1234, []) ∧
    decodeZ80 [0xC3, 0x34, 0x12] = (.zJp 0x1234, []) ∧
    decodeZ80 [0xE4, 0x34, 0x12] = (.zCallCc .po 0x1234, []) ∧
    decodeZ80 [0xC5] = (.zPush .bc, []) ∧
    decodeZ80 [0xF7] = (.zRst 6, []) ∧
    decodeZ80 [0xC9] = (.zRet, []) ∧
    decodeZ80 [0xCB, 0x30] = (.zCbPrefix 0x30, []) ∧
    decodeZ80 [0xCD, 0x34, 0x12] = (.zCall 0x1234, []) ∧
    decodeZ80 [0xD3, 0x7F] = (.zOutNA 0x7F, []) ∧
    decodeZ80 [0xD9] = (.zExx, []) ∧
    decodeZ80 [0xDB, 0x7F] = (.zInAN 0x7F, []) := by decide +kernel

/-- Z80 bytes written out from the encodings of 30 and of the rules (part 4): each decodes to its instruction, with no word over. -/
theorem test_decode_z80_4 :
    decodeZ80 [0xDD, 0xDD] = (.zDdPrefix 0xDD, []) ∧
    decodeZ80 [0xE3] = (.zExSpHl, []) ∧
    decodeZ80 [0xE9] = (.zJpHl, []) ∧
    decodeZ80 [0xEB] = (.zExDeHl, []) ∧
    decodeZ80 [0xED, 0x70] = (.zEdPrefix 0x70, []) ∧
    decodeZ80 [0xF3] = (.zDi, []) ∧
    decodeZ80 [0xF9] = (.zLdSpHl, []) ∧
    decodeZ80 [0xFB] = (.zEi, []) ∧
    decodeZ80 [0xFD, 0x00] = (.zFdPrefix 0x00, []) ∧
    decodeZ80 [0xCB, 0x06] = (.zRlc .hl, []) ∧
    decodeZ80 [0xCB, 0x09] = (.zRrc (.reg .c), []) ∧
    decodeZ80 [0xCB, 0x12] = (.zRl (.reg .d), []) ∧
    decodeZ80 [0xCB, 0x1B] = (.zRr (.reg .e), []) ∧
    decodeZ80 [0xCB, 0x24] = (.zSla (.reg .h), []) ∧
    decodeZ80 [0xCB, 0x2D] = (.zSra (.reg .l), []) ∧
    decodeZ80 [0xCB, 0x3F] = (.zSrl (.reg .a), []) ∧
    decodeZ80 [0xCB, 0x6E] = (.zBit 5 .hl, []) ∧
    decodeZ80 [0xCB, 0xB8] = (.zRes 7 (.reg .b), []) ∧
    decodeZ80 [0xCB, 0xC1] = (.zSet 0 (.reg .c), []) ∧
    decodeZ80 [0xED, 0x78] = (.zInRC .a, []) := by decide +kernel

/-- Z80 bytes written out from the encodings of 30 and of the rules (part 5): each decodes to its instruction, with no word over. -/
theorem test_decode_z80_5 :
    decodeZ80 [0xED, 0x41] = (.zOutCR .b, []) ∧
    decodeZ80 [0xED, 0x52] = (.zSbcHl .de, []) ∧
    decodeZ80 [0xED, 0x6A] = (.zAdcHl .hl, []) ∧
    decodeZ80 [0xED, 0x73, 0x34, 0x12] = (.zLdNnPair .sp 0x1234, []) ∧
    decodeZ80 [0xED, 0x4B, 0x34, 0x12] = (.zLdPairNn .bc 0x1234, []) ∧
    decodeZ80 [0xED, 0x44] = (.zNeg, []) ∧
    decodeZ80 [0xED, 0x45] = (.zRetn, []) ∧
    decodeZ80 [0xED, 0x4D] = (.zReti, []) ∧
    decodeZ80 [0xED, 0x46] = (.zIm0, []) ∧
    decodeZ80 [0xED, 0x56] = (.zIm1, []) ∧
    decodeZ80 [0xED, 0x5E] = (.zIm2, []) ∧
    decodeZ80 [0xED, 0x47] = (.zLdIA, []) ∧
    decodeZ80 [0xED, 0x4F] = (.zLdRfA, []) ∧
    decodeZ80 [0xED, 0x57] = (.zLdAI, []) ∧
    decodeZ80 [0xED, 0x5F] = (.zLdARf, []) ∧
    decodeZ80 [0xED, 0x67] = (.zRrd, []) ∧
    decodeZ80 [0xED, 0x6F] = (.zRld, []) ∧
    decodeZ80 [0xED, 0xA0] = (.zLdi, []) ∧
    decodeZ80 [0xED, 0xA1] = (.zCpi, []) ∧
    decodeZ80 [0xED, 0xA2] = (.zIni, []) := by decide +kernel

/-- Z80 bytes written out from the encodings of 30 and of the rules (part 6): each decodes to its instruction, with no word over. -/
theorem test_decode_z80_6 :
    decodeZ80 [0xED, 0xA3] = (.zOuti, []) ∧
    decodeZ80 [0xED, 0xA8] = (.zLdd, []) ∧
    decodeZ80 [0xED, 0xA9] = (.zCpd, []) ∧
    decodeZ80 [0xED, 0xAA] = (.zInd, []) ∧
    decodeZ80 [0xED, 0xAB] = (.zOutd, []) ∧
    decodeZ80 [0xED, 0xB0] = (.zLdir, []) ∧
    decodeZ80 [0xED, 0xB1] = (.zCpir, []) ∧
    decodeZ80 [0xED, 0xB2] = (.zInir, []) ∧
    decodeZ80 [0xED, 0xB3] = (.zOtir, []) ∧
    decodeZ80 [0xED, 0xB8] = (.zLddr, []) ∧
    decodeZ80 [0xED, 0xB9] = (.zCpdr, []) ∧
    decodeZ80 [0xED, 0xBA] = (.zIndr, []) ∧
    decodeZ80 [0xED, 0xBB] = (.zOtdr, []) ∧
    decodeZ80 [0xDD, 0x29] = (.zAddXx .ix .xx, []) ∧
    decodeZ80 [0xFD, 0x21, 0x34, 0x12] = (.zLdXxImm .iy 0x1234, []) ∧
    decodeZ80 [0xDD, 0x22, 0x34, 0x12] = (.zLdNnXx .ix 0x1234, []) ∧
    decodeZ80 [0xFD, 0x23] = (.zIncXx .iy, []) ∧
    decodeZ80 [0xDD, 0x2A, 0x34, 0x12] = (.zLdXxNn .ix 0x1234, []) ∧
    decodeZ80 [0xFD, 0x2B] = (.zDecXx .iy, []) ∧
    decodeZ80 [0xDD, 0x34, 0x7F] = (.zIncXd .ix 0x7F, []) := by decide +kernel

/-- Z80 bytes written out from the encodings of 30 and of the rules (part 7): each decodes to its instruction, with no word over. -/
theorem test_decode_z80_7 :
    decodeZ80 [0xFD, 0x35, 0x80] = (.zDecXd .iy 0x80, []) ∧
    decodeZ80 [0xDD, 0x36, 0x05, 0xAA] = (.zLdXdImm .ix 5 0xAA, []) ∧
    decodeZ80 [0xFD, 0x46, 0x05] = (.zLdRXd .iy .b 5, []) ∧
    decodeZ80 [0xDD, 0x77, 0xFF] = (.zLdXdR .ix .a 0xFF, []) ∧
    decodeZ80 [0xDD, 0x86, 0x01] = (.zAddXd .ix 1, []) ∧
    decodeZ80 [0xFD, 0x8E, 0x01] = (.zAdcXd .iy 1, []) ∧
    decodeZ80 [0xDD, 0x96, 0x01] = (.zSubXd .ix 1, []) ∧
    decodeZ80 [0xFD, 0x9E, 0x01] = (.zSbcXd .iy 1, []) ∧
    decodeZ80 [0xDD, 0xA6, 0x01] = (.zAndXd .ix 1, []) ∧
    decodeZ80 [0xFD, 0xAE, 0x01] = (.zXorXd .iy 1, []) ∧
    decodeZ80 [0xDD, 0xB6, 0x01] = (.zOrXd .ix 1, []) ∧
    decodeZ80 [0xFD, 0xBE, 0x01] = (.zCpXd .iy 1, []) ∧
    decodeZ80 [0xDD, 0xE1] = (.zPopXx .ix, []) ∧
    decodeZ80 [0xFD, 0xE3] = (.zExSpXx .iy, []) ∧
    decodeZ80 [0xDD, 0xE5] = (.zPushXx .ix, []) ∧
    decodeZ80 [0xFD, 0xE9] = (.zJpXx .iy, []) ∧
    decodeZ80 [0xDD, 0xF9] = (.zLdSpXx .ix, []) ∧
    decodeZ80 [0xFD, 0xCB, 0x05, 0xC7] = (.zDdcbPrefix .iy 5 0xC7, []) ∧
    decodeZ80 [0xDD, 0xCB, 0x05, 0x06] = (.zRlcXd .ix 5, []) ∧
    decodeZ80 [0xFD, 0xCB, 0x05, 0x0E] = (.zRrcXd .iy 5, []) := by decide +kernel

/-- Z80 bytes written out from the encodings of 30 and of the rules (part 8): each decodes to its instruction, with no word over. -/
theorem test_decode_z80_8 :
    decodeZ80 [0xDD, 0xCB, 0x05, 0x16] = (.zRlXd .ix 5, []) ∧
    decodeZ80 [0xFD, 0xCB, 0x05, 0x1E] = (.zRrXd .iy 5, []) ∧
    decodeZ80 [0xDD, 0xCB, 0x05, 0x26] = (.zSlaXd .ix 5, []) ∧
    decodeZ80 [0xFD, 0xCB, 0x05, 0x2E] = (.zSraXd .iy 5, []) ∧
    decodeZ80 [0xDD, 0xCB, 0x05, 0x3E] = (.zSrlXd .ix 5, []) ∧
    decodeZ80 [0xFD, 0xCB, 0x80, 0x5E] = (.zBitXd .iy 0x80 3, []) ∧
    decodeZ80 [0xDD, 0xCB, 0x05, 0xBE] = (.zResXd .ix 5 7, []) ∧
    decodeZ80 [0xFD, 0xCB, 0x05, 0xC6] = (.zSetXd .iy 5 0, []) := by decide +kernel

/-! ### Terms that are no instruction -/

/-- Immediates that do not fit a word, operands outside their row's category, sizes and displacements their rows lack: one term
for each check of `Instr.wf` on M68K, by 30 R181, R187, R189 and R192. -/
theorem test_ill_formed_m68k :
    ([.ori .w 0x10000 (.dn 0), .andi .b 0x10000 (.dn 0), .subi .w 0x10000 (.dn 0), .addi .w 0x10000 (.dn 0), .eori .w 0x10000 (.dn 0),
      .cmpi .w 0x10000 (.dn 0), .ori .w 0 (.an 0), .andi .w 0 (.imm 0), .subi .w 0 (.an 0), .addi .w 0 (.pcDisp 0), .eori .w 0 (.an 0),
      .cmpi .w 0 (.pcIndex 0), .btstImm 0 (.imm 0), .bchgImm 0 (.pcDisp 0), .bclrImm 0 (.an 0), .bsetImm 0 (.imm 0), .btstReg 0 (.an 0),
      .bchgReg 0 (.pcDisp 0), .bclrReg 0 (.an 0), .bsetReg 0 (.imm 0), .movepLoad .b 0 0 0, .movepStore .b 0 0 0,
      .moveB (.an 0) (.dn 0), .moveB (.dn 0) (.an 0), .moveL (.dn 0) (.an 0), .moveL (.dn 0) (.pcDisp 0), .moveW (.imm 0x10000) (.dn 0),
      .moveW (.dn 0) (.imm 0), .moveaW (.imm 0x10000) 0, .negx .b (.an 0), .moveFromSr (.an 0), .chk (.an 0) 0, .lea (.dn 0) 0,
      .lea (.post 0) 0] : List Instr).all (fun i => !i.wf) = true ∧
    ([.clr .b (.an 0), .neg .b (.pcDisp 0), .moveToCcr (.an 0), .notOp .b (.an 0), .moveToSr (.an 0), .nbcd (.an 0), .pea (.imm 0),
      .movemStore .w 0 (.post 0), .movemStore .b 0 (.ind 0), .tst .b (.an 0), .tas (.pcDisp 0), .illegal 0x4E71, .movemLoad .w 0 (.pre 0),
      .movemLoad .b 0 (.ind 0), .jsr (.dn 0), .jmp (.pre 0), .addq .b 1 (.an 0), .addq .w 1 (.pcDisp 0), .subq .b 1 (.an 0),
      .subq .w 1 (.imm 0), .scc .t (.an 0), .bra (.short 0), .bsr (.short 0), .bcc .eq (.short 0), .bcc .t (.short 2), .bcc .f (.short 2),
      .divu (.an 0) 0, .divs (.an 0) 0, .mulu (.an 0) 0, .muls (.an 0) 0, .orToDn .w (.an 0) 0, .orToEa .w 0 (.dn 0),
      .subToDn .b (.an 0) 0, .subToEa .w 0 (.dn 0), .suba .b (.dn 0) 0, .addToDn .b (.an 0) 0, .addToEa .w 0 (.an 0), .adda .b (.dn 0) 0,
      .cmp .b (.an 0) 0, .cmpa .b (.dn 0) 0, .eor .w 0 (.an 0), .andToDn .w (.an 0) 0, .andToEa .w 0 (.dn 0)] : List Instr).all
        (fun i => !i.wf) = true ∧
    ([.asrMem (.dn 0), .aslMem (.an 0), .lsrMem (.pcDisp 0), .lslMem (.imm 0), .roxrMem (.dn 0), .roxlMem (.dn 0), .rorMem (.dn 0),
      .rolMem (.dn 0)] : List Instr).all (fun i => !i.wf) = true := by decide +kernel

/-- A prefix constructor before a byte that has a row is no instruction: one term for each page (30 R226 to R231). -/
theorem test_ill_formed_z80 :
    ([.zCbPrefix 0x00, .zEdPrefix 0x40, .zDdPrefix 0x09, .zFdPrefix 0xCB, .zDdcbPrefix .ix 0 0x06] : List Instr).all
      (fun i => !i.wf) = true := by decide +kernel

/-- Their neighbours are instructions. -/
theorem test_well_formed :
    ([.ori .w 0xFFFF (.dn 0), .ori .l 0x10000 (.dn 0), .btstReg 0 (.imm 0), .btstImm 0 (.pcDisp 0), .moveW (.an 0) (.dn 0),
      .cmp .w (.an 0) 0, .movemStore .w 0 (.pre 0), .movemLoad .w 0 (.post 0), .addq .w 1 (.an 0), .bcc .eq (.short 2),
      .illegal 0x4AFC, .zCbPrefix 0x30, .zEdPrefix 0x70, .zDdPrefix 0x00, .zFdPrefix 0xFD, .zDdcbPrefix .iy 0 0xC7] : List Instr).all
      Instr.wf = true := by decide +kernel

/-! ### The vectors -/

/-- 95 EA1. -/
theorem test_ea_post_byte_sp : after68k [0x1E1F] [(0xFFE000, [0x80])] (fun m => (m.setA 7#3 0x00FFE000#32))
    (fun s => (s.m68k.dreg 7, s.m68k.areg 7)) = some (0x00000080#32, 0x00FFE002#32) := by decide +kernel

/-- 95 EA2. -/
theorem test_ea_pre_byte_sp : after68k [0x1F00] [] (fun m => (m.setD 0#3 0x000000C3#32))
    (fun s => (bytesAt s 0xFFDFFE 1, s.m68k.areg 7)) = some ([0xC3], 0x00FFDFFE#32) := by decide +kernel

/-- 95 EA3. -/
theorem test_ea_index_word : after68k [0x43F0, 0x1004] [] (fun m => ((m.setA 0#3 0x00FF0000#32).setD 1#3 0x0000FFFE#32))
    (fun s => (s.m68k.areg 1)) = some (0x00FF0002#32) := by decide +kernel

/-- 95 EA4. -/
theorem test_ea_index_long : after68k [0x43F0, 0x1804] [] (fun m => ((m.setA 0#3 0x00FF0000#32).setD 1#3 0x0000FFFE#32))
    (fun s => (s.m68k.areg 1)) = some (0x01000002#32) := by decide +kernel

/-- 95 EA5. -/
theorem test_ea_index_an : after68k [0x43F0, 0x9004] [] (fun m => ((m.setA 0#3 0x00FF0000#32).setA 1#3 0x00000010#32))
    (fun s => (s.m68k.areg 1)) = some (0x00FF0014#32) := by decide +kernel

/-- 95 EA8. -/
theorem test_ea_abs_word : after68k [0x43F8, 0x8000] [] (fun m => m)
    (fun s => (s.m68k.areg 1)) = some (0xFFFF8000#32) := by decide +kernel

/-- 95 EA10. -/
theorem test_ea_pc_disp : after68k [0x303A, 0x0010] [(0x001012, [0xBE, 0xEF])] (fun m => m)
    (fun s => (s.m68k.dreg 0)) = some (0x0000BEEF#32) := by decide +kernel

/-- 95 EA11. -/
theorem test_ea_pc_index : after68k [0x41FB, 0x0006] [] (fun m => (m.setD 0#3 0x00000004#32))
    (fun s => (s.m68k.areg 0)) = some (0x0000100C#32) := by decide +kernel

/-- 95 EA12. -/
theorem test_ea_imm_byte : after68k [0x103C, 0xAB12] [] (fun m => (m.setD 0#3 0x00000000#32))
    (fun s => (s.m68k.dreg 0)) = some (0x00000012#32) := by decide +kernel

/-- 95 EA13. -/
theorem test_ea_imm_long : after68k [0x203C, 0x1234, 0x5678] [] (fun m => m)
    (fun s => (s.m68k.dreg 0, s.m68k.pc)) = some (0x12345678#32, 0x00001006#32) := by decide +kernel

/-- 95 EA15. -/
theorem test_ea_post_pre : after68k [0x3118] [(0xFF0000, [0x12, 0x34])] (fun m => (m.setA 0#3 0x00FF0000#32))
    (fun s => (s.m68k.areg 0, bytesAt s 0xFF0000 2)) = some (0x00FF0000#32, [0x12, 0x34]) := by decide +kernel

/-- 95 EA17. -/
theorem test_ea_high_bits : after68k [0x2080] [] (fun m => ((m.setA 0#3 0x01FF0000#32).setD 0#3 0x11223344#32))
    (fun s => (bytesAt s 0xFF0000 4)) = some ([0x11, 0x22, 0x33, 0x44]) := by decide +kernel

/-- 95 MV1. -/
theorem test_move_w : after68k [0x303C, 0x8000] [] (fun m => ((m.setD 0#3 0x12345678#32).setCcr (Ccr.ofBits 19#5)))
    (fun s => (s.m68k.dreg 0, s.m68k.ccr.bits)) = some (0x12348000#32, 0b11000#5) := by decide +kernel

/-- 95 MV3. -/
theorem test_movea_w : after68k [0x307C, 0x8000] [] (fun m => (m.setCcr (Ccr.ofBits 31#5)))
    (fun s => (s.m68k.areg 0, s.m68k.ccr.bits)) = some (0xFFFF8000#32, 0b11111#5) := by decide +kernel

/-- 95 MV4. -/
theorem test_moveq : after68k [0x76FF] [] (fun m => m)
    (fun s => (s.m68k.dreg 3, s.m68k.ccr.bits)) = some (0xFFFFFFFF#32, 0b01000#5) := by decide +kernel

/-- 95 MV6. -/
theorem test_movem_store_base : after68k [0x48E0, 0x8080] [] (fun m => ((m.setA 0#3 0x00FF0100#32).setD 0#3 0x00000011#32))
    (fun s => (bytesAt s 0xFF00F8 8, s.m68k.areg 0)) = some ([0x00, 0x00, 0x00, 0x11, 0x00, 0xFF, 0x01, 0x00], 0x00FF00F8#32) := by decide +kernel

/-- 95 MV7. -/
theorem test_movem_store_empty : after68k [0x48E0, 0x0000] [] (fun m => (m.setA 0#3 0x00FF0100#32))
    (fun s => (s.m68k.areg 0, s.m68k.pc)) = some (0x00FF0100#32, 0x00001004#32) := by decide +kernel

/-- 95 MV8. -/
theorem test_movem_load_word : after68k [0x4C98, 0x0001] [(0xFF0000, [0x80, 0x00])] (fun m => (m.setA 0#3 0x00FF0000#32))
    (fun s => (s.m68k.dreg 0, s.m68k.areg 0)) = some (0xFFFF8000#32, 0x00FF0002#32) := by decide +kernel

/-- 95 MV9. -/
theorem test_movem_load_long : after68k [0x4CD8, 0x0006] [(0xFF0000, [0x11, 0x11, 0x11, 0x11, 0x22, 0x22, 0x22, 0x22])] (fun m => (m.setA 0#3 0x00FF0000#32))
    (fun s => (s.m68k.dreg 1, s.m68k.dreg 2, s.m68k.areg 0)) = some (0x11111111#32, 0x22222222#32, 0x00FF0008#32) := by decide +kernel

/-- 95 MV11. -/
theorem test_movep_store : after68k [0x0189, 0x0000] [] (fun m => ((m.setD 0#3 0x00001234#32).setA 1#3 0x00FF0000#32))
    (fun s => (bytesAt s 0xFF0000 3)) = some ([0x12, 0x00, 0x34]) := by decide +kernel

/-- 95 MV12. -/
theorem test_movep_load : after68k [0x0149, 0x0000] [(0xFF0001, [0x01, 0x00, 0x02, 0x00, 0x03, 0x00, 0x04])] (fun m => (m.setA 1#3 0x00FF0001#32))
    (fun s => (s.m68k.dreg 0)) = some (0x01020304#32) := by decide +kernel

/-- 95 MV13. -/
theorem test_lea : after68k [0x43E8, 0x0010] [] (fun m => (m.setA 0#3 0x00FF0000#32))
    (fun s => (s.m68k.areg 1)) = some (0x00FF0010#32) := by decide +kernel

/-- 95 MV14. -/
theorem test_pea : after68k [0x4868, 0x0010] [] (fun m => (m.setA 0#3 0x00FF0000#32))
    (fun s => (bytesAt s 0xFFDFFC 4, s.m68k.areg 7)) = some ([0x00, 0xFF, 0x00, 0x10], 0x00FFDFFC#32) := by decide +kernel

/-- 95 MV15. -/
theorem test_exg_da : after68k [0xC189] [] (fun m => ((m.setD 0#3 0x00000001#32).setA 1#3 0x00000002#32))
    (fun s => (s.m68k.dreg 0, s.m68k.areg 1)) = some (0x00000002#32, 0x00000001#32) := by decide +kernel

/-- Rule R340. -/
theorem test_exg_dd : after68k [0xC141] [] (fun m => ((m.setD 0#3 0x00000001#32).setD 1#3 0x00000002#32))
    (fun s => (s.m68k.dreg 0, s.m68k.dreg 1)) = some (0x00000002#32, 0x00000001#32) := by decide +kernel

/-- Rule R340. -/
theorem test_exg_aa : after68k [0xC149] [] (fun m => ((m.setA 0#3 0x00000001#32).setA 1#3 0x00000002#32))
    (fun s => (s.m68k.areg 0, s.m68k.areg 1)) = some (0x00000002#32, 0x00000001#32) := by decide +kernel

/-- 95 MV16. -/
theorem test_swap : after68k [0x4842] [] (fun m => (m.setD 2#3 0x12345678#32))
    (fun s => (s.m68k.dreg 2, s.m68k.ccr.bits)) = some (0x56781234#32, 0b00000#5) := by decide +kernel

/-- 95 MV17. -/
theorem test_link : after68k [0x4E56, 0xFFF8] [] (fun m => (m.setA 6#3 0x00FF1234#32))
    (fun s => (bytesAt s 0xFFDFFC 4, s.m68k.areg 6, s.m68k.areg 7)) = some ([0x00, 0xFF, 0x12, 0x34], 0x00FFDFFC#32, 0x00FFDFF4#32) := by decide +kernel

/-- 95 MV17. -/
theorem test_unlk : after68k [0x4E5E] [(0xFFDFFC, [0x00, 0xFF, 0x12, 0x34])] (fun m => ((m.setA 6#3 0x00FFDFFC#32).setA 7#3 0x00FFDFF4#32))
    (fun s => (s.m68k.areg 7, s.m68k.areg 6)) = some (0x00FFE000#32, 0x00FF1234#32) := by decide +kernel

/-- 95 MV19. -/
theorem test_move_to_ccr : after68k [0x44FC, 0xFFE0] [] (fun m => (m.setCcr (Ccr.ofBits 31#5)))
    (fun s => (s.m68k.getSr)) = some (0x2700#16) := by decide +kernel

/-- 95 MV20. -/
theorem test_move_to_sr : after68k [0x46FC, 0x0000] [] (fun m => { m with osp := 0x00FF8000#32 })
    (fun s => (s.m68k.getSr, s.m68k.areg 7, s.m68k.osp)) = some (0x0000#16, 0x00FF8000#32, 0x00FFE000#32) := by decide +kernel

/-- 95 MV21. -/
theorem test_move_to_sr_mask : after68k [0x46FC, 0xFFFF] [] (fun m => m)
    (fun s => (s.m68k.getSr)) = some (0xA71F#16) := by decide +kernel

/-- 95 MV22. -/
theorem test_move_to_sr_user : after68k [0x46FC, 0x2700] [(0x000020, [0x00, 0x00, 0x06, 0x00])] (fun m => { { m with sr := Sr.ofWord 0x0000#16 } with osp := 0x00FF9000#32 })
    (fun s => (s.m68k.pc, bytesAt s 0xFF8FFA 6, s.m68k.getSr)) = some (0x00000600#32, [0x00, 0x00, 0x00, 0x00, 0x10, 0x00], 0x2000#16) := by decide +kernel

/-- 95 MV23. -/
theorem test_move_from_sr : after68k [0x40C0] [] (fun m => (m.setCcr (Ccr.ofBits 4#5)))
    (fun s => (s.m68k.dreg 0)) = some (0x00002704#32) := by decide +kernel

/-- 95 MV24. -/
theorem test_move_usp : after68k [0x4E60] [] (fun m => (m.setA 0#3 0x00FF8000#32))
    (fun s => (s.m68k.osp)) = some (0x00FF8000#32) := by decide +kernel

/-- 95 MV24. -/
theorem test_move_usp_from : after68k [0x4E69] [] (fun m => { m with osp := 0x00FF8000#32 })
    (fun s => (s.m68k.areg 1)) = some (0x00FF8000#32) := by decide +kernel

/-- 95 AR1. -/
theorem test_add_b : after68k [0xD001] [] (fun m => ((m.setD 0#3 0x0000007F#32).setD 1#3 0x00000001#32))
    (fun s => (s.m68k.dreg 0, s.m68k.ccr.bits)) = some (0x00000080#32, 0b01010#5) := by decide +kernel

/-- 95 AR2. -/
theorem test_add_l : after68k [0xD081] [] (fun m => ((m.setD 0#3 0xFFFFFFFF#32).setD 1#3 0x00000001#32))
    (fun s => (s.m68k.dreg 0, s.m68k.ccr.bits)) = some (0x00000000#32, 0b10101#5) := by decide +kernel

/-- Rule R371. -/
theorem test_add_to_mem : after68k [0xD350] [(0xFF0000, [0x7F, 0xFF])] (fun m => ((m.setD 1#3 0x00000001#32).setA 0#3 0x00FF0000#32))
    (fun s => (bytesAt s 0xFF0000 2, s.m68k.ccr.bits)) = some ([0x80, 0x00], 0b01010#5) := by decide +kernel

/-- 95 AR3. -/
theorem test_adda : after68k [0xD0FC, 0xFFFF] [] (fun m => (m.setA 0#3 0x00000010#32))
    (fun s => (s.m68k.areg 0)) = some (0x0000000F#32) := by decide +kernel

/-- 95 AR4. -/
theorem test_addi : after68k [0x0642, 0x0001] [] (fun m => (m.setD 2#3 0x0000FFFF#32))
    (fun s => (s.m68k.dreg 2, s.m68k.ccr.bits)) = some (0x00000000#32, 0b10101#5) := by decide +kernel

/-- 95 AR5. -/
theorem test_addq_eight : after68k [0x5000] [] (fun m => (m.setD 0#3 0x000000F8#32))
    (fun s => (s.m68k.dreg 0, s.m68k.ccr.bits)) = some (0x00000000#32, 0b10101#5) := by decide +kernel

/-- 95 AR6. -/
theorem test_addq_an : after68k [0x5248] [] (fun m => ((m.setA 0#3 0x0000FFFF#32).setCcr (Ccr.ofBits 31#5)))
    (fun s => (s.m68k.areg 0, s.m68k.ccr.bits)) = some (0x00010000#32, 0b11111#5) := by decide +kernel

/-- 95 AR7. -/
theorem test_subq_an : after68k [0x5348] [] (fun m => (m.setA 0#3 0x00000000#32))
    (fun s => (s.m68k.areg 0)) = some (0xFFFFFFFF#32) := by decide +kernel

/-- 95 AR8. -/
theorem test_sub_b : after68k [0x9001] [] (fun m => ((m.setD 0#3 0x00000000#32).setD 1#3 0x00000001#32))
    (fun s => (s.m68k.dreg 0, s.m68k.ccr.bits)) = some (0x000000FF#32, 0b11001#5) := by decide +kernel

/-- Rule R376. -/
theorem test_sub_to_mem : after68k [0x9350] [(0xFF0000, [0x80, 0x00])] (fun m => ((m.setD 1#3 0x00000001#32).setA 0#3 0x00FF0000#32))
    (fun s => (bytesAt s 0xFF0000 2, s.m68k.ccr.bits)) = some ([0x7F, 0xFF], 0b00010#5) := by decide +kernel

/-- 95 AR9. -/
theorem test_suba : after68k [0x93FC, 0x0000, 0x0001] [] (fun m => (m.setA 1#3 0x00000000#32))
    (fun s => (s.m68k.areg 1)) = some (0xFFFFFFFF#32) := by decide +kernel

/-- 95 AR10. -/
theorem test_subi : after68k [0x0440, 0x0001] [] (fun m => (m.setD 0#3 0x00008000#32))
    (fun s => (s.m68k.dreg 0, s.m68k.ccr.bits)) = some (0x00007FFF#32, 0b00010#5) := by decide +kernel

/-- Rule R379. -/
theorem test_subq : after68k [0x5380] [] (fun m => (m.setD 0#3 0x00000001#32))
    (fun s => (s.m68k.dreg 0, s.m68k.ccr.bits)) = some (0x00000000#32, 0b00100#5) := by decide +kernel

/-- 95 AR11. -/
theorem test_subx : after68k [0x9300] [] (fun m => (((m.setD 0#3 0x00000005#32).setD 1#3 0x00000005#32).setCcr (Ccr.ofBits 20#5)))
    (fun s => (s.m68k.dreg 1, s.m68k.ccr.bits)) = some (0x000000FF#32, 0b11001#5) := by decide +kernel

/-- Rule R375. -/
theorem test_addx : after68k [0xD380] [] (fun m => (((m.setD 0#3 0xFFFFFFFF#32).setD 1#3 0x00000000#32).setCcr (Ccr.ofBits 20#5)))
    (fun s => (s.m68k.dreg 1, s.m68k.ccr.bits)) = some (0x00000000#32, 0b10101#5) := by decide +kernel

/-- Rule R375. -/
theorem test_addx_mem : after68k [0xD308] [(0xFF0000, [0x01]), (0xFF0010, [0x02])] (fun m => (((m.setA 0#3 0x00FF0001#32).setA 1#3 0x00FF0011#32).setCcr (Ccr.ofBits 16#5)))
    (fun s => (bytesAt s 0xFF0010 1, s.m68k.areg 0, s.m68k.areg 1)) = some ([0x04], 0x00FF0000#32, 0x00FF0010#32) := by decide +kernel

/-- 95 AR12. -/
theorem test_neg : after68k [0x4400] [] (fun m => (m.setD 0#3 0x00000080#32))
    (fun s => (s.m68k.dreg 0, s.m68k.ccr.bits)) = some (0x00000080#32, 0b11011#5) := by decide +kernel

/-- 95 AR13. -/
theorem test_negx : after68k [0x4040] [] (fun m => ((m.setD 0#3 0x00000000#32).setCcr (Ccr.ofBits 20#5)))
    (fun s => (s.m68k.dreg 0, s.m68k.ccr.bits)) = some (0x0000FFFF#32, 0b11001#5) := by decide +kernel

/-- 95 AR14. -/
theorem test_clr : after68k [0x4200] [] (fun m => ((m.setD 0#3 0x12345678#32).setCcr (Ccr.ofBits 31#5)))
    (fun s => (s.m68k.dreg 0, s.m68k.ccr.bits)) = some (0x12345600#32, 0b10100#5) := by decide +kernel

/-- 95 AR15. -/
theorem test_cmp : after68k [0xB081] [] (fun m => (((m.setD 0#3 0x00000001#32).setD 1#3 0x00000002#32).setCcr (Ccr.ofBits 16#5)))
    (fun s => (s.m68k.dreg 0, s.m68k.ccr.bits)) = some (0x00000001#32, 0b11001#5) := by decide +kernel

/-- 95 AR16. -/
theorem test_cmpa : after68k [0xB0FC, 0x8000] [] (fun m => (m.setA 0#3 0xFFFF8000#32))
    (fun s => (s.m68k.ccr.bits)) = some (0b00100#5) := by decide +kernel

/-- Rule R386. -/
theorem test_cmpi : after68k [0x0C01, 0x0010] [] (fun m => (m.setD 1#3 0x00000010#32))
    (fun s => (s.m68k.ccr.bits)) = some (0b00100#5) := by decide +kernel

/-- 95 AR17. -/
theorem test_cmpm : after68k [0xB308] [(0xFF0000, [0x41]), (0xFF0010, [0x41])] (fun m => ((m.setA 0#3 0x00FF0000#32).setA 1#3 0x00FF0010#32))
    (fun s => (s.m68k.ccr.bits, s.m68k.areg 0, s.m68k.areg 1)) = some (0b00100#5, 0x00FF0001#32, 0x00FF0011#32) := by decide +kernel

/-- 95 AR18. -/
theorem test_tst : after68k [0x4A80] [] (fun m => ((m.setD 0#3 0x80000000#32).setCcr (Ccr.ofBits 7#5)))
    (fun s => (s.m68k.ccr.bits)) = some (0b01000#5) := by decide +kernel

/-- 95 AR19. -/
theorem test_mulu : after68k [0xC0FC, 0xFFFF] [] (fun m => (m.setD 0#3 0x0000FFFF#32))
    (fun s => (s.m68k.dreg 0, s.m68k.ccr.bits)) = some (0xFFFE0001#32, 0b01000#5) := by decide +kernel

/-- 95 AR21. -/
theorem test_muls : after68k [0xC1FC, 0x8000] [] (fun m => (m.setD 0#3 0x00008000#32))
    (fun s => (s.m68k.dreg 0, s.m68k.ccr.bits)) = some (0x40000000#32, 0b00000#5) := by decide +kernel

/-- 95 AR22. -/
theorem test_muls_neg : after68k [0xC1FC, 0x0002] [] (fun m => (m.setD 0#3 0x0000FFFF#32))
    (fun s => (s.m68k.dreg 0, s.m68k.ccr.bits)) = some (0xFFFFFFFE#32, 0b01000#5) := by decide +kernel

/-- 95 AR23. -/
theorem test_divu : after68k [0x80FC, 0x0002] [] (fun m => (m.setD 0#3 0x00010003#32))
    (fun s => (s.m68k.dreg 0, s.m68k.ccr.bits)) = some (0x00018001#32, 0b01000#5) := by decide +kernel

/-- 95 AR25. -/
theorem test_divu_overflow : after68k [0x80FC, 0x0001] [] (fun m => (m.setD 0#3 0x00020000#32))
    (fun s => (s.m68k.dreg 0, (s.m68k.ccr.v, s.m68k.ccr.c))) = some (0x00020000#32, (true, false)) := by decide +kernel

/-- 95 AR26. -/
theorem test_divu_zero : after68k [0x80FC, 0x0000] [(0x000014, [0x00, 0x00, 0x05, 0x00])] (fun m => ((m.setD 0#3 0x00000005#32).setA 7#3 0x003FE000#32))
    (fun s => (s.m68k.dreg 0, s.m68k.pc, s.m68k.areg 7, s.m68k.ccr.c)) = some (0x00000005#32, 0x00000500#32, 0x003FDFFA#32, false) := by decide +kernel

/-- 95 AR27. -/
theorem test_divs : after68k [0x81FC, 0x0002] [] (fun m => (m.setD 0#3 0xFFFFFFF9#32))
    (fun s => (s.m68k.dreg 0, s.m68k.ccr.bits)) = some (0xFFFFFFFD#32, 0b01000#5) := by decide +kernel

/-- 95 AR28. -/
theorem test_divs_neg : after68k [0x81FC, 0xFFFE] [] (fun m => (m.setD 0#3 0x00000007#32))
    (fun s => (s.m68k.dreg 0, s.m68k.ccr.bits)) = some (0x0001FFFD#32, 0b01000#5) := by decide +kernel

/-- 95 AR29. -/
theorem test_divs_overflow : after68k [0x81FC, 0xFFFF] [] (fun m => (m.setD 0#3 0x80000000#32))
    (fun s => (s.m68k.dreg 0, (s.m68k.ccr.v, s.m68k.ccr.c))) = some (0x80000000#32, (true, false)) := by decide +kernel

/-- 95 AR30. -/
theorem test_ext_w : after68k [0x4880] [] (fun m => (m.setD 0#3 0x000000F0#32))
    (fun s => (s.m68k.dreg 0, s.m68k.ccr.bits)) = some (0x0000FFF0#32, 0b01000#5) := by decide +kernel

/-- 95 AR31. -/
theorem test_ext_l : after68k [0x48C0] [] (fun m => (m.setD 0#3 0x00008000#32))
    (fun s => (s.m68k.dreg 0, s.m68k.ccr.bits)) = some (0xFFFF8000#32, 0b01000#5) := by decide +kernel

/-- 95 AR32. -/
theorem test_chk_above : after68k [0x43BC, 0x0005] [(0x000018, [0x00, 0x00, 0x05, 0x00])] (fun m => ((m.setD 1#3 0x0000000A#32).setA 7#3 0x003FE000#32))
    (fun s => (s.m68k.pc, s.m68k.areg 7, s.m68k.ccr.n)) = some (0x00000500#32, 0x003FDFFA#32, false) := by decide +kernel

/-- 95 AR33. -/
theorem test_chk_negative : after68k [0x43BC, 0x0005] [(0x000018, [0x00, 0x00, 0x05, 0x00])] (fun m => ((m.setD 1#3 0x0000FFFF#32).setA 7#3 0x003FE000#32))
    (fun s => (s.m68k.pc, s.m68k.ccr.n)) = some (0x00000500#32, true) := by decide +kernel

/-- 95 AR34. -/
theorem test_chk_inside : after68k [0x43BC, 0x0005] [] (fun m => (m.setD 1#3 0x00000005#32))
    (fun s => (s.m68k.pc)) = some (0x00001004#32) := by decide +kernel

/-- 95 LG1. -/
theorem test_and : after68k [0xC041] [] (fun m => ((m.setD 0#3 0x0000FF00#32).setD 1#3 0x00000FF0#32))
    (fun s => (s.m68k.dreg 0, s.m68k.ccr.bits)) = some (0x00000F00#32, 0b00000#5) := by decide +kernel

/-- Rule R421. -/
theorem test_and_to_mem : after68k [0xC350] [(0xFF0000, [0x12, 0x34])] (fun m => ((m.setD 1#3 0x000000FF#32).setA 0#3 0x00FF0000#32))
    (fun s => (bytesAt s 0xFF0000 2)) = some ([0x00, 0x34]) := by decide +kernel

/-- 95 LG2. -/
theorem test_andi : after68k [0x0200, 0x000F] [] (fun m => (m.setD 0#3 0x000000F3#32))
    (fun s => (s.m68k.dreg 0)) = some (0x00000003#32) := by decide +kernel

/-- 95 LG3. -/
theorem test_or : after68k [0x8001] [] (fun m => ((m.setD 0#3 0x00000080#32).setD 1#3 0x00000001#32))
    (fun s => (s.m68k.dreg 0, s.m68k.ccr.bits)) = some (0x00000081#32, 0b01000#5) := by decide +kernel

/-- Rule R423. -/
theorem test_or_to_mem : after68k [0x8350] [(0xFF0000, [0x12, 0x34])] (fun m => ((m.setD 1#3 0x000000FF#32).setA 0#3 0x00FF0000#32))
    (fun s => (bytesAt s 0xFF0000 2)) = some ([0x12, 0xFF]) := by decide +kernel

/-- 95 LG4. -/
theorem test_ori : after68k [0x0040, 0x8000] [] (fun m => (m.setD 0#3 0x00000000#32))
    (fun s => (s.m68k.dreg 0, s.m68k.ccr.bits)) = some (0x00008000#32, 0b01000#5) := by decide +kernel

/-- 95 LG5. -/
theorem test_eor : after68k [0xB340] [] (fun m => ((m.setD 0#3 0x00001234#32).setD 1#3 0x00001234#32))
    (fun s => (s.m68k.dreg 0, s.m68k.ccr.bits)) = some (0x00000000#32, 0b00100#5) := by decide +kernel

/-- 95 LG6. -/
theorem test_eori : after68k [0x0A00, 0x00FF] [] (fun m => (m.setD 0#3 0x0000000F#32))
    (fun s => (s.m68k.dreg 0, s.m68k.ccr.bits)) = some (0x000000F0#32, 0b01000#5) := by decide +kernel

/-- 95 LG7. -/
theorem test_not : after68k [0x4600] [] (fun m => (m.setD 0#3 0x000000FF#32))
    (fun s => (s.m68k.dreg 0, s.m68k.ccr.bits)) = some (0x00000000#32, 0b00100#5) := by decide +kernel

/-- 95 LG8. -/
theorem test_tas : after68k [0x4AD0] [] (fun m => (m.setA 0#3 0x00FF0000#32))
    (fun s => (bytesAt s 0xFF0000 1, s.m68k.ccr.bits)) = some ([0x80], 0b00100#5) := by decide +kernel

/-- Rule R428. -/
theorem test_tas_reg : after68k [0x4AC0] [] (fun m => (m.setD 0#3 0x00000081#32))
    (fun s => (s.m68k.dreg 0, s.m68k.ccr.bits)) = some (0x00000081#32, 0b01000#5) := by decide +kernel

/-- 95 LG11. -/
theorem test_asl : after68k [0xE500] [] (fun m => (m.setD 0#3 0x00000040#32))
    (fun s => (s.m68k.dreg 0, s.m68k.ccr.bits)) = some (0x00000000#32, 0b10111#5) := by decide +kernel

/-- 95 LG13. -/
theorem test_asr : after68k [0xE440] [] (fun m => (m.setD 0#3 0x00008001#32))
    (fun s => (s.m68k.dreg 0, s.m68k.ccr.bits)) = some (0x0000E000#32, 0b01000#5) := by decide +kernel

/-- 95 LG14. -/
theorem test_asr_eight : after68k [0xE000] [] (fun m => (m.setD 0#3 0x00000080#32))
    (fun s => (s.m68k.dreg 0, s.m68k.ccr.bits)) = some (0x000000FF#32, 0b11001#5) := by decide +kernel

/-- 95 LG16. -/
theorem test_lsl : after68k [0xE3A8] [] (fun m => ((m.setD 0#3 0x00000001#32).setD 1#3 0x00000021#32))
    (fun s => (s.m68k.dreg 0, s.m68k.ccr.bits)) = some (0x00000000#32, 0b00100#5) := by decide +kernel

/-- 95 LG15. -/
theorem test_lsl_32 : after68k [0xE3A8] [] (fun m => ((m.setD 0#3 0x00000001#32).setD 1#3 0x00000020#32))
    (fun s => (s.m68k.dreg 0, s.m68k.ccr.bits)) = some (0x00000000#32, 0b10101#5) := by decide +kernel

/-- 95 LG18. -/
theorem test_lsr : after68k [0xE008] [] (fun m => (m.setD 0#3 0x00000081#32))
    (fun s => (s.m68k.dreg 0, s.m68k.ccr.bits)) = some (0x00000000#32, 0b10101#5) := by decide +kernel

/-- 95 LG17. -/
theorem test_lsr_zero : after68k [0xE2A8] [] (fun m => (((m.setD 0#3 0x80000001#32).setD 1#3 0x00000040#32).setCcr (Ccr.ofBits 17#5)))
    (fun s => (s.m68k.dreg 0, s.m68k.ccr.bits)) = some (0x80000001#32, 0b11000#5) := by decide +kernel

/-- 95 LG19. -/
theorem test_rol : after68k [0xE318] [] (fun m => (m.setD 0#3 0x00000081#32))
    (fun s => (s.m68k.dreg 0, s.m68k.ccr.bits)) = some (0x00000003#32, 0b00001#5) := by decide +kernel

/-- 95 LG20. -/
theorem test_ror : after68k [0xE858] [] (fun m => (m.setD 0#3 0x00001234#32))
    (fun s => (s.m68k.dreg 0, s.m68k.ccr.bits)) = some (0x00004123#32, 0b00000#5) := by decide +kernel

/-- 95 LG21. -/
theorem test_roxl : after68k [0xE310] [] (fun m => ((m.setD 0#3 0x00000080#32).setCcr (Ccr.ofBits 16#5)))
    (fun s => (s.m68k.dreg 0, s.m68k.ccr.bits)) = some (0x00000001#32, 0b10001#5) := by decide +kernel

/-- 95 LG22. -/
theorem test_roxr : after68k [0xE210] [] (fun m => (m.setD 0#3 0x00000001#32))
    (fun s => (s.m68k.dreg 0, s.m68k.ccr.bits)) = some (0x00000000#32, 0b10101#5) := by decide +kernel

/-- 95 LG23. -/
theorem test_roxr_zero : after68k [0xE230] [] (fun m => (((m.setD 0#3 0x00000055#32).setD 1#3 0x00000000#32).setCcr (Ccr.ofBits 16#5)))
    (fun s => (s.m68k.dreg 0, s.m68k.ccr.bits)) = some (0x00000055#32, 0b10001#5) := by decide +kernel

/-- 95 LG24. -/
theorem test_asr_mem : after68k [0xE0D0] [(0xFF0000, [0x80, 0x01])] (fun m => (m.setA 0#3 0x00FF0000#32))
    (fun s => (bytesAt s 0xFF0000 2, s.m68k.ccr.bits)) = some ([0xC0, 0x00], 0b11001#5) := by decide +kernel

/-- Rule R429. -/
theorem test_asl_mem : after68k [0xE1D0] [(0xFF0000, [0x40, 0x00])] (fun m => ((m.setA 0#3 0x00FF0000#32).setCcr (Ccr.ofBits 0#5)))
    (fun s => (bytesAt s 0xFF0000 2, s.m68k.ccr.bits)) = some ([0x80, 0x00], 0b01010#5) := by decide +kernel

/-- Rule R429. -/
theorem test_lsr_mem : after68k [0xE2D0] [(0xFF0000, [0x00, 0x01])] (fun m => ((m.setA 0#3 0x00FF0000#32).setCcr (Ccr.ofBits 0#5)))
    (fun s => (bytesAt s 0xFF0000 2, s.m68k.ccr.bits)) = some ([0x00, 0x00], 0b10101#5) := by decide +kernel

/-- Rule R429. -/
theorem test_lsl_mem : after68k [0xE3D0] [(0xFF0000, [0x80, 0x01])] (fun m => ((m.setA 0#3 0x00FF0000#32).setCcr (Ccr.ofBits 0#5)))
    (fun s => (bytesAt s 0xFF0000 2, s.m68k.ccr.bits)) = some ([0x00, 0x02], 0b10001#5) := by decide +kernel

/-- Rule R429. -/
theorem test_roxr_mem : after68k [0xE4D0] [(0xFF0000, [0x00, 0x01])] (fun m => ((m.setA 0#3 0x00FF0000#32).setCcr (Ccr.ofBits 16#5)))
    (fun s => (bytesAt s 0xFF0000 2, s.m68k.ccr.bits)) = some ([0x80, 0x00], 0b11001#5) := by decide +kernel

/-- Rule R429. -/
theorem test_roxl_mem : after68k [0xE5D0] [(0xFF0000, [0x80, 0x00])] (fun m => ((m.setA 0#3 0x00FF0000#32).setCcr (Ccr.ofBits 16#5)))
    (fun s => (bytesAt s 0xFF0000 2, s.m68k.ccr.bits)) = some ([0x00, 0x01], 0b10001#5) := by decide +kernel

/-- Rule R429. -/
theorem test_ror_mem : after68k [0xE6D0] [(0xFF0000, [0x00, 0x01])] (fun m => ((m.setA 0#3 0x00FF0000#32).setCcr (Ccr.ofBits 0#5)))
    (fun s => (bytesAt s 0xFF0000 2, s.m68k.ccr.bits)) = some ([0x80, 0x00], 0b01001#5) := by decide +kernel

/-- Rule R429. -/
theorem test_rol_mem : after68k [0xE7D0] [(0xFF0000, [0x80, 0x00])] (fun m => ((m.setA 0#3 0x00FF0000#32).setCcr (Ccr.ofBits 0#5)))
    (fun s => (bytesAt s 0xFF0000 2, s.m68k.ccr.bits)) = some ([0x00, 0x01], 0b00001#5) := by decide +kernel

/-- 95 LG25. -/
theorem test_btst_static : after68k [0x0800, 0x0003] [] (fun m => ((m.setD 0#3 0x00000008#32).setCcr (Ccr.ofBits 31#5)))
    (fun s => (s.m68k.ccr.bits)) = some (0b11011#5) := by decide +kernel

/-- 95 LG26. -/
theorem test_btst_dynamic : after68k [0x0300] [] (fun m => (((m.setD 0#3 0x00000008#32).setD 1#3 0x00000023#32).setCcr (Ccr.ofBits 4#5)))
    (fun s => (s.m68k.ccr.bits)) = some (0b00000#5) := by decide +kernel

/-- 95 LG27. -/
theorem test_bchg_static : after68k [0x0850, 0x0007] [(0xFF0000, [0x80])] (fun m => (m.setA 0#3 0x00FF0000#32))
    (fun s => (bytesAt s 0xFF0000 1, s.m68k.ccr.bits)) = some ([0x00], 0b00000#5) := by decide +kernel

/-- 95 LG28. -/
theorem test_bclr_static : after68k [0x0890, 0x0009] [(0xFF0000, [0x02])] (fun m => (m.setA 0#3 0x00FF0000#32))
    (fun s => (bytesAt s 0xFF0000 1, s.m68k.ccr.bits)) = some ([0x00], 0b00000#5) := by decide +kernel

/-- 95 LG29. -/
theorem test_bset_static : after68k [0x08C0, 0x001F] [] (fun m => (m.setD 0#3 0x00000000#32))
    (fun s => (s.m68k.dreg 0, s.m68k.ccr.bits)) = some (0x80000000#32, 0b00100#5) := by decide +kernel

/-- 95 LG30. -/
theorem test_bset_dynamic : after68k [0x03C2] [] (fun m => ((m.setD 1#3 0x00000021#32).setD 2#3 0x00000000#32))
    (fun s => (s.m68k.dreg 2, s.m68k.ccr.bits)) = some (0x00000002#32, 0b00100#5) := by decide +kernel

/-- Rule R440. -/
theorem test_bchg_dynamic : after68k [0x0340] [] (fun m => ((m.setD 1#3 0x0000001F#32).setD 0#3 0x00000000#32))
    (fun s => (s.m68k.dreg 0, s.m68k.ccr.bits)) = some (0x80000000#32, 0b00100#5) := by decide +kernel

/-- Rule R441. -/
theorem test_bclr_dynamic : after68k [0x0380] [] (fun m => ((m.setD 1#3 0x00000000#32).setD 0#3 0x00000001#32))
    (fun s => (s.m68k.dreg 0, s.m68k.ccr.bits)) = some (0x00000000#32, 0b00000#5) := by decide +kernel

/-- 95 CT2. -/
theorem test_bra : after68k [0x60FE] [] (fun m => m)
    (fun s => (s.m68k.pc)) = some (0x00001000#32) := by decide +kernel

/-- 95 CT3. -/
theorem test_bra_odd : after68k [0x60FF] [] (fun m => m)
    (fun s => (s.m68k.pc)) = some (0x00001001#32) := by decide +kernel

/-- 95 CT4. -/
theorem test_bne_taken : after68k [0x6606] [] (fun m => m)
    (fun s => (s.m68k.pc)) = some (0x00001008#32) := by decide +kernel

/-- 95 CT5. -/
theorem test_bne_not : after68k [0x6606] [] (fun m => (m.setCcr (Ccr.ofBits 4#5)))
    (fun s => (s.m68k.pc)) = some (0x00001002#32) := by decide +kernel

/-- 95 CT10. -/
theorem test_bsr : after68k [0x6100, 0x0010] [] (fun m => m)
    (fun s => (bytesAt s 0xFFDFFC 4, s.m68k.areg 7, s.m68k.pc)) = some ([0x00, 0x00, 0x10, 0x04], 0x00FFDFFC#32, 0x00001012#32) := by decide +kernel

/-- 95 CT11. -/
theorem test_dbf : after68k [0x51C8, 0xFFFE] [] (fun m => (m.setD 0#3 0x00010001#32))
    (fun s => (s.m68k.dreg 0, s.m68k.pc)) = some (0x00010000#32, 0x00001000#32) := by decide +kernel

/-- 95 CT11. -/
theorem test_dbf_end : after68k [0x51C8, 0xFFFE] [] (fun m => (m.setD 0#3 0x00010000#32))
    (fun s => (s.m68k.dreg 0, s.m68k.pc)) = some (0x0001FFFF#32, 0x00001004#32) := by decide +kernel

/-- 95 CT14. -/
theorem test_seq : after68k [0x57C0] [] (fun m => ((m.setD 0#3 0x00000000#32).setCcr (Ccr.ofBits 4#5)))
    (fun s => (s.m68k.dreg 0, s.m68k.ccr.bits)) = some (0x000000FF#32, 0b00100#5) := by decide +kernel

/-- 95 CT16. -/
theorem test_jmp : after68k [0x4ED0] [] (fun m => (m.setA 0#3 0x00002000#32))
    (fun s => (s.m68k.pc)) = some (0x00002000#32) := by decide +kernel

/-- 95 CT18. -/
theorem test_jsr : after68k [0x4EB9, 0x0000, 0x2000] [] (fun m => m)
    (fun s => (bytesAt s 0xFFDFFC 4, s.m68k.pc)) = some ([0x00, 0x00, 0x10, 0x06], 0x00002000#32) := by decide +kernel

/-- 95 CT19. -/
theorem test_rts : after68k [0x4E75] [(0xFFDFFC, [0x00, 0x00, 0x10, 0x06])] (fun m => (m.setA 7#3 0x00FFDFFC#32))
    (fun s => (s.m68k.pc, s.m68k.areg 7)) = some (0x00001006#32, 0x00FFE000#32) := by decide +kernel

/-- 95 CT20. -/
theorem test_rtr : after68k [0x4E77] [(0xFFE000, [0x00, 0x04, 0x00, 0x00, 0x10, 0x00])] (fun m => (m.setCcr (Ccr.ofBits 31#5)))
    (fun s => (s.m68k.ccr.bits, s.m68k.pc, s.m68k.areg 7)) = some (0b00100#5, 0x00001000#32, 0x00FFE006#32) := by decide +kernel

/-- 95 CT21. -/
theorem test_rte : after68k [0x4E73] [(0xFFDFFA, [0x00, 0x00, 0x00, 0x00, 0x05, 0x00])] (fun m => { (m.setA 7#3 0x00FFDFFA#32) with osp := 0x00FF8000#32 })
    (fun s => (s.m68k.getSr, s.m68k.pc, s.m68k.areg 7, s.m68k.osp)) = some (0x0000#16, 0x00000500#32, 0x00FF8000#32, 0x00FFE000#32) := by decide +kernel

/-- 95 CT23. -/
theorem test_trap : after68k [0x4E40] [(0x000080, [0x00, 0x00, 0x30, 0x00])] (fun m => m)
    (fun s => (bytesAt s 0xFFDFFA 6, s.m68k.pc)) = some ([0x27, 0x00, 0x00, 0x00, 0x10, 0x02], 0x00003000#32) := by decide +kernel

/-- 95 EX1. -/
theorem test_trap_user : after68k [0x4E41] [(0x000084, [0x00, 0x00, 0x20, 0x00])] (fun m => { ({ m with sr := Sr.ofWord 0x0000#16 }.setA 7#3 0x00FF8000#32) with osp := 0x00FFE000#32 })
    (fun s => (s.m68k.areg 7, s.m68k.osp, bytesAt s 0xFFDFFA 6, s.m68k.getSr, s.m68k.pc)) = some (0x00FFDFFA#32, 0x00FF8000#32, [0x00, 0x00, 0x00, 0x00, 0x10, 0x02], 0x2000#16, 0x00002000#32) := by decide +kernel

/-- 95 CT25. -/
theorem test_trapv_clear : after68k [0x4E76] [] (fun m => m)
    (fun s => (s.m68k.pc)) = some (0x00001002#32) := by decide +kernel

/-- 95 CT25. -/
theorem test_trapv_set : after68k [0x4E76] [(0x00001C, [0x00, 0x00, 0x07, 0x00])] (fun m => (m.setCcr (Ccr.ofBits 2#5)))
    (fun s => (s.m68k.pc, bytesAt s 0xFFDFFC 4)) = some (0x00000700#32, [0x00, 0x00, 0x10, 0x02]) := by decide +kernel

/-- 95 CT26. -/
theorem test_nop : after68k [0x4E71] [] (fun m => (m.setCcr (Ccr.ofBits 31#5)))
    (fun s => (s.m68k.pc, s.m68k.ccr.bits)) = some (0x00001002#32, 0b11111#5) := by decide +kernel

/-- 95 CT27. -/
theorem test_reset_insn : after68k [0x4E70] [] (fun m => m)
    (fun s => (s.events, s.m68k.pc)) = some ([.resetDevices], 0x00001002#32) := by decide +kernel

/-- 95 CT28. -/
theorem test_stop : after68k [0x4E72, 0x2000] [] (fun m => m)
    (fun s => (s.m68k.getSr, s.m68k.pc, s.m68k.run)) = some (0x2000#16, 0x00001004#32, .stopped) := by decide +kernel

/-- 95 CT29. -/
theorem test_stop_user : after68k [0x4E72, 0x2700] [(0x000020, [0x00, 0x00, 0x06, 0x00])] (fun m => { { m with sr := Sr.ofWord 0x0000#16 } with osp := 0x00FF9000#32 })
    (fun s => (s.m68k.pc, bytesAt s 0xFF8FFC 4)) = some (0x00000600#32, [0x00, 0x00, 0x10, 0x00]) := by decide +kernel

/-- 95 CT30. -/
theorem test_ori_sr : after68k [0x007C, 0x0700] [] (fun m => { m with sr := Sr.ofWord 0x2000#16 })
    (fun s => (s.m68k.getSr)) = some (0x2700#16) := by decide +kernel

/-- 95 CT31. -/
theorem test_andi_sr : after68k [0x027C, 0xDFFF] [] (fun m => { m with osp := 0x00FF8000#32 })
    (fun s => (s.m68k.getSr, s.m68k.areg 7, s.m68k.osp)) = some (0x0700#16, 0x00FF8000#32, 0x00FFE000#32) := by decide +kernel

/-- 95 CT32. -/
theorem test_eori_sr : after68k [0x0A7C, 0x8000] [] (fun m => m)
    (fun s => (s.m68k.getSr)) = some (0xA700#16) := by decide +kernel

/-- 95 CT33. -/
theorem test_ori_ccr : after68k [0x003C, 0x0011] [] (fun m => m)
    (fun s => (s.m68k.ccr.bits)) = some (0b10001#5) := by decide +kernel

/-- 95 CT34. -/
theorem test_andi_ccr : after68k [0x023C, 0x0000] [] (fun m => (m.setCcr (Ccr.ofBits 31#5)))
    (fun s => (s.m68k.ccr.bits)) = some (0b00000#5) := by decide +kernel

/-- 95 CT35. -/
theorem test_eori_ccr : after68k [0x0A3C, 0x001F] [] (fun m => (m.setCcr (Ccr.ofBits 21#5)))
    (fun s => (s.m68k.ccr.bits)) = some (0b01010#5) := by decide +kernel

/-- 95 EX13. -/
theorem test_illegal_trap : after68k [0x4AFC] [(0x000010, [0x00, 0x00, 0x60, 0x00])] (fun m => m)
    (fun s => (s.m68k.pc, bytesAt s 0xFFDFFC 4)) = some (0x00006000#32, [0x00, 0x00, 0x10, 0x00]) := by decide +kernel

/-- 95 EX14. -/
theorem test_line_a : after68k [0xA123] [(0x000028, [0x00, 0x00, 0x60, 0x00])] (fun m => m)
    (fun s => (s.m68k.pc)) = some (0x00006000#32) := by decide +kernel

/-- 95 EX15. -/
theorem test_line_f : after68k [0xF000] [(0x00002C, [0x00, 0x00, 0x60, 0x00])] (fun m => m)
    (fun s => (s.m68k.pc)) = some (0x00006000#32) := by decide +kernel

/-- 95 EX16. -/
theorem test_abcd_refused : after68k [0xC100] [] (fun m => (m.setA 0#3 0x00FF0000#32))
    (fun s => (s.refusedMarks, s.m68k.pc)) = some ([(.m68k, .unimplementedBcd)], 0x00001000#32) := by decide +kernel

/-- 95 MV18. -/
theorem test_link_a7_refused : after68k [0x4E57, 0x0000] [] (fun m => (m.setA 0#3 0x00FF0000#32))
    (fun s => (s.refusedMarks, s.m68k.pc)) = some ([(.m68k, .linkA7)], 0x00001000#32) := by decide +kernel

/-- 95 EA6, EA7. -/
theorem test_index_scale_refused : after68k [0x43F0, 0x1204] [] (fun m => (m.setA 0#3 0x00FF0000#32))
    (fun s => (s.refusedMarks, s.m68k.pc)) = some ([(.m68k, .indexExtension)], 0x00001000#32) := by decide +kernel

/-- 95 EA6, EA7. -/
theorem test_index_full_refused : after68k [0x43F0, 0x1104] [] (fun m => (m.setA 0#3 0x00FF0000#32))
    (fun s => (s.refusedMarks, s.m68k.pc)) = some ([(.m68k, .indexExtension)], 0x00001000#32) := by decide +kernel

/-- 95 EA16. -/
theorem test_misaligned_fault : after68k [0x3080] [] (fun m => (m.setA 0#3 0x00FF0001#32))
    (fun s => (s.faultedMarks)) = some ([(.m68k, .fault .misalignedData)]) := by decide +kernel

/-- 95 BU26. -/
theorem test_unmapped_fault : after68k [0x1010] [] (fun m => (m.setA 0#3 0x00B00000#32))
    (fun s => (s.faultedMarks)) = some ([(.m68k, .fault .unmapped)]) := by decide +kernel

/-- 95 BU24. -/
theorem test_wram_mirror : after68k [0x1010] [(0xFF0000, [0x12])] (fun m => (m.setA 0#3 0x00E00000#32))
    (fun s => (s.m68k.dreg 0)) = some (0x00000012#32) := by decide +kernel

/-- 95 BU25. -/
theorem test_rom_write : after68k [0x1080] [] (fun m => ((m.setA 0#3 0x00000400#32).setD 0#3 0x00000055#32))
    (fun s => (bytesAt s 0x000400 1, s.events)) = some ([0x00], [.write68k 0x400 .b 0x55]) := by decide +kernel

/-- Rule R143. -/
theorem test_store_next_words : after68k [0x3080] [] (fun m => (m.setA 0#3 0x00FF0000#32))
    (fun s => (bytesAt s 0xFF0000 2)) = some ([0x00, 0x00]) := by decide +kernel

/-- 95 ZL1. -/
theorem test_z_ld_r_r : afterZ80 [0x47] [] (fun z => { z with a := 0x12#8 })
    (fun s => (s.z80.b)) = some (0x12#8) := by decide +kernel

/-- Rule R522. -/
theorem test_z_ld_r_n : afterZ80 [0x3E, 0x42] [] (fun z => z)
    (fun s => (s.z80.a, s.z80.pc)) = some (0x42#8, 0x0102#16) := by decide +kernel

/-- Rule R523. -/
theorem test_z_ld_r_hl : afterZ80 [0x7E] [(0x001000, [0x33])] (fun z => (z.setHl 0x1000#16))
    (fun s => (s.z80.a)) = some (0x33#8) := by decide +kernel

/-- 95 ZL2. -/
theorem test_z_ld_a_ixd : afterZ80 [0xDD, 0x7E, 0xFE] [(0x000FFE, [0x99])] (fun z => { z with ix := 0x1000#16 })
    (fun s => (s.z80.a)) = some (0x99#8) := by decide +kernel

/-- 95 ZL3. -/
theorem test_z_ld_h_ixd : afterZ80 [0xDD, 0x66, 0xFE] [(0x000FFE, [0x55])] (fun z => { z with ix := 0x1000#16 })
    (fun s => (s.z80.h, s.z80.ix)) = some (0x55#8, 0x1000#16) := by decide +kernel

/-- Rule R524. -/
theorem test_z_ld_hl_r : afterZ80 [0x77] [] (fun z => ({ z with a := 0x7A#8 }.setHl 0x1000#16))
    (fun s => (zbytesAt s 0x1000 1)) = some ([0x7A]) := by decide +kernel

/-- Rule R524. -/
theorem test_z_ld_ixd_r : afterZ80 [0xDD, 0x77, 0x05] [] (fun z => { z with a := 0x7A#8, ix := 0x1000#16 })
    (fun s => (zbytesAt s 0x1005 1)) = some ([0x7A]) := by decide +kernel

/-- Rule R525. -/
theorem test_z_ld_hl_n : afterZ80 [0x36, 0x09] [] (fun z => (z.setHl 0x1000#16))
    (fun s => (zbytesAt s 0x1000 1)) = some ([0x09]) := by decide +kernel

/-- 95 ZL4. -/
theorem test_z_ld_iyd_n : afterZ80 [0xFD, 0x36, 0x02, 0x99] [] (fun z => { z with iy := 0x1000#16 })
    (fun s => (zbytesAt s 0x1002 1)) = some ([0x99]) := by decide +kernel

/-- 95 ZL5. -/
theorem test_z_ld_a_bc : afterZ80 [0x0A] [(0x001000, [0x42])] (fun z => (z.setBc 0x1000#16))
    (fun s => (s.z80.a)) = some (0x42#8) := by decide +kernel

/-- Rule R528. -/
theorem test_z_ld_de_a : afterZ80 [0x12] [] (fun z => ({ z with a := 0x01#8 }.setDe 0x1001#16))
    (fun s => (zbytesAt s 0x1001 1)) = some ([0x01]) := by decide +kernel

/-- 95 ZL6. -/
theorem test_z_ld_nn_a : afterZ80 [0x32, 0x00, 0x10] [] (fun z => { z with a := 0x5A#8 })
    (fun s => (zbytesAt s 0x1000 1)) = some ([0x5A]) := by decide +kernel

/-- Rule R527. -/
theorem test_z_ld_a_nn : afterZ80 [0x3A, 0x00, 0x10] [(0x001000, [0x5A])] (fun z => z)
    (fun s => (s.z80.a)) = some (0x5A#8) := by decide +kernel

/-- 95 ZL7. -/
theorem test_z_ld_nn_hl : afterZ80 [0x22, 0x00, 0x10] [] (fun z => (z.setHl 0x1234#16))
    (fun s => (zbytesAt s 0x1000 2)) = some ([0x34, 0x12]) := by decide +kernel

/-- 95 ZL8. -/
theorem test_z_ld_hl_nn : afterZ80 [0x2A, 0x00, 0x10] [(0x001000, [0x34, 0x12])] (fun z => z)
    (fun s => (s.z80.hl)) = some (0x1234#16) := by decide +kernel

/-- Rule R538. -/
theorem test_z_ld_bc_imm : afterZ80 [0x01, 0x34, 0x12] [] (fun z => z)
    (fun s => (s.z80.bc)) = some (0x1234#16) := by decide +kernel

/-- Rule R538. -/
theorem test_z_ld_ix_imm : afterZ80 [0xDD, 0x21, 0x00, 0x20] [] (fun z => z)
    (fun s => (s.z80.ix)) = some (0x2000#16) := by decide +kernel

/-- Rule R539. -/
theorem test_z_ld_iy_nn : afterZ80 [0xFD, 0x2A, 0x00, 0x10] [(0x001000, [0x34, 0x12])] (fun z => z)
    (fun s => (s.z80.iy)) = some (0x1234#16) := by decide +kernel

/-- Rule R540. -/
theorem test_z_ld_de_nn : afterZ80 [0xED, 0x5B, 0x00, 0x10] [(0x001000, [0x34, 0x12])] (fun z => z)
    (fun s => (s.z80.de)) = some (0x1234#16) := by decide +kernel

/-- Rule R542. -/
theorem test_z_ld_nn_sp : afterZ80 [0xED, 0x73, 0x00, 0x10] [] (fun z => { z with sp := 0x1FFE#16 })
    (fun s => (zbytesAt s 0x1000 2)) = some ([0xFE, 0x1F]) := by decide +kernel

/-- Rule R541. -/
theorem test_z_ld_nn_ix : afterZ80 [0xDD, 0x22, 0x00, 0x10] [] (fun z => { z with ix := 0x1234#16 })
    (fun s => (zbytesAt s 0x1000 2)) = some ([0x34, 0x12]) := by decide +kernel

/-- Rule R543. -/
theorem test_z_ld_sp_hl : afterZ80 [0xF9] [] (fun z => (z.setHl 0x1234#16))
    (fun s => (s.z80.sp)) = some (0x1234#16) := by decide +kernel

/-- Rule R543. -/
theorem test_z_ld_sp_ix : afterZ80 [0xDD, 0xF9] [] (fun z => { z with ix := 0x1234#16 })
    (fun s => (s.z80.sp)) = some (0x1234#16) := by decide +kernel

/-- 95 ZL9. -/
theorem test_z_ex_de_hl : afterZ80 [0xEB] [] (fun z => ((z.setDe 0x0001#16).setHl 0x0002#16))
    (fun s => (s.z80.de, s.z80.hl)) = some (0x0002#16, 0x0001#16) := by decide +kernel

/-- Rule R531. -/
theorem test_z_ex_af : afterZ80 [0x08] [] (fun z => { z with a := 0x12#8, f := FReg.ofByte 0x34#8, a' := 0x56#8, f' := FReg.ofByte 0x78#8 })
    (fun s => (s.z80.af, s.z80.a' ++ s.z80.f'.byte)) = some (0x5678#16, 0x1234#16) := by decide +kernel

/-- 95 ZL11. -/
theorem test_z_exx : afterZ80 [0xD9] [] (fun z => ((({ z with c' := 0x04#8, e' := 0x05#8, l' := 0x06#8 }.setBc 0x0001#16).setDe 0x0002#16).setHl 0x0003#16))
    (fun s => (s.z80.bc, s.z80.de, s.z80.hl, s.z80.c')) = some (0x0004#16, 0x0005#16, 0x0006#16, 1#8) := by decide +kernel

/-- 95 ZL12. -/
theorem test_z_ex_sp_hl : afterZ80 [0xE3] [(0x001FF0, [0x34, 0x12])] (fun z => ({ z with sp := 0x1FF0#16 }.setHl 0xABCD#16))
    (fun s => (s.z80.hl, zbytesAt s 0x1FF0 2)) = some (0x1234#16, [0xCD, 0xAB]) := by decide +kernel

/-- Rule R533. -/
theorem test_z_ex_sp_iy : afterZ80 [0xFD, 0xE3] [(0x001FF0, [0x34, 0x12])] (fun z => { z with sp := 0x1FF0#16, iy := 0xABCD#16 })
    (fun s => (s.z80.iy, zbytesAt s 0x1FF0 2)) = some (0x1234#16, [0xCD, 0xAB]) := by decide +kernel

/-- 95 ZL13. -/
theorem test_z_ld_a_i : afterZ80 [0xED, 0x57] [] (fun z => { z with a := 0x09#8, f := FReg.ofByte 0x01#8 })
    (fun s => (s.z80.a, [s.z80.flags.s, s.z80.flags.z, s.z80.flags.h, s.z80.flags.p, s.z80.flags.n, s.z80.flags.c])) = some (0x00#8, [false, true, false, false, false, true]) := by decide +kernel

/-- 95 ZL14. -/
theorem test_z_ld_a_r : afterZ80 [0xED, 0x5F] [] (fun z => { z with r := 0x80#8, iff1 := true, iff2 := true })
    (fun s => (s.z80.pc, [s.z80.flags.h, s.z80.flags.p, s.z80.flags.n])) = some (0x0102#16, [false, true, false]) := by decide +kernel

/-- Rule R536. -/
theorem test_z_ld_i_a : afterZ80 [0xED, 0x47] [] (fun z => { z with a := 0x09#8 })
    (fun s => (s.z80.i)) = some (0x09#8) := by decide +kernel

/-- Rule R537. -/
theorem test_z_ld_r_a : afterZ80 [0xED, 0x4F] [] (fun z => { z with a := 0x09#8 })
    (fun s => (s.z80.r)) = some (0x09#8) := by decide +kernel

/-- 95 ZL15. -/
theorem test_z_push : afterZ80 [0xC5] [] (fun z => ({ z with sp := 0x2000#16 }.setBc 0x1234#16))
    (fun s => (zbytesAt s 0x1FFE 2, s.z80.sp)) = some ([0x34, 0x12], 0x1FFE#16) := by decide +kernel

/-- 95 ZL15. -/
theorem test_z_pop : afterZ80 [0xD1] [(0x001FFE, [0x34, 0x12])] (fun z => { z with sp := 0x1FFE#16 })
    (fun s => (s.z80.de, s.z80.sp)) = some (0x1234#16, 0x2000#16) := by decide +kernel

/-- Rule R544. -/
theorem test_z_push_ix : afterZ80 [0xDD, 0xE5] [] (fun z => { z with sp := 0x2000#16, ix := 0x1234#16 })
    (fun s => (zbytesAt s 0x1FFE 2)) = some ([0x34, 0x12]) := by decide +kernel

/-- Rule R545. -/
theorem test_z_pop_iy : afterZ80 [0xFD, 0xE1] [(0x001FFE, [0x34, 0x12])] (fun z => { z with sp := 0x1FFE#16 })
    (fun s => (s.z80.iy)) = some (0x1234#16) := by decide +kernel

/-- 95 ZL16. -/
theorem test_z_pop_af : afterZ80 [0xF1] [(0x001FFE, [0xFF, 0x01])] (fun z => { z with sp := 0x1FFE#16 })
    (fun s => (s.z80.af)) = some (0x01FF#16) := by decide +kernel

/-- 95 ZL17. -/
theorem test_z_ldi : afterZ80 [0xED, 0xA0] [(0x001000, [0xAA])] (fun z => ((({ z with f := FReg.ofByte 0xFF#8 }.setHl 0x1000#16).setDe 0x1100#16).setBc 0x0001#16))
    (fun s => (zbytesAt s 0x1100 1, s.z80.hl, s.z80.de, s.z80.bc, [s.z80.flags.s, s.z80.flags.z, s.z80.flags.h, s.z80.flags.p, s.z80.flags.n, s.z80.flags.c])) = some ([0xAA], 0x1001#16, 0x1101#16, 0x0000#16, [true, true, false, false, false, true]) := by decide +kernel

/-- Rule R547. -/
theorem test_z_ldir : afterZ80 [0xED, 0xB0] [(0x001000, [0xAA])] (fun z => (((z.setHl 0x1000#16).setDe 0x1100#16).setBc 0x0002#16))
    (fun s => (s.z80.pc, s.z80.bc)) = some (0x0100#16, 0x0001#16) := by decide +kernel

/-- Rule R548. -/
theorem test_z_ldd : afterZ80 [0xED, 0xA8] [(0x001000, [0xAA])] (fun z => (((z.setHl 0x1000#16).setDe 0x1100#16).setBc 0x0001#16))
    (fun s => (zbytesAt s 0x1100 1, s.z80.hl, s.z80.de)) = some ([0xAA], 0x0FFF#16, 0x10FF#16) := by decide +kernel

/-- 95 ZL18. -/
theorem test_z_lddr : afterZ80 [0xED, 0xB8] [(0x001002, [0xA1, 0xA2])] (fun z => (((z.setHl 0x1003#16).setDe 0x1203#16).setBc 0x0002#16))
    (fun s => (zbytesAt s 0x1203 1, s.z80.pc)) = some ([0xA2], 0x0100#16) := by decide +kernel

/-- 95 ZL20. -/
theorem test_z_cpi : afterZ80 [0xED, 0xA1] [(0x001000, [0x01])] (fun z => (({ z with a := 0x10#8 }.setHl 0x1000#16).setBc 0x0001#16))
    (fun s => ([s.z80.flags.s, s.z80.flags.z, s.z80.flags.h, s.z80.flags.p, s.z80.flags.n], s.z80.a, s.z80.hl)) = some ([false, false, true, false, true], 0x10#8, 0x1001#16) := by decide +kernel

/-- Rule R551. -/
theorem test_z_cpir : afterZ80 [0xED, 0xB1] [(0x001000, [0x33])] (fun z => (({ z with a := 0x33#8 }.setHl 0x1000#16).setBc 0x0004#16))
    (fun s => (s.z80.pc, s.z80.bc)) = some (0x0102#16, 0x0003#16) := by decide +kernel

/-- Rule R552. -/
theorem test_z_cpd : afterZ80 [0xED, 0xA9] [(0x001000, [0x10])] (fun z => (({ z with a := 0x10#8 }.setHl 0x1000#16).setBc 0x0001#16))
    (fun s => (s.z80.hl, [s.z80.flags.s, s.z80.flags.z, s.z80.flags.h, s.z80.flags.p, s.z80.flags.n])) = some (0x0FFF#16, [false, true, false, false, true]) := by decide +kernel

/-- Rule R553. -/
theorem test_z_cpdr : afterZ80 [0xED, 0xB9] [(0x001000, [0x34])] (fun z => (({ z with a := 0x33#8 }.setHl 0x1000#16).setBc 0x0004#16))
    (fun s => (s.z80.pc)) = some (0x0100#16) := by decide +kernel

/-- 95 ZA1. -/
theorem test_z_add : afterZ80 [0x80] [] (fun z => { z with a := 0x7F#8, b := 0x01#8 })
    (fun s => (s.z80.a, [s.z80.flags.s, s.z80.flags.z, s.z80.flags.h, s.z80.flags.p, s.z80.flags.n, s.z80.flags.c])) = some (0x80#8, [true, false, true, true, false, false]) := by decide +kernel

/-- 95 ZA2. -/
theorem test_z_add_n : afterZ80 [0xC6, 0x01] [] (fun z => { z with a := 0xFF#8 })
    (fun s => (s.z80.a, [s.z80.flags.s, s.z80.flags.z, s.z80.flags.h, s.z80.flags.p, s.z80.flags.n, s.z80.flags.c])) = some (0x00#8, [false, true, true, false, false, true]) := by decide +kernel

/-- 95 ZA4. -/
theorem test_z_adc_n : afterZ80 [0xCE, 0x00] [] (fun z => { z with a := 0xFF#8, f := FReg.ofByte 0x01#8 })
    (fun s => (s.z80.a, [s.z80.flags.s, s.z80.flags.z, s.z80.flags.h, s.z80.flags.p, s.z80.flags.n, s.z80.flags.c])) = some (0x00#8, [false, true, true, false, false, true]) := by decide +kernel

/-- 95 ZA5. -/
theorem test_z_sub_n : afterZ80 [0xD6, 0x01] [] (fun z => { z with a := 0x00#8 })
    (fun s => (s.z80.a, [s.z80.flags.s, s.z80.flags.z, s.z80.flags.h, s.z80.flags.p, s.z80.flags.n, s.z80.flags.c])) = some (0xFF#8, [true, false, true, false, true, true]) := by decide +kernel

/-- 95 ZA6. -/
theorem test_z_sub_n2 : afterZ80 [0xD6, 0x01] [] (fun z => { z with a := 0x80#8 })
    (fun s => (s.z80.a, [s.z80.flags.s, s.z80.flags.z, s.z80.flags.h, s.z80.flags.p, s.z80.flags.n, s.z80.flags.c])) = some (0x7F#8, [false, false, true, true, true, false]) := by decide +kernel

/-- 95 ZA8. -/
theorem test_z_sbc_r : afterZ80 [0x98] [] (fun z => { z with a := 0x80#8, b := 0x00#8, f := FReg.ofByte 0x01#8 })
    (fun s => (s.z80.a, [s.z80.flags.s, s.z80.flags.z, s.z80.flags.h, s.z80.flags.p, s.z80.flags.n, s.z80.flags.c])) = some (0x7F#8, [false, false, true, true, true, false]) := by decide +kernel

/-- 95 ZA9. -/
theorem test_z_cp_n : afterZ80 [0xFE, 0x02] [] (fun z => { z with a := 0x01#8 })
    (fun s => (s.z80.a, [s.z80.flags.s, s.z80.flags.z, s.z80.flags.h, s.z80.flags.p, s.z80.flags.n, s.z80.flags.c])) = some (0x01#8, [true, false, true, false, true, true]) := by decide +kernel

/-- 95 ZA10. -/
theorem test_z_and_n : afterZ80 [0xE6, 0x0F] [] (fun z => { z with a := 0xF3#8 })
    (fun s => (s.z80.a, [s.z80.flags.s, s.z80.flags.z, s.z80.flags.h, s.z80.flags.p, s.z80.flags.n, s.z80.flags.c])) = some (0x03#8, [false, false, true, true, false, false]) := by decide +kernel

/-- 95 ZA11. -/
theorem test_z_xor_n : afterZ80 [0xEE, 0xFF] [] (fun z => { z with a := 0x0F#8 })
    (fun s => (s.z80.a, [s.z80.flags.s, s.z80.flags.z, s.z80.flags.h, s.z80.flags.p, s.z80.flags.n, s.z80.flags.c])) = some (0xF0#8, [true, false, false, true, false, false]) := by decide +kernel

/-- 95 ZA12. -/
theorem test_z_or_r : afterZ80 [0xB0] [] (fun z => { z with a := 0x01#8, b := 0x00#8 })
    (fun s => (s.z80.a, [s.z80.flags.s, s.z80.flags.z, s.z80.flags.h, s.z80.flags.p, s.z80.flags.n, s.z80.flags.c])) = some (0x01#8, [false, false, false, false, false, false]) := by decide +kernel

/-- Rule R572. -/
theorem test_z_adc_r : afterZ80 [0x88] [] (fun z => { z with a := 0x01#8, b := 0x01#8, f := FReg.ofByte 0x01#8 })
    (fun s => (s.z80.a)) = some (0x03#8) := by decide +kernel

/-- Rule R573. -/
theorem test_z_sub_r : afterZ80 [0x90] [] (fun z => { z with a := 0x01#8, b := 0x01#8 })
    (fun s => (s.z80.a, [s.z80.flags.s, s.z80.flags.z, s.z80.flags.h, s.z80.flags.p, s.z80.flags.n, s.z80.flags.c])) = some (0x00#8, [false, true, false, false, true, false]) := by decide +kernel

/-- Rule R575. -/
theorem test_z_and_r : afterZ80 [0xA6] [(0x001000, [0x81])] (fun z => ({ z with a := 0xFF#8 }.setHl 0x1000#16))
    (fun s => (s.z80.a, [s.z80.flags.s, s.z80.flags.z, s.z80.flags.h, s.z80.flags.p, s.z80.flags.n, s.z80.flags.c])) = some (0x81#8, [true, false, true, true, false, false]) := by decide +kernel

/-- Rule R577. -/
theorem test_z_xor_r : afterZ80 [0xAF] [] (fun z => { z with a := 0x5A#8 })
    (fun s => (s.z80.a, [s.z80.flags.s, s.z80.flags.z, s.z80.flags.h, s.z80.flags.p, s.z80.flags.n, s.z80.flags.c])) = some (0x00#8, [false, true, false, true, false, false]) := by decide +kernel

/-- Rule R578. -/
theorem test_z_cp_r : afterZ80 [0xB8] [] (fun z => { z with a := 0x02#8, b := 0x01#8 })
    (fun s => (s.z80.a, [s.z80.flags.s, s.z80.flags.z, s.z80.flags.h, s.z80.flags.p, s.z80.flags.n, s.z80.flags.c])) = some (0x02#8, [false, false, false, false, true, false]) := by decide +kernel

/-- Rule R574. -/
theorem test_z_sbc_n : afterZ80 [0xDE, 0x01] [] (fun z => { z with a := 0x01#8, f := FReg.ofByte 0x01#8 })
    (fun s => (s.z80.a)) = some (0xFF#8) := by decide +kernel

/-- Rule R576. -/
theorem test_z_or_n : afterZ80 [0xF6, 0x80] [] (fun z => { z with a := 0x01#8 })
    (fun s => (s.z80.a, [s.z80.flags.s, s.z80.flags.z, s.z80.flags.h, s.z80.flags.p, s.z80.flags.n, s.z80.flags.c])) = some (0x81#8, [true, false, false, true, false, false]) := by decide +kernel

/-- Rule R570. -/
theorem test_z_add_ixd : afterZ80 [0xDD, 0x86, 0x01] [(0x001001, [0x03])] (fun z => { z with a := 0x30#8, ix := 0x1000#16, f := FReg.ofByte 0x01#8 })
    (fun s => (s.z80.a)) = some (0x33#8) := by decide +kernel

/-- Rule R570. -/
theorem test_z_adc_ixd : afterZ80 [0xDD, 0x8E, 0x01] [(0x001001, [0x03])] (fun z => { z with a := 0x30#8, ix := 0x1000#16, f := FReg.ofByte 0x01#8 })
    (fun s => (s.z80.a)) = some (0x34#8) := by decide +kernel

/-- Rule R570. -/
theorem test_z_sub_ixd : afterZ80 [0xDD, 0x96, 0x01] [(0x001001, [0x03])] (fun z => { z with a := 0x30#8, ix := 0x1000#16, f := FReg.ofByte 0x01#8 })
    (fun s => (s.z80.a)) = some (0x2D#8) := by decide +kernel

/-- Rule R570. -/
theorem test_z_sbc_ixd : afterZ80 [0xDD, 0x9E, 0x01] [(0x001001, [0x03])] (fun z => { z with a := 0x30#8, ix := 0x1000#16, f := FReg.ofByte 0x01#8 })
    (fun s => (s.z80.a)) = some (0x2C#8) := by decide +kernel

/-- Rule R570. -/
theorem test_z_and_ixd : afterZ80 [0xDD, 0xA6, 0x01] [(0x001001, [0x03])] (fun z => { z with a := 0x30#8, ix := 0x1000#16, f := FReg.ofByte 0x01#8 })
    (fun s => (s.z80.a)) = some (0x00#8) := by decide +kernel

/-- Rule R570. -/
theorem test_z_xor_ixd : afterZ80 [0xDD, 0xAE, 0x01] [(0x001001, [0x03])] (fun z => { z with a := 0x30#8, ix := 0x1000#16, f := FReg.ofByte 0x01#8 })
    (fun s => (s.z80.a)) = some (0x33#8) := by decide +kernel

/-- Rule R570. -/
theorem test_z_or_ixd : afterZ80 [0xDD, 0xB6, 0x01] [(0x001001, [0x03])] (fun z => { z with a := 0x30#8, ix := 0x1000#16, f := FReg.ofByte 0x01#8 })
    (fun s => (s.z80.a)) = some (0x33#8) := by decide +kernel

/-- Rule R570. -/
theorem test_z_cp_ixd : afterZ80 [0xDD, 0xBE, 0x01] [(0x001001, [0x03])] (fun z => { z with a := 0x30#8, ix := 0x1000#16, f := FReg.ofByte 0x01#8 })
    (fun s => (s.z80.a)) = some (0x30#8) := by decide +kernel

/-- 95 ZA14. -/
theorem test_z_inc_a : afterZ80 [0x3C] [] (fun z => { z with a := 0x7F#8, f := FReg.ofByte 0x01#8 })
    (fun s => (s.z80.a, [s.z80.flags.s, s.z80.flags.z, s.z80.flags.h, s.z80.flags.p, s.z80.flags.n, s.z80.flags.c])) = some (0x80#8, [true, false, true, true, false, true]) := by decide +kernel

/-- 95 ZA15. -/
theorem test_z_inc_hl : afterZ80 [0x34] [(0x001000, [0xFF])] (fun z => (z.setHl 0x1000#16))
    (fun s => (zbytesAt s 0x1000 1, [s.z80.flags.s, s.z80.flags.z, s.z80.flags.h, s.z80.flags.p, s.z80.flags.n, s.z80.flags.c])) = some ([0x00], [false, true, true, false, false, false]) := by decide +kernel

/-- 95 ZA16. -/
theorem test_z_dec_a : afterZ80 [0x3D] [] (fun z => { z with a := 0x80#8 })
    (fun s => (s.z80.a, [s.z80.flags.s, s.z80.flags.z, s.z80.flags.h, s.z80.flags.p, s.z80.flags.n, s.z80.flags.c])) = some (0x7F#8, [false, false, true, true, true, false]) := by decide +kernel

/-- Rule R579. -/
theorem test_z_inc_ixd : afterZ80 [0xDD, 0x34, 0x01] [(0x001001, [0x03])] (fun z => { z with ix := 0x1000#16 })
    (fun s => (zbytesAt s 0x1001 1)) = some ([0x04]) := by decide +kernel

/-- Rule R580. -/
theorem test_z_dec_iyd : afterZ80 [0xFD, 0x35, 0xFF] [(0x000FFF, [0x03])] (fun z => { z with iy := 0x1000#16 })
    (fun s => (zbytesAt s 0x0FFF 1)) = some ([0x02]) := by decide +kernel

/-- 95 ZA18. -/
theorem test_z_cpl : afterZ80 [0x2F] [] (fun z => { z with a := 0x0F#8 })
    (fun s => (s.z80.a, [s.z80.flags.s, s.z80.flags.z, s.z80.flags.h, s.z80.flags.p, s.z80.flags.n, s.z80.flags.c])) = some (0xF0#8, [false, false, true, false, true, false]) := by decide +kernel

/-- 95 ZA19. -/
theorem test_z_neg : afterZ80 [0xED, 0x44] [] (fun z => { z with a := 0x80#8 })
    (fun s => (s.z80.a, [s.z80.flags.s, s.z80.flags.z, s.z80.flags.h, s.z80.flags.p, s.z80.flags.n, s.z80.flags.c])) = some (0x80#8, [true, false, false, true, true, true]) := by decide +kernel

/-- 95 ZA21. -/
theorem test_z_ccf : afterZ80 [0x3F] [] (fun z => { z with f := FReg.ofByte 0x01#8 })
    (fun s => ([s.z80.flags.s, s.z80.flags.z, s.z80.flags.h, s.z80.flags.p, s.z80.flags.n, s.z80.flags.c])) = some ([false, false, true, false, false, false]) := by decide +kernel

/-- 95 ZA22. -/
theorem test_z_scf : afterZ80 [0x37] [] (fun z => { z with f := FReg.ofByte 0x10#8 })
    (fun s => ([s.z80.flags.s, s.z80.flags.z, s.z80.flags.h, s.z80.flags.p, s.z80.flags.n, s.z80.flags.c])) = some ([false, false, false, false, false, true]) := by decide +kernel

/-- 95 ZA23. -/
theorem test_z_add_hl_hl : afterZ80 [0x29] [] (fun z => ({ z with f := FReg.ofByte 0xC4#8 }.setHl 0x8000#16))
    (fun s => (s.z80.hl, [s.z80.flags.s, s.z80.flags.z, s.z80.flags.h, s.z80.flags.p, s.z80.flags.n, s.z80.flags.c])) = some (0x0000#16, [true, true, false, true, false, true]) := by decide +kernel

/-- 95 ZA24. -/
theorem test_z_add_hl_de : afterZ80 [0x19] [] (fun z => ((z.setHl 0x0FFF#16).setDe 0x0001#16))
    (fun s => (s.z80.hl, [s.z80.flags.s, s.z80.flags.z, s.z80.flags.h, s.z80.flags.p, s.z80.flags.n, s.z80.flags.c])) = some (0x1000#16, [false, false, true, false, false, false]) := by decide +kernel

/-- 95 ZA25. -/
theorem test_z_adc_hl : afterZ80 [0xED, 0x4A] [] (fun z => (({ z with f := FReg.ofByte 0x01#8 }.setHl 0x7FFF#16).setBc 0x0000#16))
    (fun s => (s.z80.hl, [s.z80.flags.s, s.z80.flags.z, s.z80.flags.h, s.z80.flags.p, s.z80.flags.n, s.z80.flags.c])) = some (0x8000#16, [true, false, true, true, false, false]) := by decide +kernel

/-- 95 ZA26. -/
theorem test_z_sbc_hl : afterZ80 [0xED, 0x52] [] (fun z => ((z.setHl 0x0000#16).setDe 0x0001#16))
    (fun s => (s.z80.hl, [s.z80.flags.s, s.z80.flags.z, s.z80.flags.h, s.z80.flags.p, s.z80.flags.n, s.z80.flags.c])) = some (0xFFFF#16, [true, false, true, false, true, true]) := by decide +kernel

/-- Rule R588. -/
theorem test_z_add_ix_sp : afterZ80 [0xDD, 0x39] [] (fun z => { z with ix := 0x1000#16, sp := 0x0100#16 })
    (fun s => (s.z80.ix)) = some (0x1100#16) := by decide +kernel

/-- Rule R588. -/
theorem test_z_add_iy_iy : afterZ80 [0xFD, 0x29] [] (fun z => ({ z with iy := 0x1000#16 }.setHl 0x0005#16))
    (fun s => (s.z80.iy)) = some (0x2000#16) := by decide +kernel

/-- 95 ZA27. -/
theorem test_z_inc_bc : afterZ80 [0x03] [] (fun z => (z.setBc 0xFFFF#16))
    (fun s => (s.z80.bc)) = some (0x0000#16) := by decide +kernel

/-- Rule R590. -/
theorem test_z_dec_sp : afterZ80 [0x3B] [] (fun z => { z with sp := 0x0000#16 })
    (fun s => (s.z80.sp)) = some (0xFFFF#16) := by decide +kernel

/-- Rule R589. -/
theorem test_z_inc_ix : afterZ80 [0xDD, 0x23] [] (fun z => { z with ix := 0xFFFF#16 })
    (fun s => (s.z80.ix)) = some (0x0000#16) := by decide +kernel

/-- Rule R590. -/
theorem test_z_dec_iy : afterZ80 [0xFD, 0x2B] [] (fun z => { z with iy := 0x0000#16 })
    (fun s => (s.z80.iy)) = some (0xFFFF#16) := by decide +kernel

/-- 95 ZA28. -/
theorem test_z_rlca : afterZ80 [0x07] [] (fun z => { z with a := 0x81#8, f := FReg.ofByte 0xC4#8 })
    (fun s => (s.z80.a, [s.z80.flags.s, s.z80.flags.z, s.z80.flags.h, s.z80.flags.p, s.z80.flags.n, s.z80.flags.c])) = some (0x03#8, [true, true, false, true, false, true]) := by decide +kernel

/-- Rule R592. -/
theorem test_z_rla : afterZ80 [0x17] [] (fun z => { z with a := 0x80#8 })
    (fun s => (s.z80.a, [s.z80.flags.s, s.z80.flags.z, s.z80.flags.h, s.z80.flags.p, s.z80.flags.n, s.z80.flags.c])) = some (0x00#8, [false, false, false, false, false, true]) := by decide +kernel

/-- Rule R593. -/
theorem test_z_rrca : afterZ80 [0x0F] [] (fun z => { z with a := 0x01#8 })
    (fun s => (s.z80.a, [s.z80.flags.s, s.z80.flags.z, s.z80.flags.h, s.z80.flags.p, s.z80.flags.n, s.z80.flags.c])) = some (0x80#8, [false, false, false, false, false, true]) := by decide +kernel

/-- 95 ZA29. -/
theorem test_z_rra : afterZ80 [0x1F] [] (fun z => { z with a := 0x01#8, f := FReg.ofByte 0x01#8 })
    (fun s => (s.z80.a, [s.z80.flags.s, s.z80.flags.z, s.z80.flags.h, s.z80.flags.p, s.z80.flags.n, s.z80.flags.c])) = some (0x80#8, [false, false, false, false, false, true]) := by decide +kernel

/-- 95 ZA30. -/
theorem test_z_rlc_hl : afterZ80 [0xCB, 0x06] [(0x001000, [0x80])] (fun z => (z.setHl 0x1000#16))
    (fun s => (zbytesAt s 0x1000 1, [s.z80.flags.s, s.z80.flags.z, s.z80.flags.h, s.z80.flags.p, s.z80.flags.n, s.z80.flags.c])) = some ([0x01], [false, false, false, false, false, true]) := by decide +kernel

/-- 95 ZA31. -/
theorem test_z_sra_b : afterZ80 [0xCB, 0x28] [] (fun z => { z with b := 0x81#8 })
    (fun s => (s.z80.b, [s.z80.flags.s, s.z80.flags.z, s.z80.flags.h, s.z80.flags.p, s.z80.flags.n, s.z80.flags.c])) = some (0xC0#8, [true, false, false, true, false, true]) := by decide +kernel

/-- 95 ZA32. -/
theorem test_z_srl_a : afterZ80 [0xCB, 0x3F] [] (fun z => { z with a := 0x01#8 })
    (fun s => (s.z80.a, [s.z80.flags.s, s.z80.flags.z, s.z80.flags.h, s.z80.flags.p, s.z80.flags.n, s.z80.flags.c])) = some (0x00#8, [false, true, false, true, false, true]) := by decide +kernel

/-- 95 ZA33. -/
theorem test_z_sla_a : afterZ80 [0xCB, 0x27] [] (fun z => { z with a := 0xC0#8 })
    (fun s => (s.z80.a, [s.z80.flags.s, s.z80.flags.z, s.z80.flags.h, s.z80.flags.p, s.z80.flags.n, s.z80.flags.c])) = some (0x80#8, [true, false, false, false, false, true]) := by decide +kernel

/-- 95 ZA34. -/
theorem test_z_rr_c : afterZ80 [0xCB, 0x19] [] (fun z => { z with c := 0x01#8 })
    (fun s => (s.z80.c, [s.z80.flags.s, s.z80.flags.z, s.z80.flags.h, s.z80.flags.p, s.z80.flags.n, s.z80.flags.c])) = some (0x00#8, [false, true, false, true, false, true]) := by decide +kernel

/-- Rule R596. -/
theorem test_z_rl_hl : afterZ80 [0xCB, 0x16] [(0x001000, [0x80])] (fun z => (z.setHl 0x1000#16))
    (fun s => (zbytesAt s 0x1000 1, [s.z80.flags.s, s.z80.flags.z, s.z80.flags.h, s.z80.flags.p, s.z80.flags.n, s.z80.flags.c])) = some ([0x00], [false, true, false, true, false, true]) := by decide +kernel

/-- Rule R597. -/
theorem test_z_rrc_b : afterZ80 [0xCB, 0x08] [] (fun z => { z with b := 0x01#8 })
    (fun s => (s.z80.b, [s.z80.flags.s, s.z80.flags.z, s.z80.flags.h, s.z80.flags.p, s.z80.flags.n, s.z80.flags.c])) = some (0x80#8, [true, false, false, false, false, true]) := by decide +kernel

/-- Rule R595 to R601. -/
theorem test_z_rlc_iyd : afterZ80 [0xFD, 0xCB, 0x01, 0x06] [(0x001001, [0x81])] (fun z => { z with iy := 0x1000#16, f := FReg.ofByte 0x01#8 })
    (fun s => (zbytesAt s 0x1001 1)) = some ([0x03]) := by decide +kernel

/-- Rule R595 to R601. -/
theorem test_z_rrc_iyd : afterZ80 [0xFD, 0xCB, 0x01, 0x0E] [(0x001001, [0x01])] (fun z => { z with iy := 0x1000#16, f := FReg.ofByte 0x01#8 })
    (fun s => (zbytesAt s 0x1001 1)) = some ([0x80]) := by decide +kernel

/-- Rule R595 to R601. -/
theorem test_z_rl_iyd : afterZ80 [0xFD, 0xCB, 0x01, 0x16] [(0x001001, [0x80])] (fun z => { z with iy := 0x1000#16, f := FReg.ofByte 0x01#8 })
    (fun s => (zbytesAt s 0x1001 1)) = some ([0x01]) := by decide +kernel

/-- Rule R595 to R601. -/
theorem test_z_rr_iyd : afterZ80 [0xFD, 0xCB, 0x01, 0x1E] [(0x001001, [0x01])] (fun z => { z with iy := 0x1000#16, f := FReg.ofByte 0x01#8 })
    (fun s => (zbytesAt s 0x1001 1)) = some ([0x80]) := by decide +kernel

/-- Rule R595 to R601. -/
theorem test_z_sla_iyd : afterZ80 [0xFD, 0xCB, 0x01, 0x26] [(0x001001, [0xC0])] (fun z => { z with iy := 0x1000#16, f := FReg.ofByte 0x01#8 })
    (fun s => (zbytesAt s 0x1001 1)) = some ([0x80]) := by decide +kernel

/-- Rule R595 to R601. -/
theorem test_z_sra_iyd : afterZ80 [0xFD, 0xCB, 0x01, 0x2E] [(0x001001, [0x81])] (fun z => { z with iy := 0x1000#16, f := FReg.ofByte 0x01#8 })
    (fun s => (zbytesAt s 0x1001 1)) = some ([0xC0]) := by decide +kernel

/-- Rule R595 to R601. -/
theorem test_z_srl_iyd : afterZ80 [0xFD, 0xCB, 0x01, 0x3E] [(0x001001, [0x01])] (fun z => { z with iy := 0x1000#16, f := FReg.ofByte 0x01#8 })
    (fun s => (zbytesAt s 0x1001 1)) = some ([0x00]) := by decide +kernel

/-- 95 ZA35. -/
theorem test_z_rld : afterZ80 [0xED, 0x6F] [(0x001000, [0x34])] (fun z => ({ z with a := 0x12#8 }.setHl 0x1000#16))
    (fun s => (zbytesAt s 0x1000 1, s.z80.a, [s.z80.flags.s, s.z80.flags.z, s.z80.flags.h, s.z80.flags.p, s.z80.flags.n, s.z80.flags.c])) = some ([0x42], 0x13#8, [false, false, false, false, false, false]) := by decide +kernel

/-- 95 ZA36. -/
theorem test_z_rrd : afterZ80 [0xED, 0x67] [(0x001000, [0x34])] (fun z => ({ z with a := 0x12#8 }.setHl 0x1000#16))
    (fun s => (zbytesAt s 0x1000 1, s.z80.a, s.z80.flags.p)) = some ([0x23], 0x14#8, true) := by decide +kernel

/-- 95 ZA37. -/
theorem test_z_bit_b : afterZ80 [0xCB, 0x40] [] (fun z => { z with b := 0xFE#8, f := FReg.ofByte 0x01#8 })
    (fun s => ((s.z80.flags.z, s.z80.flags.h, s.z80.flags.n, s.z80.flags.c))) = some ((true, true, false, true)) := by decide +kernel

/-- Rule R604. -/
theorem test_z_bit_ixd : afterZ80 [0xDD, 0xCB, 0x01, 0x7E] [(0x001001, [0x80])] (fun z => { z with ix := 0x1000#16 })
    (fun s => (s.z80.flags.z)) = some (false) := by decide +kernel

/-- 95 ZA38. -/
theorem test_z_set_ixd : afterZ80 [0xDD, 0xCB, 0x01, 0xFE] [] (fun z => { z with ix := 0x1000#16 })
    (fun s => (zbytesAt s 0x1001 1)) = some ([0x80]) := by decide +kernel

/-- 95 ZA39. -/
theorem test_z_res_iyd : afterZ80 [0xFD, 0xCB, 0xFF, 0x8E] [(0x001800, [0xFF])] (fun z => { z with iy := 0x1801#16 })
    (fun s => (zbytesAt s 0x1800 1)) = some ([0xFD]) := by decide +kernel

/-- Rule R605. -/
theorem test_z_set_hl : afterZ80 [0xCB, 0xC6] [] (fun z => (z.setHl 0x1000#16))
    (fun s => (zbytesAt s 0x1000 1)) = some ([0x01]) := by decide +kernel

/-- Rule R606. -/
theorem test_z_res_a : afterZ80 [0xCB, 0x87] [] (fun z => { z with a := 0xFF#8 })
    (fun s => (s.z80.a)) = some (0xFE#8) := by decide +kernel

/-- 95 ZC1. -/
theorem test_z_jp : afterZ80 [0xC3, 0x34, 0x12] [] (fun z => z)
    (fun s => (s.z80.pc)) = some (0x1234#16) := by decide +kernel

/-- 95 ZC2. -/
theorem test_z_jp_nz : afterZ80 [0xC2, 0x34, 0x12] [] (fun z => { z with f := FReg.ofByte 0x40#8 })
    (fun s => (s.z80.pc)) = some (0x0103#16) := by decide +kernel

/-- 95 ZC3. -/
theorem test_z_jr : afterZ80 [0x18, 0xFE] [] (fun z => z)
    (fun s => (s.z80.pc)) = some (0x0100#16) := by decide +kernel

/-- 95 ZC4. -/
theorem test_z_jr_nc : afterZ80 [0x30, 0x04] [] (fun z => z)
    (fun s => (s.z80.pc)) = some (0x0106#16) := by decide +kernel

/-- 95 ZC5. -/
theorem test_z_jr_z : afterZ80 [0x28, 0x80] [] (fun z => { z with f := FReg.ofByte 0x40#8 })
    (fun s => (s.z80.pc)) = some (0x0082#16) := by decide +kernel

/-- Rule R635. -/
theorem test_z_jp_hl : afterZ80 [0xE9] [] (fun z => (z.setHl 0x2000#16))
    (fun s => (s.z80.pc)) = some (0x2000#16) := by decide +kernel

/-- 95 ZC6. -/
theorem test_z_jp_ix : afterZ80 [0xDD, 0xE9] [] (fun z => { z with ix := 0x2000#16 })
    (fun s => (s.z80.pc)) = some (0x2000#16) := by decide +kernel

/-- 95 ZC7. -/
theorem test_z_djnz : afterZ80 [0x10, 0xFE] [] (fun z => { z with b := 0x02#8 })
    (fun s => (s.z80.b, s.z80.pc)) = some (0x01#8, 0x0100#16) := by decide +kernel

/-- 95 ZC7. -/
theorem test_z_djnz_end : afterZ80 [0x10, 0xFE] [] (fun z => { z with b := 0x01#8 })
    (fun s => (s.z80.b, s.z80.pc)) = some (0x00#8, 0x0102#16) := by decide +kernel

/-- 95 ZC9. -/
theorem test_z_call : afterZ80 [0xCD, 0x00, 0x02] [] (fun z => { z with sp := 0x2000#16 })
    (fun s => (zbytesAt s 0x1FFE 2, s.z80.sp, s.z80.pc)) = some ([0x03, 0x01], 0x1FFE#16, 0x0200#16) := by decide +kernel

/-- Rule R638. -/
theorem test_z_call_cc_not : afterZ80 [0xCC, 0x00, 0x02] [] (fun z => { z with sp := 0x2000#16 })
    (fun s => (s.z80.sp, s.z80.pc)) = some (0x2000#16, 0x0103#16) := by decide +kernel

/-- 95 ZC10. -/
theorem test_z_ret : afterZ80 [0xC9] [(0x001FFE, [0x03, 0x01])] (fun z => { z with sp := 0x1FFE#16 })
    (fun s => (s.z80.pc, s.z80.sp)) = some (0x0103#16, 0x2000#16) := by decide +kernel

/-- 95 ZC11. -/
theorem test_z_ret_z_not : afterZ80 [0xC8] [] (fun z => { z with sp := 0x1FFE#16 })
    (fun s => (s.z80.pc, s.z80.sp)) = some (0x0101#16, 0x1FFE#16) := by decide +kernel

/-- 95 ZC12. -/
theorem test_z_rst : afterZ80 [0xFF] [] (fun z => { z with sp := 0x2000#16 })
    (fun s => (zbytesAt s 0x1FFE 2, s.z80.pc)) = some ([0x01, 0x01], 0x0038#16) := by decide +kernel

/-- 95 ZC13. -/
theorem test_z_reti : afterZ80 [0xED, 0x4D] [(0x001FFE, [0x03, 0x01])] (fun z => { z with iff2 := true, sp := 0x1FFE#16 })
    (fun s => (s.z80.pc, s.z80.iff1, s.events)) = some (0x0103#16, true, [.reti]) := by decide +kernel

/-- Rule R642. -/
theorem test_z_retn : afterZ80 [0xED, 0x45] [(0x001FFE, [0x03, 0x01])] (fun z => { z with iff2 := true, sp := 0x1FFE#16 })
    (fun s => (s.z80.pc, s.z80.iff1, s.events)) = some (0x0103#16, true, []) := by decide +kernel

/-- 95 ZC14. -/
theorem test_z_in_a_n : afterZ80 [0xDB, 0x10] [] (fun z => { z with a := 0x7F#8 })
    (fun s => (s.bus.mbZ80.op, s.bus.mbZ80.addr)) = some (.portRead, 0x7F10#16) := by decide +kernel

/-- 95 ZC15. -/
theorem test_z_out_n_a : afterZ80 [0xD3, 0x7F] [] (fun z => { z with a := 0x12#8 })
    (fun s => (s.bus.mbZ80.op, s.bus.mbZ80.addr, s.bus.mbZ80.value)) = some (.portWrite, 0x127F#16, 0x00000012#32) := by decide +kernel

/-- 95 ZC16. -/
theorem test_z_in_b_c : afterZ80 [0xED, 0x40] [] (fun z => (z.setBc 0x1234#16))
    (fun s => (s.bus.mbZ80.op, s.bus.mbZ80.addr)) = some (.portRead, 0x1234#16) := by decide +kernel

/-- Rule R651. -/
theorem test_z_out_c_r : afterZ80 [0xED, 0x51] [] (fun z => ({ z with d := 0x07#8 }.setBc 0x1234#16))
    (fun s => (s.bus.mbZ80.op, s.bus.mbZ80.addr, s.bus.mbZ80.value)) = some (.portWrite, 0x1234#16, 0x00000007#32) := by decide +kernel

/-- 95 ZC17. -/
theorem test_z_outi : afterZ80 [0xED, 0xA3] [(0x001000, [0x55])] (fun z => ((z.setBc 0x0110#16).setHl 0x1000#16))
    (fun s => (s.bus.mbZ80.op, s.bus.mbZ80.addr, s.bus.mbZ80.value)) = some (.portWrite, 0x0010#16, 0x00000055#32) := by decide +kernel

/-- 95 ZC18. -/
theorem test_z_ini : afterZ80 [0xED, 0xA2] [] (fun z => ((z.setBc 0x0220#16).setHl 0x1000#16))
    (fun s => (s.bus.mbZ80.op, s.bus.mbZ80.addr)) = some (.portRead, 0x0220#16) := by decide +kernel

/-- Rule R646 to R649. -/
theorem test_z_inir : afterZ80 [0xED, 0xB2] [] (fun z => ((z.setBc 0x0220#16).setHl 0x1000#16))
    (fun s => (s.bus.mbZ80.op, s.bus.mbZ80.addr)) = some (.portRead, 0x0220#16) := by decide +kernel

/-- Rule R646 to R649. -/
theorem test_z_ind : afterZ80 [0xED, 0xAA] [] (fun z => ((z.setBc 0x0220#16).setHl 0x1000#16))
    (fun s => (s.bus.mbZ80.op, s.bus.mbZ80.addr)) = some (.portRead, 0x0220#16) := by decide +kernel

/-- Rule R646 to R649. -/
theorem test_z_indr : afterZ80 [0xED, 0xBA] [] (fun z => ((z.setBc 0x0220#16).setHl 0x1000#16))
    (fun s => (s.bus.mbZ80.op, s.bus.mbZ80.addr)) = some (.portRead, 0x0220#16) := by decide +kernel

/-- Rule R652 to R655. -/
theorem test_z_otir : afterZ80 [0xED, 0xB3] [(0x001000, [0x55])] (fun z => ((z.setBc 0x0110#16).setHl 0x1000#16))
    (fun s => (s.bus.mbZ80.op, s.bus.mbZ80.addr, s.bus.mbZ80.value)) = some (.portWrite, 0x0010#16, 0x00000055#32) := by decide +kernel

/-- Rule R652 to R655. -/
theorem test_z_outd : afterZ80 [0xED, 0xAB] [(0x001000, [0x55])] (fun z => ((z.setBc 0x0110#16).setHl 0x1000#16))
    (fun s => (s.bus.mbZ80.op, s.bus.mbZ80.addr, s.bus.mbZ80.value)) = some (.portWrite, 0x0010#16, 0x00000055#32) := by decide +kernel

/-- Rule R652 to R655. -/
theorem test_z_otdr : afterZ80 [0xED, 0xBB] [(0x001000, [0x55])] (fun z => ((z.setBc 0x0110#16).setHl 0x1000#16))
    (fun s => (s.bus.mbZ80.op, s.bus.mbZ80.addr, s.bus.mbZ80.value)) = some (.portWrite, 0x0010#16, 0x00000055#32) := by decide +kernel

/-- Rule R656. -/
theorem test_z_nop_z80 : afterZ80 [0x00] [] (fun z => { z with a := 0x01#8 })
    (fun s => (s.z80.pc)) = some (0x0101#16) := by decide +kernel

/-- 95 ZC19. -/
theorem test_z_halt : afterZ80 [0x76] [] (fun z => z)
    (fun s => (s.z80.halted, s.z80.pc)) = some (true, 0x0101#16) := by decide +kernel

/-- 95 ZC23. -/
theorem test_z_di : afterZ80 [0xF3] [] (fun z => { z with iff1 := true, iff2 := true })
    (fun s => ((s.z80.iff1, s.z80.iff2))) = some ((false, false)) := by decide +kernel

/-- 95 ZC20. -/
theorem test_z_ei : afterZ80 [0xFB] [] (fun z => z)
    (fun s => ((s.z80.iff1, s.z80.iff2, s.z80.cooldown))) = some ((true, true, true)) := by decide +kernel

/-- Rule R660. -/
theorem test_z_im0 : afterZ80 [0xED, 0x46] [] (fun z => z)
    (fun s => (s.z80.im)) = some (.im0) := by decide +kernel

/-- Rule R661. -/
theorem test_z_im1 : afterZ80 [0xED, 0x56] [] (fun z => z)
    (fun s => (s.z80.im)) = some (.im1) := by decide +kernel

/-- Rule R662. -/
theorem test_z_im2 : afterZ80 [0xED, 0x5E] [] (fun z => z)
    (fun s => (s.z80.im)) = some (.im2) := by decide +kernel

/-- 95 ZA40. -/
theorem test_z_daa_refused : afterZ80 [0x27] [] (fun z => z)
    (fun s => (s.refusedMarks, s.z80.run)) = some ([(.z80, .unimplementedBcd)], .failed) := by decide +kernel

/-- 95 ZA41. -/
theorem test_z_sll_refused : afterZ80 [0xCB, 0x30] [] (fun z => z)
    (fun s => (s.refusedMarks, s.z80.run)) = some ([(.z80, .undocumentedZ80)], .failed) := by decide +kernel

/-- 95 ZC24. -/
theorem test_z_dd_dd_refused : afterZ80 [0xDD, 0xDD] [] (fun z => z)
    (fun s => (s.refusedMarks, s.z80.run)) = some ([(.z80, .prefixChain)], .failed) := by decide +kernel

/-- 95 ZC25. -/
theorem test_z_dd_00_refused : afterZ80 [0xDD, 0x00] [] (fun z => z)
    (fun s => (s.refusedMarks, s.z80.run)) = some ([(.z80, .undocumentedZ80)], .failed) := by decide +kernel

/-- 95 ZC25. -/
theorem test_z_ed_70_refused : afterZ80 [0xED, 0x70] [] (fun z => z)
    (fun s => (s.refusedMarks, s.z80.run)) = some ([(.z80, .undocumentedZ80)], .failed) := by decide +kernel

/-- 95 ZC26. -/
theorem test_z_ddcb_c7_refused : afterZ80 [0xDD, 0xCB, 0x05, 0xC7] [] (fun z => z)
    (fun s => (s.refusedMarks, s.z80.run)) = some ([(.z80, .undocumentedZ80)], .failed) := by decide +kernel

/-- Rule R226. -/
theorem test_z_fd_ed_refused : afterZ80 [0xFD, 0xED] [] (fun z => z)
    (fun s => (s.refusedMarks, s.z80.run)) = some ([(.z80, .prefixChain)], .failed) := by decide +kernel

/-- 95 BU19. -/
theorem test_z_window_issue : afterZ80 [0x3A, 0x34, 0x92] [] (fun z => z)
    (fun s => (s.bus.mbZ80.op, s.bus.mbZ80.addr)) = some (.memRead, 0x9234#16) := by decide +kernel

/-! ### Boundaries, exceptions and the bus -/

/-- M68K at 0x1000 with A7 = 0x00FFE000, SR and a posted level. -/
def level68k (sr : Word) (level : Nat) (mem : List (Nat × List Byte)) (f : M68k → M68k) : State :=
  ((start68k [0x7001] mem id).mapM68k fun m => f { m with sr := Sr.ofWord sr, osp := 0x00FF8000#32 }).mapBus fun b =>
    { b with mb68k := { b.mb68k with intLevel := level } }

/-- 95 EX3: level 3 at mask 3 is not accepted; the instruction at PC executes. -/
theorem test_level_equal_mask : nextOf (fun s => (s.bus.mb68k.intLevel, s.m68k.pc, s.m68k.dreg 0))
    (turn68k (level68k 0x2300 3 [] id)) = some (3, 0x1002#32, 1#32) := by decide +kernel

/-- 95 EX4: level 4 at mask 3 is accepted through vector 28. -/
theorem test_level_above_mask : nextOf (fun s => (s.bus.mb68k.intLevel, bytesAt s 0xFFDFFA 6, s.m68k.getSr, s.m68k.pc))
    (turn68k (level68k 0x2300 4 [(0x70, [0x00, 0x00, 0x40, 0x00])] id)) =
    some (0, [0x23, 0x00, 0x00, 0x00, 0x10, 0x00], 0x2400#16, 0x4000#32) := by decide +kernel

/-- 95 EX5: level 7 at mask 7 is not accepted. -/
theorem test_level_seven : nextOf (fun s => (s.bus.mb68k.intLevel, s.m68k.pc)) (turn68k (level68k 0x2700 7 [] id)) =
    some (7, 0x1002#32) := by decide +kernel

/-- 95 EX6: an interrupt ends the stopped state, and stacks the address after STOP. -/
theorem test_level_stopped : nextOf (fun s => (bytesAt s 0xFFDFFA 6, s.m68k.getSr, s.m68k.pc, s.m68k.run))
    (turn68k (level68k 0x2000 1 [(0x64, [0x00, 0x00, 0x50, 0x00])] fun m => { m with run := .stopped, pc := 0x1004 })) =
    some ([0x20, 0x00, 0x00, 0x00, 0x10, 0x04], 0x2100#16, 0x5000#32, .running) := by decide +kernel

/-- 95 EX7: a halted M68K takes no interrupt. -/
theorem test_level_halted : nextOf (fun s => (s.bus.mb68k.intLevel, s.m68k.pc, s.m68k.run))
    (turn68k (level68k 0x2000 7 [] fun m => { m with run := .halted .crashed })) = some (7, 0x1000#32, .halted .crashed) := by
  decide +kernel

/-- 95 EX8: an interrupt goes before the trace check. -/
theorem test_level_before_trace : nextOf (fun s => (s.m68k.trace, s.m68k.pc, s.refusedMarks))
    (turn68k (level68k 0xA000 1 [(0x64, [0x00, 0x00, 0x50, 0x00])] id)) = some (false, 0x5000#32, []) := by decide +kernel

/-- 95 EX9: T = 1 at a boundary is refused. -/
theorem test_trace_refused : nextOf (fun s => (s.refusedMarks, s.m68k.pc)) (turn68k (level68k 0xA700 0 [] id)) =
    some ([(.m68k, .trace)], 0x1000#32) := by decide +kernel

/-- 95 EX10: an odd PC halts M68K before any fetch. -/
theorem test_odd_pc : nextOf (fun s => (s.m68k.run, s.m68k.pc, s.faultedMarks))
    (turn68k (level68k 0x2700 0 [] fun m => { m with pc := 0x1001 })) =
    some (.halted .oddPc, 0x1001#32, [(.m68k, .halt .oddPc)]) := by decide +kernel

/-- 95 EX11, EX12: ILLEGAL under the policies `crash` and `ignore`. -/
theorem test_illegal_policy : [IllegalPolicy.crash, .ignore].map (fun p =>
    nextOf (fun s => (s.m68k.run, s.m68k.pc)) (turn68k { start68k [0x4AFC] [] id with
      launch := { Launch.default with policy := p } })) =
    [some (.halted .crashed, 0x1002#32), some (.running, 0x1002#32)] := by decide +kernel

/-- 95 EX17: a trap on an odd stack is the fault of its first stacking write. -/
theorem test_trap_odd_stack : nextOf (fun s => s.faultedMarks) (turn68k (start68k [0x4E40] [] fun m => m.setSp 0x00FFE001#32)) =
    some [(.m68k, .fault .misalignedData)] := by decide +kernel

/-- 95 EX2: RTE on the frame of EX1 restores SR, PC and both stack pointers. -/
theorem test_rte_to_user : after68k [0x4E73] [(0xFFDFFA, [0x00, 0x00, 0x00, 0x00, 0x10, 0x02])]
    (fun m => { m.setSp 0x00FFDFFA#32 with osp := 0x00FF8000#32 }) (fun s => (s.m68k.getSr, s.m68k.sp, s.m68k.osp, s.m68k.pc)) =
    some (0x0000#16, 0x00FF8000#32, 0x00FFE000#32, 0x1002#32) := by decide +kernel

/-- 95 CT22: RTE in user mode raises vector 8. -/
theorem test_rte_user : after68k [0x4E73] [(0x20, [0x00, 0x00, 0x06, 0x00])]
    (fun m => { m with sr := Sr.ofWord 0x0000#16, osp := 0x00FF9000#32 }) (fun s => (s.m68k.pc, bytesAt s 0xFF8FFA 6)) =
    some (0x600#32, [0x00, 0x00, 0x00, 0x00, 0x10, 0x00]) := by decide +kernel

/-- 70 R800: power-on takes A7 and PC from the first two longs of the image, and SR is 0x2700. -/
theorem test_power_on : (let s := State.powerOn Launch.default (fill [] 0 [(0, [0x00, 0xFF, 0xE0, 0x00, 0x00, 0x00, 0x04, 0x00])]) [];
    (s.m68k.sp, s.m68k.pc, s.m68k.getSr)) = (0x00FFE000#32, 0x00000400#32, 0x2700#16) := by decide +kernel

/-- 95 ZL22: an interrupt in mode 1 is taken between two iterations of LDIR, stacking its address. -/
theorem test_z_interrupt : nextOf (fun s => (s.z80.pc, zbytesAt s 0x1FFC 2, s.z80.iff1, s.bus.mbZ80.intLevel))
    (turnZ80 ((startZ80 [0xED, 0xB0] [] fun z => { z with iff1 := true, iff2 := true, im := .im1, sp := 0x1FFE }).mapBus fun b =>
      { b with mbZ80 := { b.mbZ80 with intLevel := 1 } })) = some (0x0038#16, [0x00, 0x01], false, 0) := by decide +kernel

/-- 95 ZC21: no interrupt is taken at the boundary after EI; 95 ZC22: acceptance in mode 0 is refused. -/
theorem test_z_interrupt_deferred : [true, false].map (fun c => nextOf (fun s => (s.z80.pc, s.refusedMarks))
    (turnZ80 ((startZ80 [0x00] [] fun z => { z with iff1 := true, iff2 := true, cooldown := c }).mapBus fun b =>
      { b with mbZ80 := { b.mbZ80 with intLevel := 1 } }))) =
    [some (0x0101#16, []), some (0x0100#16, [(.z80, .interruptMode)])] := by decide +kernel

/-- M68K's transaction, served. -/
def served {α : Type} (op : MbOp) (a : Addr24) (sz : Size) (v : Long) (f : Bus → Bus) (g : State → α) : Option α :=
  nextOf g (service68k (State.reset.mapBus fun b =>
    f { b with mb68k := { op := op, value := v, addr := a, len := sz, intLevel := 0, rmw := false } }))

/-- 95 BU1 to BU3: whatever the other bits read, bit 0 of a byte, and bit 8 of a word, is the negated grant. -/
theorem test_bus_ack (v : Long) (ack : Bool) : (withBit v (controlBit .b) (!ack)).getLsbD 0 = !ack ∧
    (withBit v (controlBit .w) (!ack)).getLsbD 8 = !ack := by
  cases ack <;> simp [withBit, controlBit]

/-- 95 BU4 to BU7: what a write of the bus-request register carries. -/
theorem test_bus_request : [(0xA11100#24, Size.w, 0x0100#32), (0xA11100#24, .w, 0x0001#32), (0xA11100#24, .b, 1#32),
    (0xA11101#24, .b, 1#32)].map (fun x => served .memWrite x.1 x.2.1 x.2.2 id fun s => (s.bus.busReq, s.events.length)) =
    [some (true, 0), some (false, 0), some (true, 0), some (false, 1)] := by decide +kernel

/-- 95 BU8, BU11, BU13: a long access is unmapped, ZRAM is contended or too narrow. -/
theorem test_bus_faults : [(served .memRead 0xA11100 .l 0 id fun s => s.faultedMarks),
    (served .memWrite 0xA00000 .b 0 (fun b => { b with z80ResetHeld := false }) fun s => s.faultedMarks),
    (served .memWrite 0xA00000 .w 0 (fun b => { b with busAck := true }) fun s => s.faultedMarks)] =
    [some [(.m68k, .fault .unmapped)], some [(.m68k, .fault .zramContention)], some [(.m68k, .fault .zramWidth)]] := by
  decide +kernel

/-- 95 BU14: a byte written at the mirror 0xA02005 is byte 5 of ZRAM. -/
theorem test_bus_zram : (served .memWrite 0xA02005 .b 0x77 (fun b => { b with busAck := true }) fun s =>
    (s.peek 0x0005, s.peek 0x2005)) = some (some 0x77#8, some 0x77#8) := by decide +kernel

/-- 95 BU15, BU16: a word 0 asserts the Z80 reset, and 0x0100 releases it with the pulse kept. -/
theorem test_z80_reset : [0x0000#32, 0x0100#32].map (fun v => served .memWrite 0xA11200 .w v
    (fun b => { b with z80ResetHeld := v = 0x0100#32, z80ResetPulse := v = 0x0100#32 })
    fun s => (s.bus.z80ResetHeld, s.bus.z80ResetPulse)) = [some (true, true), some (false, true)] := by decide +kernel

/-- 95 BU9, BU17: the Z80 grants the bus and executes nothing, and does so while it is held in reset. -/
theorem test_bus_grant : [false, true].map (fun r => nextOf (fun s => (s.bus.busAck, s.z80.pc, s.z80.b))
    (turnZ80 ((startZ80 [0x04] [] id).mapBus fun b => { b with busReq := true, z80ResetHeld := r }))) =
    [some (true, 0x0100#16, 0#8), some (true, 0#16, 0#8)] := by decide +kernel

/-- Z80's transaction, served with a bank. -/
def servedZ80 {α : Type} (op : MbOp) (a : Word) (v : Long) (bank : BitVec 9) (mem : List (Nat × List Byte)) (g : State → α) : Option α :=
  nextOf g (serviceZ80 { (State.reset.mapBus fun b =>
    { b with bank := bank, mbZ80 := { op := op, value := v, addr := a, len := .b, intLevel := 0, rmw := false } }) with
      mem := fill [] 0 mem })

/-- 95 BU20: with bank 0 the window address 0x8004 reads ROM byte 4; 95 BU21: bank 0x140 looks at ZRAM and is a fault. -/
theorem test_bank_window : (servedZ80 .memRead 0x8004 0 0 [(4, [0x5A])] fun s => s.bus.mbZ80.value) = some 0x5A#32 ∧
    (servedZ80 .memRead 0x8000 0 0x140 [] fun s => s.faultedMarks) = some [(.z80, .fault .bankLoop)] := by decide +kernel

/-- 95 BU21: a write to the bank register shifts one bit in at the top. -/
theorem test_bank_shift : (servedZ80 .memWrite 0x6000 1 0x080 [] fun s => s.bus.bank) = some 0x140#9 := by decide +kernel

/-- 20 R158: the level of M68K's slot is 0 to 7. -/
theorem test_post_level : nextOf (fun s => (s.bus.mb68k.intLevel, s.faultedMarks)) (postInt68k 8 State.reset) =
    some (0, [(.owner, .fault .badIntLevel)]) := by decide +kernel

/-- 20 R143, D58: a store into the two words after its instruction is refused in ROM and in a device row too; the next byte is free. -/
theorem test_self_modify : [0x1002#32, 0x1005#32, 0x1006#32].map (fun a => after68k [0x1080] [] (fun m => m.setA 0 a)
    fun s => s.refusedMarks) = [some [(.m68k, .selfModifyPrefetch)], some [(.m68k, .selfModifyPrefetch)], some []] := by decide +kernel

/-- 60 R711: NBCD is refused after its operation word, before an extension word is fetched, so also where that word is unmapped. -/
theorem test_nbcd_before_extension : after68k [0x4839] [] id (fun s => s.refusedMarks) = some [(.m68k, .unimplementedBcd)] ∧
    (fetchInstr68k (start68k [0x4839] [] id).start68k matches .ok (.nbcd _) { done := [_], .. }) = true := by decide +kernel

/-- 60 R750, R752 with other addresses: the same rules there, and what their rows hold at the old ones. -/
theorem test_other_addresses :
    nextOf (fun s => (s.bus.busReq, s.events.length)) (service68k { State.reset.mapBus (fun b =>
      { b with mb68k := { op := .memWrite, value := 0x0100, addr := 0xB00000, len := .w, intLevel := 0, rmw := false } }) with
      launch := { Launch.default with busReqAddr := 0xB00000 } }) = some (true, 0) ∧
    place68k { Launch.default with busReqAddr := 0xB00000 } 0xA11100 = none := by decide +kernel

/-- A map with other rows, sizes and marks: ROM from its byte 0x100, WRAM of 256 bytes in OWNER's hands, ZRAM of 16 KiB and a device
that M68K reaches itself; ZRAM in OWNER's hands, and a device, the window and the ports that Z80 reaches itself. -/
def otherMap : PlatformMap :=
  { m68k := [{ first := 0x200000, last := 0x2FFFFF, holds := .rom, own := true, start := 0x100 },
      { first := 0xA00000, last := 0xA0FFFF, holds := .zram, own := true }, { first := 0xC00000, last := 0xC0001F, holds := .device, own := true },
      { first := 0xF00000, last := 0xFFFFFF, holds := .wram, own := false }]
    z80 := [{ first := 0x0000, last := 0x1FFF, holds := .zram, own := false }, { first := 0x4000, last := 0x5FFF, holds := .device, own := true },
      { first := 0x6000, last := 0x60FF, holds := .bank, own := true }, { first := 0x8000, last := 0xFFFF, holds := .window, own := true }]
    wramLast := 0xFF, zramLast := 0x3FFF, ownPorts := true }

/-- The default launch with that map. -/
def otherLaunch : Launch := { Launch.default with map := otherMap }

/-- 20 R133 with another map: where its rows, sizes and marks put an access; the bank register is OWNER's in every map (10 R81). -/
theorem test_other_map :
    [route68k otherLaunch 0xF00000 .w, route68k otherLaunch 0x200002 .w, route68k otherLaunch 0xA04001 .b, route68k otherLaunch 0 .w] =
      [.owner, .here [.rom 0x102, .rom 0x103], .here [.zram 1], .nowhere] ∧
    place68k otherLaunch 0xF00102 = some (.wram 2) ∧
    ([0x0000#16, 0x4000#16, 0x6000#16, 0x8000#16].map otherLaunch.localZ80) = [false, true, false, true] := by decide +kernel

/-- 20 R130, R137: a Z80 that reaches the bank window itself stores into WRAM in one step, and nothing waits. -/
theorem test_own_window : nextOf (fun s => (s.mem.read (wramKey 0x12), s.waitZ80.isNone, s.bus.mbZ80.op))
    (exec (.zLdHlImm 0x5A) { (State.reset.mapBus fun b => { b with bank := 0x1E0 }).mapZ80 (fun z => z.setHl 0x8012) with launch := otherLaunch }) =
    some (0x5A#8, true, .none) := by decide +kernel

/-- 20 R136: M68K's own access to ZRAM has the faults of a served one. -/
theorem test_own_zram : [(true, Size.b), (false, .b), (true, .w)].map (fun x =>
    match exec (.clr x.2 (.ind 0)) { (State.reset.mapBus fun b => { b with z80ResetHeld := x.1 }).mapM68k (fun m => m.setA 0 0xA00000#32) with
      launch := otherLaunch } with
    | .fault f => some f
    | _ => none) = [none, some .zramContention, some .zramWidth] := by decide +kernel

/-- 20 R140, R157: past the schedule, the turn that is owed goes round the agents that take steps. -/
theorem test_fair_turns :
    (List.range 5).map (fun k => { State.reset with turns := k, fairDue := true }.nextTurn.1) =
      [.m68k, .z80, .service68k, .serviceZ80, .m68k] ∧
    { State.reset with turns := 1, fairDue := true, refusedMarks := [(.z80, .prefixChain)] }.nextTurn.1 = .service68k := by decide +kernel

/-! ### Witnesses: for each statement with hypotheses, a concrete state and operands that meet them, clause by clause -/

/-- The option holds something that passes the test. -/
def has {α : Type} (o : Option α) (p : α → Bool) : Bool :=
  match o with
  | some x => p x
  | none => false

/-- The outcome is a next state. -/
def isNext (x : Host.Outcome State Fault Refusal) : Bool := (nextOf (fun _ => ()) x).isSome

/-- M68K at 0x1000 in supervisor mode; D0 to D7 hold corner values, A0 the first byte of WRAM, A1 the byte after its last long,
A2 to A6 and both stack pointers places in WRAM. -/
def wit : State :=
  State.reset.mapM68k fun m =>
    { m with
      d := #v[0x0000FFFF#32, 1#32, 0x80000000#32, 0x7FFFFFFF#32, 0xFFFFFFFF#32, 0x00010000#32, 5#32, 0#32]
      a := #v[0x00E00000#32, 0x00FFFFFC#32, 0x00FF0100#32, 0x00FF0200#32, 0x00FF0300#32, 0x00FF0400#32, 0x00FF0500#32, 0x00FF2000#32]
      osp := 0x00FF3000#32
      pc := 0x1000#32 }

/-- `wit` in user mode. -/
def witUser : State := wit.mapM68k fun m => { m with sr := { m.sr with s := false } }

/-- The operand sizes. -/
def sizes : List Size := [.b, .w, .l]

/-- Forms of memory-alterable operands, at both ends of WRAM too. -/
def memForms : List Ea :=
  [.ind 0, .ind 1, .post 0, .post 7, .pre 2, .pre 7, .disp 3 0xFF80, .index 4 0x1801, .absW 0x8000, .absL 0x00E00000, .absL 0x00FFFFFC]

/-- Forms of data-alterable operands. -/
def dataForms : List Ea := .dn 0 :: .dn 7 :: memForms

/-- Forms of source operands. -/
def sourceForms : List Ea := [.an 0, .an 7, .pcDisp 0x7FFE, .pcIndex 0x7802, .imm 0, .imm 0xFFFF] ++ dataForms

/-- Forms of control operands. -/
def controlForms : List Ea :=
  [.ind 0, .disp 3 0xFF80, .index 4 0x1801, .absW 0x8000, .absL 0x00FFFFFC, .pcDisp 0x7FFE, .pcIndex 0x7802]

/-- `s` meets the hypotheses of `SourceCompletes`. -/
def meetsSource (s : State) (sz : Size) (ea : Ea) (k : Nat) : Bool :=
  s.wait68k.isNone && has ((s.past k).locate sz ea) fun x => (x.2.readAt sz x.1).isSome

/-- `s` meets the hypotheses of `UpdateCompletes`, where the result is `g` of the value. -/
def meetsUpdate (s : State) (sz : Size) (ea : Ea) (k : Nat) (g : BitVec sz.bits → M68k → BitVec sz.bits) : Bool :=
  s.wait68k.isNone && has ((s.past k).locate sz ea) fun x => has (x.2.readAt sz x.1) fun y =>
    (y.2.writeAt sz x.1 (g y.1 y.2.m68k)).isSome

/-- `s` meets the hypotheses of `WriteCompletes`. -/
def meetsWrite (s : State) (sz : Size) (ea : Ea) (value : M68k → BitVec sz.bits) : Bool :=
  s.wait68k.isNone && has ((s.past 1).locate sz ea) fun x => (x.2.writeAt sz x.1 (value x.2.m68k)).isSome

/-- `s` meets the hypotheses of `AddressCompletes`; `p` is asked of the address and the state then. -/
def meetsAddress (s : State) (ea : Ea) (p : Long → State → Bool) : Bool :=
  s.wait68k.isNone && has ((s.past 1).locate .l ea) fun x => match x.1 with | .mem a => p a x.2 | _ => false

/-- Two operands resolved and read in turn, and the second one written with `g` of both. -/
def meetsPair (s : State) (sz : Size) (src dst : Ea) (g : BitVec sz.bits → BitVec sz.bits → BitVec sz.bits) : Bool :=
  s.wait68k.isNone && has ((s.past 1).locate sz src) fun x => has (x.2.readAt sz x.1) fun y =>
    has (y.2.locate sz dst) fun u => has (u.2.readAt sz u.1) fun v => (v.2.writeAt sz u.1 (g y.1 v.1)).isSome

theorem test_witness_MoveCompletes :
    (sizes.all fun sz => sourceForms.all fun src => dataForms.all fun dst =>
      wit.wait68k.isNone && has ((wit.past 1).locate sz src) fun x => has (x.2.locate sz dst) fun u =>
        has (u.2.readAt sz x.1) fun y => (y.2.writeAt sz u.1 y.1).isSome) = true := by decide +kernel

theorem test_witness_AddressRegisterWritesComplete :
    (([Size.w, .l].all fun sz => sourceForms.all fun ea => meetsSource wit sz ea 1) &&
      controlForms.all fun ea => meetsAddress wit ea fun _ _ => true) = true := by decide +kernel

theorem test_witness_RegisterAndLocationArithmeticCompletes :
    (sizes.all fun sz => (sourceForms.all fun ea => meetsSource wit sz ea 1) && dataForms.all fun ea =>
      meetsUpdate wit sz ea 1 (fun d m => d + (m.dreg 1).setWidth _) &&
      meetsUpdate wit sz ea 1 (fun d m => d - (m.dreg 1).setWidth _) &&
      meetsUpdate wit sz ea 1 (fun d m => d &&& (m.dreg 1).setWidth _) &&
      meetsUpdate wit sz ea 1 (fun d m => d ||| (m.dreg 1).setWidth _) &&
      meetsUpdate wit sz ea 1 (fun d m => d ^^^ (m.dreg 1).setWidth _)) = true := by decide +kernel

theorem test_witness_ImmediateToLocationCompletes :
    (sizes.all fun sz => [0x0#32, 0xFFFF#32].all fun imm => dataForms.all fun ea =>
      meetsUpdate wit sz ea (1 + immWords sz) (fun d _ => d + imm.setWidth _) &&
      meetsUpdate wit sz ea (1 + immWords sz) (fun d _ => d - imm.setWidth _) &&
      meetsUpdate wit sz ea (1 + immWords sz) (fun d _ => d &&& imm.setWidth _) &&
      meetsUpdate wit sz ea (1 + immWords sz) (fun d _ => d ||| imm.setWidth _) &&
      meetsUpdate wit sz ea (1 + immWords sz) (fun d _ => d ^^^ imm.setWidth _)) = true := by decide +kernel

theorem test_witness_QuickCompletes :
    (wit.wait68k.isNone && sizes.all fun sz => [0#3, 1#3, 7#3].all fun q => dataForms.all fun ea =>
      decide (ea.kind ≠ .an) && meetsUpdate wit sz ea 1 (fun d _ => d + BitVec.ofNat _ (quickValue q)) &&
      meetsUpdate wit sz ea 1 (fun d _ => d - BitVec.ofNat _ (quickValue q))) = true := by decide +kernel

theorem test_witness_ExtendedArithmeticCompletes :
    (wit.wait68k.isNone && sizes.all fun sz => [(2#3, 3#3), (4#3, 4#3), (7#3, 2#3)].all fun r =>
      meetsPair wit sz (.pre r.1) (.pre r.2) (fun s d => d + s + bitOf _ wit.m68k.ccr.x) &&
      meetsPair wit sz (.pre r.1) (.pre r.2) (fun s d => d - s - bitOf _ wit.m68k.ccr.x)) = true := by decide +kernel

theorem test_witness_NegationAndWriteOnlyComplete :
    ((sizes.all fun sz => dataForms.all fun ea =>
      meetsUpdate wit sz ea 1 (fun d _ => 0 - d) && meetsUpdate wit sz ea 1 (fun d m => 0 - d - bitOf _ m.ccr.x) &&
      meetsUpdate wit sz ea 1 (fun d _ => ~~~d) && meetsWrite wit sz ea (fun _ => 0)) &&
      dataForms.all fun ea => meetsWrite wit .b ea (fun m => if m.ccr.holds .eq then 0xFF#8 else 0x00#8) &&
        meetsWrite wit .w ea M68k.getSr) = true := by decide +kernel

theorem test_witness_ComparesComplete :
    (sizes.all fun sz => (sourceForms.all fun ea => meetsSource wit sz ea 1) &&
      (dataForms.all fun ea => meetsSource wit sz ea (1 + immWords sz)) &&
      [(0#3, 2#3), (4#3, 4#3), (7#3, 2#3)].all fun r =>
        meetsPair wit sz (.post r.1) (.post r.2) fun _ d => d) = true := by decide +kernel

theorem test_witness_RegisterMovesComplete : wit.ready68k := rfl

theorem test_witness_FramesComplete :
    ((controlForms.all fun ea => meetsAddress wit ea fun a t => (t.pushAt .l a).isSome) &&
      [0#3, 6#3].all fun n => decide (n ≠ 7#3) && ((wit.past 2).pushAt .l (wit.m68k.areg n)).isSome &&
        (((wit.past 1).mapM68k fun m => m.setSp (m.areg n)).loadAt .l (wit.m68k.areg n)).isSome) = true := by decide +kernel

theorem test_witness_MovemAndMovepComplete_movem :
    ([Size.w, .l].all fun sz => [0x0000#16, 0x0001#16, 0x8000#16, 0xFFFF#16].all fun mask =>
      ((wit.past 2).movemDownAt sz 3 (wit.m68k.areg 3) (maskBits mask) (wit.m68k.areg 3)).isSome &&
      ((wit.past 2).movemLoadAt sz (maskBits mask) (wit.m68k.areg 0)).isSome &&
      ([Ea.ind 0, .disp 3 0xFF80, .absW 0x8000].all fun ea => decide (ea.kind ≠ .pre) && decide (ea.kind ≠ .post) &&
        has ((wit.past 2).locate sz ea) fun x => match x.1 with
          | .mem a => (x.2.movemUpAt sz (maskBits mask) a).isSome && (x.2.movemLoadAt sz (maskBits mask) a).isSome
          | _ => false)) = true := by decide +kernel

theorem test_witness_MovemAndMovepComplete_movep :
    ([Size.w, .l].all fun sz => [0x0000#16, 0x7FFF#16].all fun d => decide (sz ≠ .b) &&
      ((wit.past 2).movepLoadAt sz.bytes (wit.m68k.areg 0 + d.signExtend 32)).isSome &&
      ((wit.past 2).movepStoreAt (bigEndian sz (wit.m68k.dreg 2)) (wit.m68k.areg 0 + d.signExtend 32)).isSome) = true := by
  decide +kernel

theorem test_witness_StatusRegisterInstructionsComplete :
    (wit.wait68k.isNone && wit.m68k.super && sourceForms.all fun ea => meetsSource wit .w ea 1) = true := by decide +kernel

theorem test_witness_ReturnsComplete :
    (wit.m68k.super && ((wit.past 1).popAt .l).isSome && has ((wit.past 1).popAt .w) fun x =>
      (x.2.popAt .l).isSome && ((x.2.withCcr (Ccr.ofBits (x.1.setWidth 5))).popAt .l).isSome) = true := by decide +kernel

/-- `s` meets the hypotheses on `divu` with quotient `q` and remainder `r`. -/
def meetsDivu (s : State) (ea : Ea) (n : Reg) (q r : Nat) : Bool :=
  has ((s.past 1).locate .w ea) fun x => has (x.2.readAt .w x.1) fun y =>
    decide (y.1 ≠ 0) && decide ((y.2.m68k.dreg n).toNat = q * y.1.toNat + r) && decide (r < y.1.toNat)

/-- `s` meets the hypotheses on `divs` with quotient `q` and remainder `r`. -/
def meetsDivs (s : State) (ea : Ea) (n : Reg) (q r : Int) : Bool :=
  has ((s.past 1).locate .w ea) fun x => has (x.2.readAt .w x.1) fun y =>
    decide (y.1 ≠ 0) && decide ((y.2.m68k.dreg n).toInt = q * y.1.toInt + r) && decide (r.natAbs < y.1.toInt.natAbs) &&
    decide (r ≠ 0 → (r < 0 ↔ (y.2.m68k.dreg n).toInt < 0))

/-- The clauses of DIVU meet at the quotients 65535 and 65536, those of DIVS at -32768, -32769, 32767 and 32768. -/
theorem test_witness_MultipliesAndDividesComplete :
    ((sourceForms.all fun ea => meetsSource wit .w ea 1) &&
      meetsDivu wit (.imm 1) 0 65535 0 && meetsDivu wit (.imm 1) 5 65536 0 && meetsDivu wit (.imm 2) 6 2 1 &&
      meetsDivu wit (.dn 0) 2 32768 32768 && meetsDivs wit (.imm 0xFFFE) 0 (-32767) 1 && meetsDivs wit (.imm 0xFFFE) 5 (-32768) 0 &&
      meetsDivs (wit.mapM68k fun m => m.setD 5 0xFFFF0000#32) (.imm 2) 5 (-32768) 0 &&
      meetsDivs (wit.mapM68k fun m => m.setD 5 0xFFFEFFFD#32) (.imm 2) 5 (-32769) (-1) &&
      meetsDivs wit (.imm 2) 0 32767 1 && meetsDivs wit (.imm 2) 5 32768 0 && meetsDivs wit (.imm 0xFFFF) 2 2147483648 0) = true := by
  decide +kernel

/-- The clauses of CHK meet at a value of -1, 0, the bound, and one more. -/
theorem test_witness_DivideByZeroAndChk :
    (([Ea.imm 0, .dn 7, .dn 5].all fun ea => has ((wit.past 1).locate .w ea) fun x => has (x.2.readAt .w x.1) fun y =>
        decide (y.1 = 0) && (y.2.enterAt 5 y.2.m68k.pc).isSome) &&
      ([(Ea.imm 5, 0#3), (.imm 5, 4#3), (.imm 0, 1#3)].all fun c => has ((wit.past 1).locate .w c.1) fun x =>
        has (x.2.readAt .w x.1) fun y => (decide (((y.2.m68k.dreg c.2).setWidth 16).toInt < 0) ||
          decide (y.1.toInt < ((y.2.m68k.dreg c.2).setWidth 16).toInt)) && (y.2.enterAt 6 y.2.m68k.pc).isSome) &&
      ([(Ea.imm 5, 6#3), (.imm 5, 7#3), (.imm 0, 7#3)].all fun c => has ((wit.past 1).locate .w c.1) fun x =>
        has (x.2.readAt .w x.1) fun y => decide (0 ≤ ((y.2.m68k.dreg c.2).setWidth 16).toInt) &&
          decide (((y.2.m68k.dreg c.2).setWidth 16).toInt ≤ y.1.toInt))) = true := by decide +kernel

/-- Widths 1 and 32 for the laws of the steps. -/
theorem test_witness_ShiftsComplete :
    (wit.wait68k.isNone && memForms.all fun ea =>
      meetsUpdate wit .w ea 1 (fun d m => (shiftResult stepAsl true false 1 d m.ccr).1) &&
      meetsUpdate wit .w ea 1 (fun d m => (shiftResult stepRoxr false true 1 d m.ccr).1)) = true ∧ 0 < 1 ∧ 0 < 32 := by decide +kernel

theorem test_witness_BitOperationsAndTasComplete :
    ((sourceForms.all fun ea => meetsSource wit (bitOpSize ea) ea 2 && meetsSource wit (bitOpSize ea) ea 1) &&
      (dataForms.all fun ea =>
        meetsUpdate wit (bitOpSize ea) ea 2 (fun d _ => d ^^^ BitVec.twoPow _ 7) &&
        meetsUpdate wit (bitOpSize ea) ea 2 (fun d _ => d &&& ~~~BitVec.twoPow _ 7) &&
        meetsUpdate wit (bitOpSize ea) ea 2 (fun d _ => d ||| BitVec.twoPow _ 7) &&
        meetsUpdate wit (bitOpSize ea) ea 1 fun d _ => d ^^^ BitVec.twoPow _ ((wit.m68k.dreg 4).toNat % (bitOpSize ea).bits)) &&
      memForms.all fun ea => has ((wit.past 1).locate .b ea) fun x => match x.1 with
        | .mem a => has (x.2.loadAt .b a) fun y => (y.2.storeAt .b a (y.1 ||| 0x80#8)).isSome
        | _ => false) = true := by decide +kernel

theorem test_witness_JumpsAndCallsComplete :
    (!wit.m68k.ccr.v && (controlForms.all fun ea => meetsAddress wit ea fun _ t => (t.pushAt .l t.m68k.pc).isSome) &&
      [Disp.short 2, .short 0xFE, .word 0, .word 0x8000].all fun disp =>
        ((wit.past (1 + dispWords disp)).pushAt .l (wit.m68k.pc + 2#32 + BitVec.ofNat 32 (2 * dispWords disp))).isSome) = true := by
  decide +kernel

/-- `wit` with an illegal-opcode policy and V set. -/
def witPolicy (p : IllegalPolicy) : State :=
  { wit.mapM68k (fun m => { m with sr := { m.sr with v := true } }) with launch := { wit.launch with policy := p } }

theorem test_witness_TrapsAndPolicy :
    (([0#4, 15#4].all fun v => ((wit.past 1).enterAt (32 + v.toNat) (wit.m68k.pc + 2#32)).isSome) &&
      (witPolicy .trap).m68k.ccr.v && (((witPolicy .trap).past 1).enterAt 7 (wit.m68k.pc + 2#32)).isSome &&
      decide ((witPolicy .trap).launch.policy = .trap) && decide ((witPolicy .ignore).launch.policy = .ignore) &&
      decide ((witPolicy .crash).launch.policy = .crash) &&
      [4, 10, 11].all fun v => (((witPolicy .trap).past 1).enterAt v wit.m68k.pc).isSome) = true := by decide +kernel

theorem test_witness_PrivilegeViolation :
    (witUser.wait68k.isNone && !witUser.m68k.super && ((witUser.past 1).enterAt 8 witUser.m68k.pc).isSome) = true := by
  decide +kernel

/-- Z80 with HL at the last byte of ZRAM, DE at the first of its mirror, IX and IY so that the displacements 127 and -128 reach
the ends of the mirrors, and a stack under the end. -/
def zwit : State :=
  State.reset.mapZ80 fun z =>
    { z with a := 0x80, b := 1, c := 0, d := 0x20, e := 0, h := 0x1F, l := 0xFF, ix := 0x3F80, iy := 0x0080, sp := 0x3FFE,
             pc := 0x0100, iff2 := true }

/-- `zwit` with CF, ZF, PF and SF set. -/
def zwitFlags : State := zwit.mapZ80 fun z => { z with f := FReg.ofByte 0xFF#8 }

/-- `s` meets the hypotheses of `ZUpdateCompletes` and `ZLoadCompletes` at an address, and those of `ZStoreCompletes`. -/
def meetsAt (s : State) (i : Instr) (addr : Z80 → Word) (value : Byte → Z80 → Byte) (f : Byte → Z80 → Z80) : Bool :=
  s.waitZ80.isNone && has (s.peek (addr s.z80)) fun v =>
    (((s.pastZ80 i).mapZ80 (f v)).poke (addr s.z80) (value v s.z80)).isSome

/-- The indexed addresses at the ends of the displacement. -/
def indexed : List (Idx × Byte) := [(.ix, 0x7F), (.ix, 0x80), (.iy, 0x7F), (.iy, 0x80)]

theorem test_witness_Z80ByteLoadsAndStoresComplete :
    (meetsAt zwit (.zLdRHl .b) Z80.hl (fun v _ => v) (fun _ z => z) &&
      meetsAt zwit (.zLdAInd .de) (fun z => z.bcDe .de) (fun v _ => v) (fun _ z => z) &&
      ([0x0000#16, 0x3FFF#16].all fun nn => meetsAt zwit (.zLdNnA nn) (fun _ => nn) (fun _ z => z.a) fun _ z => z) &&
      indexed.all fun x => meetsAt zwit (.zLdXdR x.1 .b x.2) (atXd x.1 x.2) (fun _ z => z.b) fun _ z => keepD x.2 z) = true := by
  decide +kernel

theorem test_witness_Z80ExchangesAndSpecialLoadsComplete :
    (zwit.waitZ80.isNone && (zwit.peek16 zwit.z80.sp).isSome && [Instr.zExSpHl, .zExSpXx .ix].all fun i =>
      has ((zwit.pastZ80 i).poke (zwit.z80.sp + 1#16) 0x1F#8) fun t => (t.poke zwit.z80.sp 0xFF#8).isSome) = true := by
  decide +kernel

theorem test_witness_Z80PairLoadsAndStackComplete :
    (([0x0000#16, 0x3FFE#16].all fun nn => (zwit.peek16 nn).isSome &&
        ((zwit.pastZ80 (.zLdNnHl nn)).poke16 nn zwit.z80.hl).isSome) &&
      ([ZPairQ.bc, .de, .hl, .af].all fun q => ((zwit.pastZ80 (.zPush q)).pushZ (zwit.z80.pairQ q)).isSome &&
        ((zwit.pastZ80 (.zPop q)).popZ).isSome) &&
      [Idx.ix, .iy].all fun x => ((zwit.pastZ80 (.zPushXx x)).pushZ (zwit.z80.idx x)).isSome &&
        ((zwit.pastZ80 (.zPopXx x)).popZ).isSome) = true := by decide +kernel

theorem test_witness_Z80BlocksComplete :
    (zwit.waitZ80.isNone && has (zwit.peek zwit.z80.hl) fun v =>
      [Instr.zLdi, .zLdd, .zLdir, .zLddr].all fun i => ((zwit.pastZ80 i).poke zwit.z80.de v).isSome) = true := by decide +kernel

theorem test_witness_Z80ByteArithmeticCompletes :
    ((zwit.peek zwit.z80.hl).isSome && (indexed.all fun x => (zwit.peek (atXd x.1 x.2 zwit.z80)).isSome) &&
      meetsAt zwit (.zIncR .hl) Z80.hl (fun v _ => v + 1#8) (fun v z => z.flagged (szFlags (v + 1#8) false false false z.flags.c)) &&
      indexed.all fun x => meetsAt zwit (.zDecXd x.1 x.2) (atXd x.1 x.2) (fun v _ => v - 1#8)
        fun v z => (keepD x.2 z).flagged (szFlags (v - 1#8) true false true z.flags.c)) = true := by decide +kernel

theorem test_witness_Z80AccumulatorComplete :
    (meetsAt zwit .zRld Z80.hl (fun v z => v.extractLsb' 0 4 ++ z.a.extractLsb' 0 4) (fun _ z => z) &&
      meetsAt zwit .zRrd Z80.hl (fun v z => z.a.extractLsb' 0 4 ++ v.extractLsb' 4 4) fun _ z => z) = true := by decide +kernel

theorem test_witness_Z80PairArithmeticCompletes : zwit.readyZ80 := rfl

theorem test_witness_Z80RotatesComplete :
    (meetsAt zwit (.zRlc .hl) Z80.hl (fun v _ => v.rotateLeft 1) (fun _ z => z) &&
      indexed.all fun x => meetsAt zwit (.zRrXd x.1 x.2) (atXd x.1 x.2) (fun v z => BitVec.ofBool z.flags.c ++ v.extractLsb' 1 7)
        fun _ z => keepD x.2 z) = true := by decide +kernel

theorem test_witness_Z80BitInstructionsComplete :
    (([0#3, 7#3].all fun b => meetsAt zwit (.zSet b .hl) Z80.hl (fun v _ => v ||| BitVec.twoPow 8 b.toNat) (fun _ z => z) &&
        indexed.all fun x => meetsAt zwit (.zResXd x.1 x.2 b) (atXd x.1 x.2) (fun v _ => v &&& ~~~BitVec.twoPow 8 b.toNat)
          fun _ z => keepD x.2 z) &&
      [ZOp8.hl, .reg .a].all fun o => (zwit.peekOp8 o).isSome) = true := by decide +kernel

theorem test_witness_Z80JumpsComplete : zwit.readyZ80 ∧ zwitFlags.readyZ80 := ⟨rfl, rfl⟩

theorem test_witness_Z80CallsComplete :
    ([Instr.zCall 0, .zCallCc .z 0xFFFF, .zRst 7].all (fun i =>
        ((zwitFlags.pastZ80 i).pushZ (zwitFlags.pastZ80 i).z80.pc).isSome) &&
      zwitFlags.z80.flags.holds .z && !zwit.z80.flags.holds .z &&
      [Instr.zRet, .zRetCc .z, .zRetn, .zReti].all fun i => ((zwitFlags.pastZ80 i).popZ).isSome) = true := by decide +kernel

/-- `zwit` waiting in an instruction, with its answers so far. -/
def zheld (i : Instr) (log : List Long) : State := { zwit with waitZ80 := some { act := .exec i, snap := zwit.z80, log := log } }

/-- `zwit` with the ports in Z80's own hands. -/
def zwitPorts : State := { zwit with launch := { zwit.launch with map := { zwit.launch.map with ownPorts := true } } }

/-- The issue of the inputs, of the outputs with HL in ZRAM, and of the outputs after a wait for the byte at HL, with its completion;
and the ports that Z80 reaches itself. -/
theorem test_witness_Z80PortsComplete :
    ((zheld (.zInAN 0) [0xFF#32]).heldZ80 (.zInAN 0) zwit.z80 0xFF#32) ∧
    (zwit.readyZ80 ∧ zwit.bus.mbZ80.op = .none ∧ zwit.launch.map.ownPorts = false) ∧
    ((zheld .zInir [1#32]).heldZ80 .zInir zwit.z80 1#32 ∧
      ((((zheld .zInir [1#32]).backZ80 zwit.z80).pastZ80 .zInir).poke zwit.z80.hl 1#8).isSome = true) ∧
    (zheld .zOtir [0x55#32, 0#32]).waitZ80 = some { act := .exec .zOtir, snap := zwit.z80, log := [(0x55#8).setWidth 32, 0#32] } ∧
    (zwit.peek zwit.z80.hl).isSome = true ∧
    ((zheld .zOuti [0x1FF#32]).heldZ80 .zOuti zwit.z80 0x1FF#32 ∧ (zheld .zOuti [0x1FF#32]).bus.mbZ80.op = .none) ∧
    (zwitPorts.readyZ80 ∧ zwitPorts.launch.map.ownPorts = true ∧ (zwitPorts.peek zwitPorts.z80.hl).isSome = true ∧
      ∀ w : Byte, ((zwitPorts.pastZ80 .zInir).drawn.poke zwitPorts.z80.hl w).isSome = true) := by
  refine ⟨rfl, ⟨rfl, rfl, rfl⟩, ⟨rfl, by decide +kernel⟩, by decide +kernel, by decide +kernel, ⟨rfl, rfl⟩, rfl, rfl, by decide +kernel,
    fun w => ?_⟩
  rfl

theorem test_witness_Z80ControlCompletes : zwit.readyZ80 := rfl

/-- A point of an instruction: nothing to replay. -/
def point (s : State) : Ctx := { st := s, todo := [], done := [], irq := false }

/-- Each bit of the reserved field alone; a long store whose last byte is the first of the four, and a byte store on the last, in WRAM,
in ROM and in a device row; the levels 7 and 8; operands with no address. -/
theorem test_witness_RefusedInstructions :
    (0xDD#8 ∈ [0xDD#8, 0xFD#8, 0xED#8] ∧ 0xED#8 ∈ [0xDD#8, 0xFD#8, 0xED#8] ∧ 0xEE#8 ∉ [0xDD#8, 0xFD#8, 0xED#8]) ∧
    (wit.wait68k.isNone && [0x0100#16, 0x0200#16, 0x0400#16].all fun x => decide (x.extractLsb' 8 3 ≠ 0#3)) = true ∧
    ([0x00FF8000#32, 0x00001000#32, 0x00500000#32].all fun pc =>
      let c := point (wit.mapM68k fun m => { m with pc := pc })
      c.todo.isEmpty && !c.irq && [(pc - 2#32, Size.l, 2, 0), (pc + 2#32, Size.w, 1, 3), (pc + 3#32, Size.b, 0, 3)].all fun x =>
        !oddAccess (x.1.setWidth 24) x.2.1 && decide (route68k c.st.launch (x.1.setWidth 24) x.2.1 ≠ .nowhere) &&
        decide (x.2.2.1 < x.2.1.bytes) && decide (x.1.setWidth 24 + BitVec.ofNat 24 x.2.2.1 = pc.setWidth 24 + BitVec.ofNat 24 x.2.2.2)) =
      true ∧
    (7 < 8 ∧ 7 ≤ 7) ∧
    ([Ea.dn 0, .an 7, .imm 0].all fun ea => has (wit.m68k.resolve .l ea) fun x =>
      match x.1 with | .mem _ => false | _ => true) = true := by decide +kernel

/-- A state with M68K words at its PC meets the hypotheses on a step of M68K. -/
def meetsStep68k (s : State) (ws : List Word) : Bool :=
  let t := s.nextTurn.2
  decide (s.nextTurn.1 = .m68k) && (t.dead .m68k).isNone && t.wait68k.isNone && decide (t.m68k.run = .running) &&
    decide (t.bus.mb68k.intLevel ≤ t.m68k.mask.toNat) && !t.m68k.trace && !t.m68k.pc.getLsbD 0 &&
    decide (ws.length = t.fetched68k (wordAt ws 0)) && (List.range ws.length).all fun k =>
      decide (t.loadAt .w (t.m68k.pc + BitVec.ofNat 32 (2 * k)) = some (wordAt ws k, t))

/-- A state with Z80 bytes at its PC meets the hypotheses on a step of Z80. -/
def meetsStepZ80 (s : State) (bs : List Byte) : Bool :=
  let t := s.nextTurn.2
  decide (s.nextTurn.1 = .z80) && (t.dead .z80).isNone && t.waitZ80.isNone && !t.bus.z80ResetHeld && !t.bus.z80ResetPulse &&
    !t.bus.busReq && !t.z80.iff1 && !t.z80.halted && decide (bs.length = bytesZ80 bs) &&
    (List.range bs.length).all fun k => (decide (k = 0) || decide (k < bytesZ80 (bs.take k))) &&
      decide (t.peek (t.z80.pc + BitVec.ofNat 16 k) = some (byteAt bs k))

/-- One word and five; a privileged first word in user mode; one byte and four; a mask that bars the pending level. -/
theorem test_witness_StepRunsDecodedInstruction :
    (meetsStep68k (start68k [0x4E71] [] id) [0x4E71] &&
      meetsStep68k (start68k [0x23FC, 0x1234, 0x5678, 0x00FF, 0x8000] [] id) [0x23FC, 0x1234, 0x5678, 0x00FF, 0x8000] &&
      meetsStep68k (start68k [0x46FC, 0x2700] [] fun m => { m with sr := { m.sr with s := false } }) [0x46FC] &&
      meetsStep68k ((start68k [0x4E71] [] id).mapBus fun b => { b with mb68k := { b.mb68k with intLevel := 7 } }) [0x4E71] &&
      meetsStepZ80 (startZ80 [0x00] [] id) [0x00] &&
      meetsStepZ80 (startZ80 [0xDD, 0xCB, 0x80, 0x06] [] id) [0xDD, 0xCB, 0x80, 0x06]) = true := by decide +kernel

theorem test_witness_M68kDecodeEncode :
    (Instr.moveL (.imm 0xFFFFFFFF) (.absL 0)).is68k = true ∧ (Instr.moveL (.imm 0xFFFFFFFF) (.absL 0)).wf = true ∧
    (Instr.illegal 0x4AFC).is68k = true ∧ (Instr.illegal 0x4AFC).wf = true := by decide +kernel

theorem test_witness_Z80DecodeEncode :
    (Instr.zSetXd .iy 0x80 7).is68k = false ∧ (Instr.zSetXd .iy 0x80 7).wf = true ∧
    (Instr.zDdPrefix 0xDD).is68k = false ∧ (Instr.zDdPrefix 0xDD).wf = true := by decide +kernel

theorem test_witness_InvariantAtPowerOn : Memory.wf [(0, 1#8), (0xFFFFFF, 0xFF#8)] := by decide

/-- A state in which nobody waits has the invariant if its memory is canonical, its flip-flops agree and the level is legal. -/
theorem inv_of_idle (s : State) (hm : s.mem.wf) (hi : s.z80.iff1 = s.z80.iff2) (h1 : s.wait68k = none) (h2 : s.waitZ80 = none)
    (o1 : s.bus.mb68k.op = .none) (o2 : s.bus.mbZ80.op = .none) (hl : s.bus.mb68k.intLevel ≤ 7) : s.Inv where
  memory := hm
  iff := hi
  iffSnap := fun w h => by simp [h2] at h
  level := hl
  pending68k := fun h => absurd o1 h
  pendingZ80 := fun h => absurd o2 h
  act68k := fun w i h => by simp [h1] at h
  actZ80 := fun w i h => by simp [h2] at h

/-- A state of rest with a schedule. -/
def idle (turns : List Turn) : State := { State.reset with schedule := turns }

theorem idle_inv (turns : List Turn) : (idle turns).Inv :=
  inv_of_idle _ ⟨.nil, fun _ h => nomatch h⟩ rfl rfl rfl rfl rfl (Nat.zero_le 7)

theorem test_witness_StepKeepsInvariant :
    (∀ t, (idle [t]).Inv) ∧ ([Turn.m68k, .z80, .service68k, .serviceZ80, .postInt68k 0, .postInt68k 7, .postInt68k 8, .postIntZ80 1].all
      fun t => isNext (step (idle [t]))) = true :=
  ⟨fun t => idle_inv [t], by decide +kernel⟩

/-- A state whose M68K bears the mark, in a turn of another agent and in its own. -/
def second (t : Turn) : State := { idle [t] with faultedMarks := [(.m68k, .fault .protocolSecondAccess)] }

theorem test_witness_NoSecondTransaction :
    (∀ t, (second t).Inv) ∧
    nextOf (fun t => decide ((.m68k, .fault .protocolSecondAccess) ∈ t.faultedMarks)) (step (second .z80)) = some true ∧
    (match step (second .m68k) with | .fault .protocolSecondAccess => true | _ => false) = true :=
  ⟨fun _ => inv_of_idle _ ⟨.nil, fun _ h => nomatch h⟩ rfl rfl rfl rfl rfl (Nat.zero_le 7), by decide +kernel,
    by decide +kernel⟩

/-- The device word at 0xC00000 that M68K cannot read itself. -/
def device : Ea := .absL 0x00C00000

theorem test_witness_M68kRegisterFrame :
    ([Instr.addi .w 1 (.dn 0), .tst .w device].all fun i => i.is68k && isNext (exec i wit) && !i.writesD 1 && !i.writesA 7 &&
      !i.mayTrap && !i.writesSr) = true := by decide +kernel

theorem test_witness_M68kStatusFrame :
    ([Instr.moveB (.dn 0) (.ind 2), .tst .w device].all fun i => i.is68k && isNext (exec i wit) &&
      decide (Flag.x ∉ i.flags68k) && !i.mayTrap && !i.writesSr) = true := by decide +kernel

theorem test_witness_M68kMemoryFrame :
    ([Instr.moveB (.dn 0) (.ind 2), .movemStore .l 0xFFFF (.pre 3), .trap 0, .moveq 0 0].all fun i => i.is68k && isNext (exec i wit) &&
      (i.stores68k wit.m68k).all fun r => !coveredBy68k wit.launch (wramKey 0x8000) r) = true ∧ wit.mem.wf := by decide +kernel

theorem test_witness_Z80RegisterFrame :
    ([Instr.zLdRR .b .c, .zInAN 0].all fun i => !i.is68k && isNext (exec i zwit) && !i.writesZ .e && i.flagsZ80.isEmpty &&
      !i.writesIdx .ix && !i.writesSp && decide (i ∉ [Instr.zExAf, .zExx, .zLdIA, .zLdRfA, .zDi, .zEi, .zReti, .zRetn, .zIm0, .zIm1,
        .zIm2, .zHalt])) = true := by decide +kernel

theorem test_witness_Z80MemoryFrame :
    ([Instr.zLdHlImm 1, .zPush .bc, .zNop].all fun i => !i.is68k && isNext (exec i zwit) &&
      (i.storesZ80 zwit.z80).all fun a => decide (writtenKeyZ80 zwit a ≠ some (zramKey 0x800))) = true ∧ zwit.mem.wf := by decide +kernel

theorem test_witness_ProcessorsAreSeparate :
    (isNext (exec (.moveq 0 0) wit) && isNext (exec .zNop zwit) && isNext (exec (.illegal 0x4AFC) (witPolicy .crash))) = true ∧
    (idle []).Inv ∧ isNext (takeTurn .m68k (idle [])) = true ∧ isNext (takeTurn .z80 (idle [])) = true ∧
    ([Turn.service68k, .serviceZ80, .postInt68k 8, .postIntZ80 1].all fun n => decide (n ≠ .m68k) && decide (n ≠ .z80) &&
      isNext (takeTurn n (idle []))) = true :=
  ⟨by decide +kernel, idle_inv [], by decide +kernel, by decide +kernel, by decide +kernel⟩

/-- The default map leaves the oracle to OWNER. -/
theorem test_witness_oracleIsOwners : (idle []).launch.oracleIsOwners ∧ zwit.launch.oracleIsOwners := by
  unfold Launch.oracleIsOwners
  decide

/-- A trap from user mode, whole and waiting for its first store; a privileged instruction, a division by zero and CHK; and a write of SR. -/
theorem test_witness_ModeChanges :
    ([Instr.trap 0, .stop 0x2700, .divu (.imm 0) 0, .chk (.imm 0) 0].all fun i => i.is68k && !witUser.m68k.super &&
      nextOf (fun t => t.m68k.super) (exec i witUser) == some true) = true ∧
    (let s := witUser.mapM68k fun m => { m with osp := 0x00C00010#32 };
      !s.m68k.super && nextOf (fun t => t.m68k.super && t.wait68k.isSome) (exec (.trap 0) s) == some true) = true ∧
    (wit.m68k.super && nextOf (fun t => t.m68k.super) (exec (.andiToSr 0) wit) == some false) = true := by decide +kernel

/-- `wit` in a run state, with a level posted. -/
def boundary (r : Run68k) (level : Nat) (f : M68k → M68k) : State :=
  (wit.mapM68k fun m => f { m with run := r }).mapBus fun b => { b with mb68k := { b.mb68k with intLevel := level } }

/-- Halted; level 7 above mask 6 and level 1 above mask 0, stopped too; level 7 at mask 7, stopped, traced, and at an odd PC. -/
theorem test_witness_M68kBoundary :
    (([boundary (.halted .oddPc) 0 id, boundary .running 7 (fun m => m.setMask 6), boundary .stopped 1 (fun m => m.setMask 0),
        boundary .stopped 7 id, boundary .running 7 fun m => { m with sr := { m.sr with t := true } },
        boundary .running 0 fun m => { m with pc := 1 }].all fun s => (s.dead .m68k).isNone && s.wait68k.isNone) &&
      ([boundary .running 7 (fun m => m.setMask 6), boundary .stopped 1 (fun m => m.setMask 0)].all fun s =>
        decide (s.m68k.mask.toNat < s.bus.mb68k.intLevel) && (s.interruptAt s.bus.mb68k.intLevel).isSome) &&
      [boundary .stopped 7 id, boundary .running 7 fun m => { m with sr := { m.sr with t := true } },
        boundary .running 0 fun m => { m with pc := 1 }].all fun s => decide (s.bus.mb68k.intLevel ≤ s.m68k.mask.toNat)) = true := by
  decide +kernel

/-- `zwit` off its reset, with a level posted and bus bits and registers changed. -/
def zboundary (level : Nat) (g : Bus → Bus) (f : Z80 → Z80) : State :=
  (zwit.mapZ80 f).mapBus fun b => g { b with z80ResetHeld := false, mbZ80 := { b.mbZ80 with intLevel := level } }

theorem test_witness_Z80Boundary :
    ([zboundary 0 (fun b => { b with z80ResetHeld := true }) id, zboundary 0 (fun b => { b with z80ResetPulse := true }) id,
        zboundary 0 (fun b => { b with busReq := true }) id, zboundary 1 id (fun z => { z with iff1 := true }),
        zboundary 1 id fun z => { z with iff1 := true, cooldown := true, halted := true }].all fun s =>
          (s.dead .z80).isNone && s.waitZ80.isNone) = true ∧
    (let s := zboundary 1 id fun z => { z with iff1 := true, im := .im1 };
      s.z80.iff1 && !s.z80.cooldown && decide (s.bus.mbZ80.intLevel ≠ 0) && decide (s.z80.im = .im1) &&
        (((s.mapBus fun b => { b with busAck := false, mbZ80 := { b.mbZ80 with intLevel := 0 } }).mapZ80 fun z =>
          { z with halted := false, iff1 := false, iff2 := false }).pushZ s.z80.pc).isSome) = true ∧
    (zboundary 1 id fun z => { z with iff1 := true }).z80.im ≠ .im1 ∧ (zboundary 0 id fun z => { z with halted := true }).z80.iff1 = false := by
  decide +kernel

/-- A halted M68K, in a turn of its own and in one of another agent. -/
def halted (t : Turn) : State := { boundary (.halted .crashed) 7 id with schedule := [t] }

theorem test_witness_HaltIsTerminal :
    (∀ t, (halted t).Inv) ∧ (halted .m68k).m68k.run = .halted .crashed ∧ (halted .m68k).dead .m68k = none ∧ (halted .m68k).ready68k ∧
    isNext (step (halted .m68k)) = true ∧ isNext (step (halted .z80)) = true :=
  ⟨fun _ => inv_of_idle _ ⟨.nil, fun _ h => nomatch h⟩ rfl rfl rfl rfl rfl
    (Nat.le_refl 7), rfl, by decide +kernel, rfl, by decide +kernel, by decide +kernel⟩

/-- The first vector and the last; the frame in WRAM, its offset that of its first byte. -/
theorem test_witness_ExceptionEntryAndReturn :
    ([(wit, 0x1FFA), (witUser, 0x2FFA)].all fun x => [0, 255].all fun v =>
      (x.1.enterAt v 0x1234#32).isSome && decide (x.1.mem.wf) && x.1.wait68k.isNone &&
      ((List.range 6).all fun j => decide (place68k x.1.launch ((x.1.m68k.enterSuper.sp - 6#32).setWidth 24 + BitVec.ofNat 24 j) =
        some (.wram ((x.2 + j) % x.1.launch.map.wramSize)))) && decide (6 ≤ x.1.launch.map.wramSize) &&
      ((List.range 4).all fun j => has (place68k x.1.launch ((BitVec.ofNat 32 (v * 4)).setWidth 24 + BitVec.ofNat 24 j)) fun p =>
        match p with | .rom _ => true | _ => false) &&
      has (x.1.loadAt .l (BitVec.ofNat 32 (v * 4))) fun y => decide (y.2 = x.1)) = true := by decide +kernel

/-- `wit` waiting in an instruction on the device. -/
def held (i : Instr) : State := { wit with wait68k := some { act := .exec i, snap := wit.m68k, log := [] } }

/-- The hypotheses of a transaction on the device. -/
def meetsIssue (s : State) (sz : Size) : Bool :=
  decide (s.bus.mb68k.op = .none) && has ((s.past 1).locate sz device) fun x => match x.1 with
    | .mem a => !oddAccess (a.setWidth 24) sz && decide (route68k s.launch (a.setWidth 24) sz = .owner)
    | _ => false

/-- A waiting processor, with its transaction pending and answered. -/
theorem test_witness_TransactionsWaitAndResume :
    (((held (.tst .w device)).mapBus fun b => { b with mb68k := { b.mb68k with op := .memRead } }).dead .m68k).isNone = true ∧
    (((zheld .zNop []).mapBus fun b => { b with mbZ80 := { b.mbZ80 with op := .portRead } }).dead .z80).isNone = true ∧
    (sizes.all (meetsIssue wit)) = true ∧ ((held (.tst .w device)).dead .m68k).isNone = true ∧
    ((zheld (.zLdRHl .b) []).dead .z80).isNone = true ∧ (zheld (.zLdRHl .b) []).bus.mbZ80.op = .none ∧
    meetsIssue { held (.tst .w device) with m68k := wit.m68k, wait68k := none } .w = true ∧
    meetsIssue { held (.moveFromSr device) with m68k := wit.m68k, wait68k := none } .w = true := by decide +kernel

/-- Places that M68K reaches through OWNER: ZRAM, a device, the control registers, and a word from ROM into a device row. -/
def ownersPlaces : List (Size × Long) :=
  [(.b, 0x00A00000), (.w, 0x00A03FFE), (.l, 0x00C00000), (.w, 0x00A11100), (.b, 0x00A11201), (.l, 0x003FFFFE)]

/-- An address of each row of the Z80 view that OWNER serves. -/
def ownersAddresses : List Word := [0x4000, 0x6000, 0x60FF, 0x7F1F, 0x8000, 0xFFFF]

/-- The issue of every access, its answer, and what Z80 issues at each row but ZRAM. -/
theorem test_witness_TransactionsWaitAndResume_access :
    (ownersPlaces.all fun x =>
      let c := point wit
      c.todo.isEmpty && decide (c.st.bus.mb68k.op = .none) && !oddAccess (x.2.setWidth 24) x.1 &&
        decide (route68k c.st.launch (x.2.setWidth 24) x.1 = .owner) && !c.selfModifies .write (x.2.setWidth 24) x.1 &&
        !c.selfModifies .tas (x.2.setWidth 24) .b) = true ∧
    { point wit with todo := [7#32] }.todo = [7#32] ∧
    (ownersAddresses.all fun a =>
      let s := zwit.mapZ80 fun z => z.setHl a
      (point s).todo.isEmpty && s.waitZ80.isNone && decide (s.bus.mbZ80.op = .none) && (placeZ80 s.launch s.z80.hl).isSome &&
        !s.launch.localZ80 s.z80.hl) = true ∧
    (placeZ80 otherLaunch 0x0000).isSome = true ∧ otherLaunch.localZ80 0x0000 = false ∧
    (point zwit).st.launch.map.ownPorts = false ∧ (point zwitPorts).st.launch.map.ownPorts = true := by decide +kernel

/-- A transaction of M68K that OWNER may serve. -/
def posted (op : MbOp) (a : Addr24) (sz : Size) (ack held : Bool) : State :=
  State.reset.mapBus fun b =>
    { b with mb68k := { op := op, value := 1, addr := a, len := sz, intLevel := 7, rmw := false }, busAck := ack, z80ResetHeld := held }

/-- A TAS of M68K that OWNER may serve. -/
def postedTas (a : Addr24) : State :=
  State.reset.mapBus fun b =>
    { b with mb68k := { op := .memRead, value := 1, addr := a, len := .b, intLevel := 7, rmw := true } }

/-- A transaction of Z80 that OWNER may serve, with a bank. -/
def postedZ80 (op : MbOp) (a : Word) (bank : BitVec 9) : State :=
  State.reset.mapBus fun b =>
    { b with mbZ80 := { op := op, value := 1, addr := a, len := .b, intLevel := 0, rmw := false }, bank := bank }

/-- A launch whose control registers and maps are not the default ones: the bus-request register at the top of the address space, the
reset register inside ROM, one row of M68K's in OWNER's hands, a shorter image. -/
def launch2 : Launch :=
  { Launch.default with
    romLen := 0x1000, busReqAddr := 0xFFFFFE, z80ResetAddr := 0x10
    map := { PlatformMap.default with
      m68k := [{ first := 0x000000, last := 0x0FFFFF, holds := .rom, own := false }, { first := 0xE00000, last := 0xFFFFFF, holds := .wram, own := true }] } }

/-- Every access to the three registers, wherever a launch places the first two. -/
theorem test_witness_ControlRegistersServed :
    (Launch.default.registersApart ∧ launch2.registersApart) ∧
    ([posted .memWrite 0xA11100 .w false true, posted .memWrite 0xA11200 .b false true, posted .memRead 0xA11100 .b true false,
        posted .memRead 0xA11200 .w true false, posted .memWrite 0xA11101 .b false true, posted .memWrite 0xA11201 .b false true,
        posted .memRead 0xA11101 .b false true, posted .memRead 0xA11201 .b false true, postedTas 0xA11101, postedTas 0xA11201,
        postedTas 0xA11100, postedTas 0xA11200,
        { posted .memWrite 0xFFFFFE .b false true with launch := launch2 },
        { posted .memRead 0x10 .w false true with launch := launch2 }].all fun s => (s.dead .m68k).isNone) = true ∧
    ([Launch.default, launch2].all fun l => [l.busReqAddr, l.z80ResetAddr].all fun a =>
      !oddAccess a .l && decide ((a.setWidth 32).setWidth 24 = a)) = true ∧
    ([postedZ80 .memWrite 0x6000 0, postedZ80 .memWrite 0x60FF 0x1FF, postedZ80 .memRead 0x6000 0].all fun s => (s.dead .z80).isNone &&
      decide (placeZ80 s.launch s.bus.mbZ80.addr = some .bank)) = true := by
  unfold Launch.registersApart
  decide +kernel

/-- The two ends of the ZRAM rows and of device rows, each width, with and without the grant; a device row and a port of Z80; a window
onto WRAM's last byte, ROM's first, ROM past a short image, ROM that M68K does not reach itself, a device, ZRAM, both control
registers and a hole. -/
theorem test_witness_SharedMemoryServed :
    ([(0xA00000#24, Size.l), (0xA03FFE#24, .w), (0xA03FFF#24, .b)].all fun x => [true, false].all fun k =>
      let s := posted .memWrite x.1 x.2 k false
      (s.dead .m68k).isNone && (bytes68k x.1 x.2).all fun b => has (place68k s.launch b) Place.isZram) = true ∧
    ([(0x400000#24, Size.l), (0xA14002#24, .w), (0xC0001F#24, .b)].all fun x =>
      (bytes68k x.1 x.2).all fun b => decide (place68k Launch.default b = some .device)) = true ∧
    (placeZ80 Launch.default 0x5FFF = some .device ∧ ((postedZ80 .portRead 0xFFFF 0).dead .z80).isNone = true) ∧
    (([0x8000#16, 0xFFFF#16].all fun a => decide (placeZ80 Launch.default a = some .window)) &&
      ((postedZ80 .memRead 0x8000 0).dead .z80).isNone) = true ∧
    ([(0x1FF#9, 0xFFFF#16, some (Place.wram 0xFFFF)), (0#9, 0x8000#16, some (.rom 0)), (0x080#9, 0x8000#16, some .device),
        (0x140#9, 0x8000#16, some (.zram 0)), (0x142#9, 0x9100#16, some (.busReq true)), (0x142#9, 0x9201#16, some (.z80Reset false)),
        (0x143#9, 0x8000#16, none)].all fun x =>
      decide (place68k Launch.default ((x.1 : BitVec 9) ++ (x.2.1 : BitVec 16).extractLsb' 0 15) = x.2.2)) = true ∧
    (0 < Launch.default.romLen ∧ place68k launch2 ((0#9 : BitVec 9) ++ (0x9000#16).extractLsb' 0 15) = some (.rom 0x1000) ∧
      launch2.romLen ≤ 0x1000 ∧ launch2.local68k 0x1000 = false) := by decide +kernel

/-- The holes of both views, from their first byte and from a byte before them; the default map. -/
theorem test_witness_UnmappedAccessFaults :
    ([(Size.b, 0x00A10020#32), (.l, 0x00A1001C#32 + 2#32), (.w, 0x00A11202#32), (.l, 0x00C0001E#32), (.b, 0x00DFFFFF#32)].all fun x =>
      (point wit).todo.isEmpty && !oddAccess (x.2.setWidth 24) x.1 &&
        (bytes68k (x.2.setWidth 24) x.1).any fun b => decide (place68k wit.launch b = none)) = true ∧
    ([0x6100#16, 0x7EFF#16, 0x7F20#16, 0x7FFF#16].all fun a => decide (placeZ80 zwit.launch a = none)) = true ∧
    (Launch.default.map = PlatformMap.default ∧ Launch.default.busReqAddr = 0xA11100 ∧ Launch.default.z80ResetAddr = 0xA11200) ∧
    ([(Size.b, 0x00A0FFFF#32), (.w, 0x00A00000#32), (.l, 0x00A00000#32)].all fun x => [true, false].all fun k =>
      let c := point ({ wit with launch := otherLaunch }.mapBus fun b => { b with busAck := k, z80ResetHeld := false })
      c.todo.isEmpty && !oddAccess (x.2.setWidth 24) x.1 && !c.selfModifies .write (x.2.setWidth 24) x.1 &&
        match route68k c.st.launch (x.2.setWidth 24) x.1 with | .here ps => ps.any Place.isZram | _ => false) = true ∧
    ([(0x140#9, 0x8000#16, true), (0x142#9, 0x9201#16, false)].all fun x =>
      let c := point ({ zwit with launch := otherLaunch }.mapBus fun b => { b with bank := x.1 })
      c.todo.isEmpty && decide (placeZ80 c.st.launch x.2.1 = some .window) && c.st.launch.localZ80 x.2.1 &&
        has (place68k c.st.launch (c.st.bus.bank ++ x.2.1.extractLsb' 0 15)) fun p => p.isZram || p.isControl) = true := by
  decide +kernel

/-- A state with a schedule; both processors with a transaction pending. -/
theorem test_witness_SchedulesAreFair :
    (idle [.z80, .m68k]).schedule = .z80 :: [.m68k] ∧ (posted .memRead 0xC00000 .w false true).bus.mb68k.op ≠ .none ∧
    (postedZ80 .portRead 0 0).bus.mbZ80.op ≠ .none := by decide

theorem test_witness_PowerOnValues : 8 ≤ Launch.default.romLen := by decide

/-- `wit` under the policy `split`. -/
def witSplit : State := { wit with launch := { wit.launch with misaligned := .split } }

theorem test_witness_MisalignedAccess :
    (([0x00E00001#32, 0x00FF0001#32].all fun a => a.getLsbD 0 && has (witSplit.loadAt .b a) fun x =>
        has (x.2.loadAt .b (a + 1#32)) fun y => has (y.2.loadAt .b (a + 2#32)) fun u => (u.2.loadAt .b (a + 3#32)).isSome) &&
      ([0x00E00001#32, 0x00FFFFFB#32].all fun a => has (witSplit.storeAt .b a 1#8) fun x =>
        has (x.storeAt .b (a + 1#32) 2#8) fun y => has (y.storeAt .b (a + 2#32) 3#8) fun u => (u.storeAt .b (a + 3#32) 4#8).isSome) &&
      decide (witSplit.launch.misaligned = .split) && decide (wit.launch.misaligned = .fault)) = true := by decide +kernel

theorem test_witness_ConditionsMeanOrders : 0 < 1 ∧ 0 < 32 := by decide

end Sys2Proof.Tests
end

section
/-! Data accesses of M68K at odd addresses, by the policy of the launch (20 R124). The accesses of a split are byte accesses, each
one that `State.loadAt` or `State.storeAt` of a byte describes. -/

namespace Sys2Proof.Laws

open Sys2Proof.Machine

/-! ### The addresses and the bytes of an access -/

/-- Cutting an address to 24 bits keeps whether it is odd. -/
theorem oddAccess_of_odd {a : Long} {sz : Size} (hsz : sz ≠ .b) (ha : a.getLsbD 0 = true) :
    oddAccess (a.setWidth 24) sz = true := by
  simp [oddAccess, ha, hsz]

/-- The addresses of a word's bytes, as those of two byte accesses (20 R122). -/
theorem bytes68k_word (a : Long) : bytes68k (a.setWidth 24) .w = [a.setWidth 24, (a + 1#32).setWidth 24] := by
  simp [bytes68k, Size.bytes, List.range_succ, BitVec.setWidth_add]

/-- The addresses of a long's bytes, as those of four byte accesses (20 R122). -/
theorem bytes68k_long (a : Long) : bytes68k (a.setWidth 24) .l =
    [a.setWidth 24, (a + 1#32).setWidth 24, (a + 2#32).setWidth 24, (a + 3#32).setWidth 24] := by
  simp [bytes68k, Size.bytes, List.range_succ, BitVec.setWidth_add]

/-- The bytes of a word do not depend on what stands above its 16 bits (20 R120). -/
theorem bigEndian_word (v : Word) : bigEndian .w (v.setWidth 32) = [v.extractLsb' 8 8, v.extractLsb' 0 8] := by
  rw [bigEndian, BitVec.extractLsb'_setWidth_of_le (by decide), BitVec.extractLsb'_setWidth_of_le (by decide)]

/-- The low byte of a value, by the mask or by the width. -/
theorem and_byteMask (y : Long) : y &&& 0xFF#32 = (y.setWidth 8).setWidth 32 := by
  have h : y.toNat &&& 255 = y.toNat % 256 := Nat.and_two_pow_sub_one_eq_mod y.toNat 8
  apply BitVec.eq_of_toNat_eq
  simp only [BitVec.toNat_and, BitVec.toNat_ofNat, BitVec.toNat_setWidth, Nat.reducePow, Nat.reduceMod, h]
  omega

/-- The first byte stands alone, before any other is appended. -/
theorem zero_append_byte (x : Byte) : (0#0 ++ x : BitVec (0 + 8)) = x :=
  BitVec.zero_width_append 0#0 x

/-! ### No access raises the fault of alignment -/

/-- The faults of ZRAM are of contention and of width (20 R136). -/
theorem zramFault_ne_misaligned (s : State) (ps : List Place) (sz : Size) : s.zramFault ps sz ≠ some .misalignedData := by
  rw [State.zramFault]
  split_ifs <;> simp

/-- The fault of an issue is of the protocol (20 R151, R154). -/
theorem issue68k_ne_misaligned (k : Access) (a : Addr24) (sz : Size) (v : Long) (c d : Ctx) :
    issue68k k a sz v c ≠ .error (.fault .misalignedData) d := by
  rw [issue68k]
  split_ifs <;> simp

theorem perform68k_ne_misaligned (k : Access) (a : Addr24) (sz : Size) (v : Long) (c d : Ctx) :
    perform68k k a sz v c ≠ .error (.fault .misalignedData) d := by
  rw [perform68k]
  cases route68k c.st.launch a sz with
  | nowhere => simp
  | owner =>
    dsimp only
    split_ifs
    · simp
    · exact issue68k_ne_misaligned k a sz v c d
  | here ps =>
    dsimp only
    split_ifs
    · simp
    · cases hf : c.st.zramFault ps sz with
      | none => simp
      | some f =>
        have : f ≠ .misalignedData := fun e => zramFault_ne_misaligned c.st ps sz (e ▸ hf)
        simp [this]

/-- The alignment rule is of a whole data access, before the accesses it is made of (20 R124). -/
theorem access68k_ne_misaligned (k : Access) (a : Addr24) (sz : Size) (v : Long) (c d : Ctx) :
    access68k k a sz v c ≠ .error (.fault .misalignedData) d := by
  cases h : c.todo with
  | cons x l => simp [access68k_replayed k a sz v h]
  | nil =>
    have made := perform68k_ne_misaligned k a sz v c d
    simp only [access68k, Op.once, h]
    cases hp : perform68k k a sz v c with
    | ok x c' => simp
    | error e c' => simpa [hp] using made

/-- Going on with a value raises no error. -/
theorem bind_pure_ne_error {α β : Type} {x : Op α} {e : Stop} {c d : Ctx} (f : α → β) (h : x c ≠ .error e d) :
    (x >>= fun v => pure (f v)) c ≠ .error e d := by
  cases hx : x c with
  | ok v c' => simp [bind, EStateM.bind, pure, EStateM.pure, hx]
  | error e' c' => simpa [bind, EStateM.bind, hx] using h

/-- A byte load is one access and a conversion of its answer. -/
theorem load68k_byte_ne_misaligned (a : Long) (c d : Ctx) : load68k .b a c ≠ .error (.fault .misalignedData) d :=
  bind_pure_ne_error (fun x : Long => (x.setWidth 8 : Byte)) (access68k_ne_misaligned .read (a.setWidth 24) .b 0 c d)

/-- A byte store is one access. -/
theorem store68k_byte_ne_misaligned (a : Long) (v : Byte) (c d : Ctx) :
    store68k .b a v c ≠ .error (.fault .misalignedData) d :=
  bind_pure_ne_error (fun _ => ()) (access68k_ne_misaligned .write (a.setWidth 24) .b (v.setWidth 32) c d)

/-! ### Accesses made in an instruction or in interrupt entry -/

/-- `Gives` with no access to replay, and for either kind of activity: `irq` marks interrupt entry. -/
def Makes (irq : Bool) {α : Type} (x : Op α) (s : State) (a : α) (t : State) : Prop :=
  ∀ done, ∃ done', x ⟨s, [], done, irq⟩ = .ok a ⟨t, [], done', irq⟩

/-- In an instruction, `Makes` is `Gives`. -/
theorem makes_false_iff {α : Type} {x : Op α} {s t : State} {a : α} :
    Makes false x s a t ↔ Gives x (s, []) a (t, []) := Iff.rfl

section Makes

variable {α β : Type} {s t u : State} {irq : Bool} {sz : Size} {a : Long}

theorem makes_pure (b : α) (s : State) : Makes irq (pure b) s b s := fun d => ⟨d, rfl⟩

theorem makes_bind {x : Op α} {f : α → Op β} {b : α} {c : β} (h : Makes irq x s b t) (hf : Makes irq (f b) t c u) :
    Makes irq (x >>= f) s c u := by
  intro d
  obtain ⟨d1, h1⟩ := h d
  obtain ⟨d2, h2⟩ := hf d1
  exact ⟨d2, by simp only [bind, EStateM.bind, h1, h2]⟩

/-- A read that M68K makes itself; its answer is wider than what `State.loadAt` names. -/
theorem makes_access68k_read {v : BitVec sz.bits} (h : s.loadAt sz a = some (v, t)) :
    ∃ x : Long, x.setWidth sz.bits = v ∧ Makes irq (access68k .read (a.setWidth 24) sz 0) s x t := by
  rw [State.loadAt, Option.map_eq_some_iff] at h
  obtain ⟨ps, hp, h⟩ := h
  obtain ⟨-, hr, hz⟩ := placesHere_some hp
  cases h
  refine ⟨_, rfl, fun d => ⟨d ++ [(s.plainRead ps).1], ?_⟩⟩
  simp [access68k, Op.once, perform68k, hr, hz, Ctx.selfModifies, Access.stores, plainAccess]

/-- A write that M68K makes itself. -/
theorem makes_access68k_write {v : BitVec sz.bits} (h : s.storeAt sz a v = some t) :
    Makes irq (access68k .write (a.setWidth 24) sz (v.setWidth 32)) s (v.setWidth 32) t := by
  rw [State.storeAt] at h
  split at h
  · rename_i ps hp
    obtain ⟨-, hr, hz⟩ := placesHere_some hp
    split at h
    · cases h
    · rename_i hh
      cases h
      refine fun d => ⟨d ++ [v.setWidth 32], ?_⟩
      simp [access68k, Op.once, perform68k, hr, hz, hh, Ctx.selfModifies, plainAccess]
  · cases h

/-! ### The byte accesses of a split -/

/-- The first read of a split: its byte goes below the bytes `p` read so far. -/
theorem makes_splitRead_cons {b : Byte} {n : Nat} {p : BitVec n} {r : List Addr24} {v : Long}
    (h : s.loadAt .b a = some (b, t)) (hr : Makes irq (splitRead r ((p ++ b).setWidth 32)) t v u) :
    Makes irq (splitRead (a.setWidth 24 :: r) (p.setWidth 32)) s v u := by
  obtain ⟨y, hy, hm⟩ := makes_access68k_read (irq := irq) h
  have low : y &&& 0xFF#32 = b.setWidth 32 := hy ▸ and_byteMask y
  refine makes_bind hm ?_
  rwa [low, ← BitVec.setWidth_append_eq_shiftLeft_setWidth_or]

/-- The first write of a split. -/
theorem makes_splitWrite_cons {b : Byte} {r : List Addr24} {bs : List Byte} (h : s.storeAt .b a b = some t)
    (hr : Makes irq (splitWrite r bs) t () u) : Makes irq (splitWrite (a.setWidth 24 :: r) (b :: bs)) s () u :=
  makes_bind (makes_access68k_write h) hr

end Makes

/-! ### A load and a store at an odd address -/

section Odd

variable {sz : Size} {a : Long} {c : Ctx} {s t : State} {irq : Bool} (hsz : sz ≠ .b) (ha : a.getLsbD 0 = true)
include hsz ha

theorem load68k_odd_fault (hl : c.st.launch.misaligned = .fault) :
    load68k sz a c = .error (.fault .misalignedData) c := by
  simp [load68k, Op.state, Op.stop, bind, EStateM.bind, oddAccess_of_odd hsz ha, hl]

theorem store68k_odd_fault (v : BitVec sz.bits) (hl : c.st.launch.misaligned = .fault) :
    store68k sz a v c = .error (.fault .misalignedData) c := by
  simp [store68k, Op.state, Op.stop, bind, EStateM.bind, oddAccess_of_odd hsz ha, hl]

theorem makes_load68k_odd (hl : s.launch.misaligned = .split) {v : Long}
    (h : Makes irq (splitRead (bytes68k (a.setWidth 24) sz) 0#32) s v t) :
    Makes irq (load68k sz a) s (v.setWidth sz.bits) t := by
  refine makes_bind (b := s) (t := s) (fun d => ⟨d, rfl⟩) ?_
  simp only [oddAccess_of_odd hsz ha, if_true, hl]
  exact makes_bind h (makes_pure _ _)

theorem makes_store68k_odd (hl : s.launch.misaligned = .split) {v : BitVec sz.bits}
    (h : Makes irq (splitWrite (bytes68k (a.setWidth 24) sz) (bigEndian sz (v.setWidth 32))) s () t) :
    Makes irq (store68k sz a v) s () t := by
  refine makes_bind (b := s) (t := s) (fun d => ⟨d, rfl⟩) ?_
  simpa only [oddAccess_of_odd hsz ha, if_true, hl] using h

end Odd

section Split

variable {s s1 s2 s3 s4 : State} {a : Long} {irq : Bool} (ha : a.getLsbD 0 = true) (hl : s.launch.misaligned = .split)
include ha hl

theorem makes_load68k_word_split {x0 x1 : Byte} (h0 : s.loadAt .b a = some (x0, s1))
    (h1 : s1.loadAt .b (a + 1#32) = some (x1, s2)) : Makes irq (load68k .w a) s (x0 ++ x1) s2 := by
  have h := makes_load68k_odd (irq := irq) (sz := .w) (by decide) ha hl <| bytes68k_word a ▸
    makes_splitRead_cons (p := 0#0) h0 (makes_splitRead_cons h1 (makes_pure _ _))
  simpa [zero_append_byte] using h

theorem makes_load68k_long_split {x0 x1 x2 x3 : Byte} (h0 : s.loadAt .b a = some (x0, s1))
    (h1 : s1.loadAt .b (a + 1#32) = some (x1, s2)) (h2 : s2.loadAt .b (a + 2#32) = some (x2, s3))
    (h3 : s3.loadAt .b (a + 3#32) = some (x3, s4)) : Makes irq (load68k .l a) s (x0 ++ x1 ++ x2 ++ x3) s4 := by
  have h := makes_load68k_odd (irq := irq) (sz := .l) (by decide) ha hl <| bytes68k_long a ▸
    makes_splitRead_cons (p := 0#0) h0 (makes_splitRead_cons h1 (makes_splitRead_cons h2
      (makes_splitRead_cons h3 (makes_pure _ _))))
  simpa [zero_append_byte] using h

theorem makes_store68k_word_split {v : Word} (h0 : s.storeAt .b a (v.extractLsb' 8 8) = some s1)
    (h1 : s1.storeAt .b (a + 1#32) (v.extractLsb' 0 8) = some s2) : Makes irq (store68k .w a v) s () s2 := by
  refine makes_store68k_odd (by decide) ha hl ?_
  rw [bytes68k_word, bigEndian_word]
  exact makes_splitWrite_cons h0 (makes_splitWrite_cons h1 (makes_pure _ _))

theorem makes_store68k_long_split {v : Long} (h0 : s.storeAt .b a (v.extractLsb' 24 8) = some s1)
    (h1 : s1.storeAt .b (a + 1#32) (v.extractLsb' 16 8) = some s2)
    (h2 : s2.storeAt .b (a + 2#32) (v.extractLsb' 8 8) = some s3)
    (h3 : s3.storeAt .b (a + 3#32) (v.extractLsb' 0 8) = some s4) : Makes irq (store68k .l a v) s () s4 := by
  refine makes_store68k_odd (by decide) ha hl ?_
  rw [bytes68k_long]
  exact makes_splitWrite_cons h0 (makes_splitWrite_cons h1 (makes_splitWrite_cons h2
    (makes_splitWrite_cons h3 (makes_pure _ _))))

end Split

/-- Settles O59: the policy of the launch decides a data access at an odd address before any access is made; under `split` the
byte accesses follow one another, each from the state the one before it left. -/
theorem misalignedAccess : Obligations.MisalignedAccess := by
  unfold Obligations.MisalignedAccess
  refine ⟨fun c sz a v hsz ha hl => ⟨load68k_odd_fault hsz ha hl, store68k_odd_fault hsz ha v hl⟩,
    fun c d a v => ⟨load68k_byte_ne_misaligned a c d, store68k_byte_ne_misaligned a v c d⟩, ?loads, ?wordStores, ?longStores⟩
  case loads =>
    intro s s1 s2 a x0 x1 q ha hl h0 h1
    exact ⟨makes_load68k_word_split ha hl h0 h1 [], fun s3 s4 x2 x3 h2 h3 => makes_load68k_long_split ha hl h0 h1 h2 h3 []⟩
  case wordStores => exact fun s s1 s2 a v q ha hl h0 h1 => makes_store68k_word_split ha hl h0 h1 []
  case longStores => exact fun s s1 s2 s3 s4 a v q ha hl h0 h1 h2 h3 => makes_store68k_long_split ha hl h0 h1 h2 h3 []

end Sys2Proof.Laws
end

section
/-! While M68K is at a boundary, only its own turn changes its registers or its wait: the frame of Z80 and of OWNER, and with it
that nothing ends a halt (60 R713). -/

namespace Sys2Proof.Laws

open Sys2Proof.Machine

/-- What M68K alone holds: its registers, and what it waits in (10 R40 to R50). -/
def own68k (s : State) : M68k × Option Wait68k := (s.m68k, s.wait68k)

theorem own68k_eq_iff {s t : State} : own68k t = own68k s ↔ t.m68k = s.m68k ∧ t.wait68k = s.wait68k := Prod.mk_inj

/-! ### Accesses as changes of the state -/

@[simp] theorem own68k_readPlace (s : State) (p : Place) : own68k (s.readPlace p).2 = own68k s := by
  cases p with
  | rom off => rw [State.readPlace]; split <;> rfl
  | _ => rfl

@[simp] theorem own68k_readPlaces (s : State) (ps : List Place) : own68k (s.readPlaces ps).2 = own68k s := by
  induction ps generalizing s with
  | nil => rfl
  | cons p r ih => simp [State.readPlaces, ih]

@[simp] theorem own68k_writePlace (s : State) (v : Byte) (p : Place) : own68k (s.writePlace v p) = own68k s := by
  cases p <;> rfl

@[simp] theorem own68k_writePlaces (s : State) (ps : List Place) (bs : List Byte) :
    own68k (s.writePlaces ps bs) = own68k s := by
  induction ps generalizing s bs with
  | nil => rfl
  | cons p r ih =>
    cases bs with
    | nil => rfl
    | cons b bs => simp [State.writePlaces, ih]

theorem own68k_plainWrite (s : State) (a : Addr24) (sz : Size) (v : Long) (ps : List Place) :
    own68k (s.plainWrite a sz v ps) = own68k s := by
  have h := own68k_writePlaces s ps (bigEndian sz v)
  rw [State.plainWrite]
  split
  · exact h
  · exact h

/-- The two halves of the access, made from the state `s`, leave M68K's own as it is. -/
structure RowSpares68k (s : State) (r : RowAccess) : Prop where
  read : own68k r.read.2 = own68k s
  write : ∀ v t, own68k (r.write v t) = own68k t

theorem plainAccess_spares68k (s : State) (a : Addr24) (sz : Size) (ps : List Place) :
    RowSpares68k s (plainAccess s a sz ps) where
  read := own68k_readPlaces s ps
  write v t := own68k_plainWrite t a sz v ps

theorem portAccess_spares68k (s : State) (port : Word) : RowSpares68k s (portAccess s port) where
  read := rfl
  write _ _ := rfl

theorem windowAccess_spares68k {s : State} {a : Word} {r : RowAccess} (h : windowAccess s a = .ok r) : RowSpares68k s r := by
  rw [windowAccess] at h
  split at h
  all_goals cases h
  exact plainAccess_spares68k s _ .b _

theorem accessAtZ80_spares68k {s : State} {a : Word} {p : PlaceZ80} {r : RowAccess} (h : accessAtZ80 s a p = .ok r) :
    RowSpares68k s r := by
  cases p with
  | window => exact windowAccess_spares68k h
  | _ => cases h; exact ⟨rfl, fun _ _ => rfl⟩

/-- A transaction is a read, a write, or both in one (20 R152). -/
theorem own68k_transact {w : Nat} (m : Mailbox w) {s : State} {r : RowAccess} (h : RowSpares68k s r) :
    own68k (transact m s r).2 = own68k s := by
  rw [transact]
  split
  · exact h.write _ _
  · exact h.write _ _
  · split
    · exact (h.write _ _).trans h.read
    · exact h.read

/-! ### Operations -/

/-- The operation leaves M68K's own as it is, however it ends. -/
def Spares68k {α : Type} (x : Op α) : Prop :=
  ∀ c, match x c with
    | .ok _ d | .error _ d => own68k d.st = own68k c.st

section Operations

variable {α β : Type}

theorem Spares68k.of_ok {x : Op α} (hx : Spares68k x) {a : α} {c d : Ctx} (h : x c = .ok a d) :
    own68k d.st = own68k c.st := by
  have hc := hx c
  rwa [h] at hc

theorem Spares68k.of_error {x : Op α} (hx : Spares68k x) {e : Stop} {c d : Ctx} (h : x c = .error e d) :
    own68k d.st = own68k c.st := by
  have hc := hx c
  rwa [h] at hc

theorem spares_pure (a : α) : Spares68k (pure a : Op α) := fun _ => rfl

theorem Spares68k.bind {x : Op α} {f : α → Op β} (hx : Spares68k x) (hf : ∀ a, Spares68k (f a)) : Spares68k (x >>= f) := by
  intro c
  simp only [Bind.bind, EStateM.bind]
  cases hc : x c with
  | error e d => exact hx.of_error hc
  | ok a d =>
    dsimp only
    cases hd : f a d with
    | ok b d' => exact ((hf a).of_ok hd).trans (hx.of_ok hc)
    | error e d' => exact ((hf a).of_error hd).trans (hx.of_ok hc)

/-- An operation before a value. -/
theorem Spares68k.andPure {x : Op α} {f : α → β} (hx : Spares68k x) : Spares68k (x >>= fun a => pure (f a)) :=
  hx.bind fun _ => spares_pure _

theorem Spares68k.ite {p : Prop} [Decidable p] {x y : Op α} (hx : Spares68k x) (hy : Spares68k y) :
    Spares68k (if p then x else y) := by
  split
  · exact hx
  · exact hy

theorem spares_stop (e : Stop) : Spares68k (Op.stop e : Op α) := fun _ => rfl

theorem spares_z80Regs : Spares68k z80Regs := fun _ => rfl

theorem spares_setZ80 (f : Z80 → Z80) : Spares68k (setZ80 f) := fun _ => rfl

theorem spares_record (e : Event) : Spares68k (Op.modify (·.record e)) := fun _ => rfl

theorem spares_drawZ80 : Spares68k drawZ80 := fun _ => rfl

theorem spares_getFlags : Spares68k getFlags := fun _ => rfl

theorem spares_setFlags (f : ZFlags) : Spares68k (setFlags f) := fun _ => rfl

end Operations

/-! ### Z80 accesses -/

theorem Spares68k.once {x : Op Long} (hx : Spares68k x) : Spares68k (Op.once x) := by
  intro c
  rw [Op.once]
  cases c.todo with
  | cons v l => rfl
  | nil =>
    dsimp only
    cases hc : x c with
    | ok v d => exact (hx.of_ok hc :)
    | error e d => exact hx.of_error hc

theorem spares_issueZ80 (k : Access) (a : Word) (v : Byte) : Spares68k (issueZ80 k a v) := by
  intro c
  rw [issueZ80]
  split_ifs <;> rfl

theorem spares_performZ80 (k : Access) (a : Word) (v : Byte) : Spares68k (performZ80 k a v) := by
  intro c
  rw [performZ80]
  cases placeZ80 c.st.launch a with
  | none => rfl
  | some p =>
    cases c.st.launch.localZ80 a with
    | false => exact spares_issueZ80 k a v c
    | true =>
      simp only [if_true]
      cases hr : accessAtZ80 c.st a p with
      | error f => rfl
      | ok r => exact own68k_transact _ (accessAtZ80_spares68k hr)

theorem spares_performPort (k : Access) (port : Word) (v : Byte) : Spares68k (performPort k port v) := by
  intro c
  rw [performPort]
  cases c.st.launch.map.ownPorts with
  | false => exact spares_issueZ80 k port v c
  | true => exact own68k_transact _ (portAccess_spares68k c.st port)

theorem spares_loadZ80 (a : Word) : Spares68k (loadZ80 a) := (spares_performZ80 .read a 0).once.andPure

theorem spares_storeZ80 (a : Word) (v : Byte) : Spares68k (storeZ80 a v) := (spares_performZ80 .write a v).once.andPure

theorem spares_inPort (port : Word) : Spares68k (inPort port) := (spares_performPort .portRead port 0).once.andPure

theorem spares_outPort (port : Word) (v : Byte) : Spares68k (outPort port v) :=
  (spares_performPort .portWrite port v).once.andPure

theorem spares_load16Z80 (a : Word) : Spares68k (load16Z80 a) :=
  (spares_loadZ80 a).bind fun _ => (spares_loadZ80 _).andPure

theorem spares_store16Z80 (a v : Word) : Spares68k (store16Z80 a v) :=
  (spares_storeZ80 a _).bind fun _ => spares_storeZ80 _ _

theorem spares_pushZ80 (v : Word) : Spares68k (pushZ80 v) :=
  (spares_setZ80 _).bind fun _ => spares_z80Regs.bind fun _ => (spares_storeZ80 _ _).bind fun _ =>
    (spares_setZ80 _).bind fun _ => spares_z80Regs.bind fun _ => spares_storeZ80 _ _

theorem spares_popZ80 : Spares68k popZ80 :=
  spares_z80Regs.bind fun _ => (spares_loadZ80 _).bind fun _ => (spares_setZ80 _).bind fun _ =>
    spares_z80Regs.bind fun _ => (spares_loadZ80 _).bind fun _ => (spares_setZ80 _).andPure

/-! ### Z80 operands and shared rules -/

theorem spares_hlAddress : Spares68k hlAddress := fun _ => rfl

theorem spares_xxd (x : Idx) (d : Byte) : Spares68k (xxd x d) := fun _ => rfl

theorem spares_readOp8 (o : ZOp8) : Spares68k (readOp8 o) := by
  cases o with
  | reg r => exact spares_z80Regs.andPure
  | hl => exact spares_hlAddress.bind spares_loadZ80

theorem spares_writeOp8 (o : ZOp8) (v : Byte) : Spares68k (writeOp8 o v) := by
  cases o with
  | reg r => exact spares_setZ80 _
  | hl => exact spares_hlAddress.bind fun a => spares_storeZ80 a v

theorem spares_readXd (x : Idx) (d : Byte) : Spares68k (readXd x d) := (spares_xxd x d).bind spares_loadZ80

theorem spares_updateOp8 (o : ZOp8) {f : Byte → Op Byte} (hf : ∀ v, Spares68k (f v)) : Spares68k (updateOp8 o f) :=
  (spares_readOp8 o).bind fun v => (hf v).bind (spares_writeOp8 o)

theorem spares_updateXd (x : Idx) (d : Byte) {f : Byte → Op Byte} (hf : ∀ v, Spares68k (f v)) :
    Spares68k (updateXd x d f) :=
  (spares_xxd x d).bind fun a => (spares_loadZ80 a).bind fun v => (hf v).bind (spares_storeZ80 a)

theorem spares_accumulate (f : Alu8) (v : Byte) : Spares68k (accumulate f v) := fun _ => rfl

theorem spares_incValue (v : Byte) : Spares68k (incValue v) := fun _ => rfl

theorem spares_decValue (v : Byte) : Spares68k (decValue v) := fun _ => rfl

theorem spares_rotateA (k : Rot) : Spares68k (rotateA k) := fun _ => rfl

theorem spares_rotateValue (k : Rot) (v : Byte) : Spares68k (rotateValue k v) := fun _ => rfl

theorem spares_bitValue (b : BitVec 3) (v : Byte) : Spares68k (bitValue b v) := fun _ => rfl

theorem spares_rotateDigit (mem acc : Byte → Byte → Byte) : Spares68k (rotateDigit mem acc) :=
  spares_z80Regs.bind fun _ => (spares_loadZ80 _).bind fun _ => (spares_storeZ80 _ _).bind fun _ =>
    (spares_setZ80 _).bind fun _ => spares_z80Regs.bind fun _ => (spares_setFlags _).andPure

theorem spares_exchangeTop (v : Word) : Spares68k (exchangeTop v) :=
  spares_z80Regs.bind fun _ => (spares_loadZ80 _).bind fun _ => (spares_loadZ80 _).bind fun _ =>
    (spares_storeZ80 _ _).bind fun _ => (spares_storeZ80 _ _).andPure

theorem spares_blockTransfer (down : Bool) : Spares68k (blockTransfer down) :=
  spares_z80Regs.bind fun _ => (spares_loadZ80 _).bind fun _ => (spares_storeZ80 _ _).bind fun _ =>
    (spares_setZ80 _).bind fun _ => spares_z80Regs.bind fun _ => spares_setFlags _

theorem spares_blockCompare (down : Bool) : Spares68k (blockCompare down) :=
  spares_z80Regs.bind fun _ => (spares_loadZ80 _).bind fun _ => (spares_setZ80 _).bind fun _ =>
    spares_z80Regs.bind fun _ => (spares_setFlags _).andPure

theorem spares_repeatIf (ipc : Word) (more : Bool) : Spares68k (repeatIf ipc more) := by
  cases more <;> exact fun _ => rfl

theorem spares_blockTransferRepeat (down : Bool) (ipc : Word) : Spares68k (blockTransferRepeat down ipc) :=
  (spares_blockTransfer down).bind fun _ => spares_z80Regs.bind fun _ => spares_repeatIf ipc _

theorem spares_blockCompareRepeat (down : Bool) (ipc : Word) : Spares68k (blockCompareRepeat down ipc) :=
  (spares_blockCompare down).bind fun _ => spares_z80Regs.bind fun _ => spares_repeatIf ipc _

theorem spares_jumpZ80 (v : Word) : Spares68k (jumpZ80 v) := fun _ => rfl

theorem spares_callZ80 (v : Word) : Spares68k (callZ80 v) :=
  spares_z80Regs.bind fun _ => (spares_pushZ80 _).bind fun _ => spares_jumpZ80 v

theorem spares_returnZ80 : Spares68k returnZ80 := spares_popZ80.bind spares_jumpZ80

theorem spares_blockIoFlags : Spares68k blockIoFlags := fun _ => rfl

theorem spares_blockIn (down : Bool) : Spares68k (blockIn down) :=
  spares_z80Regs.bind fun _ => (spares_inPort _).bind fun _ => (spares_storeZ80 _ _).bind fun _ =>
    (spares_setZ80 _).bind fun _ => spares_blockIoFlags

theorem spares_blockOut (down : Bool) : Spares68k (blockOut down) :=
  spares_z80Regs.bind fun _ => (spares_loadZ80 _).bind fun _ => (spares_setZ80 _).bind fun _ =>
    spares_z80Regs.bind fun _ => (spares_outPort _ _).bind fun _ => (spares_setZ80 _).bind fun _ => spares_blockIoFlags

theorem spares_blockIoRepeat {once : Op Unit} (h : Spares68k once) (ipc : Word) : Spares68k (blockIoRepeat once ipc) :=
  h.bind fun _ => spares_z80Regs.bind fun _ => spares_repeatIf ipc _

/-! ### Outcomes -/

/-- Where the outcome is a next state, M68K's own stands in it as in `s`. -/
def Leaves68k (s : State) (x : Host.Outcome State Fault Refusal) : Prop := ∀ t, x = .next t → own68k t = own68k s

theorem leaves_next {s t : State} (h : own68k t = own68k s) : Leaves68k s (.next t) := by
  intro u hu
  cases hu
  exact h

theorem leaves_fault (s : State) (f : Fault) : Leaves68k s (.fault f) := fun _ h => nomatch h

theorem leaves_refused (s : State) (r : Refusal) : Leaves68k s (.refused r) := fun _ h => nomatch h

theorem leaves_settleZ80 {s : State} {x : Host.Outcome State Fault Refusal} (h : Leaves68k s x) :
    Leaves68k s (settleZ80 s x) := by
  cases x with
  | next t => exact h
  | fault f => exact leaves_next rfl
  | refused r => exact leaves_next rfl

/-- Z80 begins again from its own first registers (log 4). -/
theorem own68k_startZ80 (s : State) : own68k s.startZ80.st = own68k s := by
  rw [State.startZ80]
  cases s.waitZ80 <;> rfl

theorem leaves_finishZ80_error {s : State} {c : Ctx} (act : ActZ80) (e : Stop) (h : own68k c.st = own68k s) :
    Leaves68k s (finishZ80 act s (.error e c)) := by
  cases e with
  | wait => exact leaves_next h
  | ended => exact leaves_next h
  | fault f => exact leaves_fault s f
  | refused r => exact leaves_refused s r

theorem leaves_finishZ80 {x : Op Unit} (act : ActZ80) (s : State) (h : Spares68k x) :
    Leaves68k s (finishZ80 act s (x s.startZ80)) := by
  cases hc : x s.startZ80 with
  | ok a c => exact leaves_next ((h.of_ok hc).trans (own68k_startZ80 s))
  | error e c => exact leaves_finishZ80_error act e ((h.of_error hc).trans (own68k_startZ80 s))

theorem leaves_runZ80 {i : Instr} {rule : Word → Op (List Nat)} (s : State) (h : ∀ ipc, Spares68k (rule ipc)) :
    Leaves68k s (runZ80 i rule s) :=
  leaves_finishZ80 (.exec i) s <|
    spares_z80Regs.bind fun z => (spares_setZ80 _).bind fun _ => (h z.pc).bind fun _ => spares_setZ80 _

theorem leaves_refuse (r : Refusal) (s : State) : Leaves68k s (refuse r s) := leaves_refused s r

/-! ### Z80 instructions -/

/-- A term with no Z80 bytes is M68K's. -/
theorem is68k_ne_false {i : Instr} (h : encodeZ80 i = []) : i.is68k ≠ false := by
  rw [Instr.is68k, h]
  decide

theorem exec_leaves68k {i : Instr} (s : State) (h : i.is68k = false) : Leaves68k s (exec i s) := by
  cases i <;> dsimp only [exec]
  -- 46: loads, exchanges, stack and block instructions
  case zLdRR | zLdRImm | zExDeHl | zExAf | zExx | zLdIA | zLdRfA | zLdPairImm | zLdXxImm | zLdSpHl | zLdSpXx =>
    exact leaves_runZ80 s fun _ => (spares_setZ80 _).andPure
  case zLdRHl => exact leaves_runZ80 s fun _ => (spares_readOp8 _).bind fun _ => (spares_setZ80 _).andPure
  case zLdRXd => exact leaves_runZ80 s fun _ => (spares_readXd _ _).bind fun _ => (spares_setZ80 _).andPure
  case zLdHlR => exact leaves_runZ80 s fun _ => spares_z80Regs.bind fun _ => (spares_writeOp8 _ _).andPure
  case zLdXdR =>
    exact leaves_runZ80 s fun _ => (spares_xxd _ _).bind fun _ => spares_z80Regs.bind fun _ => (spares_storeZ80 _ _).andPure
  case zLdHlImm => exact leaves_runZ80 s fun _ => (spares_writeOp8 _ _).andPure
  case zLdXdImm => exact leaves_runZ80 s fun _ => (spares_xxd _ _).bind fun _ => (spares_storeZ80 _ _).andPure
  case zLdAInd =>
    exact leaves_runZ80 s fun _ => spares_z80Regs.bind fun _ => (spares_loadZ80 _).bind fun _ => (spares_setZ80 _).andPure
  case zLdANn => exact leaves_runZ80 s fun _ => (spares_loadZ80 _).bind fun _ => (spares_setZ80 _).andPure
  case zLdIndA | zLdNnA => exact leaves_runZ80 s fun _ => spares_z80Regs.bind fun _ => (spares_storeZ80 _ _).andPure
  case zExSpHl | zExSpXx =>
    exact leaves_runZ80 s fun _ => spares_z80Regs.bind fun _ => (spares_exchangeTop _).bind fun _ => (spares_setZ80 _).andPure
  case zLdAI =>
    exact leaves_runZ80 s fun _ => spares_z80Regs.bind fun _ => (spares_setZ80 _).bind fun _ => (spares_setFlags _).andPure
  case zLdARf =>
    exact leaves_runZ80 s fun _ => spares_z80Regs.bind fun _ => spares_drawZ80.bind fun _ => (spares_setZ80 _).bind fun _ =>
      (spares_setFlags _).andPure
  case zLdHlNn | zLdXxNn | zLdPairNn =>
    exact leaves_runZ80 s fun _ => (spares_load16Z80 _).bind fun _ => (spares_setZ80 _).andPure
  case zLdNnHl | zLdNnXx | zLdNnPair =>
    exact leaves_runZ80 s fun _ => spares_z80Regs.bind fun _ => (spares_store16Z80 _ _).andPure
  case zPush | zPushXx => exact leaves_runZ80 s fun _ => spares_z80Regs.bind fun _ => (spares_pushZ80 _).andPure
  case zPop | zPopXx => exact leaves_runZ80 s fun _ => spares_popZ80.bind fun _ => (spares_setZ80 _).andPure
  case zLdi | zLdd => exact leaves_runZ80 s fun _ => (spares_blockTransfer _).andPure
  case zLdir | zLddr => exact leaves_runZ80 s (spares_blockTransferRepeat _)
  case zCpi | zCpd => exact leaves_runZ80 s fun _ => (spares_blockCompare _).andPure
  case zCpir | zCpdr => exact leaves_runZ80 s (spares_blockCompareRepeat _)
  -- 47: arithmetic, logic, rotates and bit operations
  case zAddR | zAdcR | zSubR | zSbcR | zAndR | zXorR | zOrR | zCpR =>
    exact leaves_runZ80 s fun _ => (spares_readOp8 _).bind (spares_accumulate _)
  case zAddN | zAdcN | zSubN | zSbcN | zAndN | zXorN | zOrN | zCpN => exact leaves_runZ80 s fun _ => spares_accumulate _ _
  case zAddXd | zAdcXd | zSubXd | zSbcXd | zAndXd | zXorXd | zOrXd | zCpXd =>
    exact leaves_runZ80 s fun _ => (spares_readXd _ _).bind (spares_accumulate _)
  case zIncR => exact leaves_runZ80 s fun _ => (spares_updateOp8 _ spares_incValue).andPure
  case zIncXd => exact leaves_runZ80 s fun _ => (spares_updateXd _ _ spares_incValue).andPure
  case zDecR => exact leaves_runZ80 s fun _ => (spares_updateOp8 _ spares_decValue).andPure
  case zDecXd => exact leaves_runZ80 s fun _ => (spares_updateXd _ _ spares_decValue).andPure
  case zCpl =>
    exact leaves_runZ80 s fun _ => spares_getFlags.bind fun _ => (spares_setZ80 _).bind fun _ => (spares_setFlags _).andPure
  case zCcf | zScf => exact leaves_runZ80 s fun _ => spares_getFlags.bind fun _ => (spares_setFlags _).andPure
  case zNeg | zAddHl | zAdcHl | zSbcHl | zAddXx =>
    exact leaves_runZ80 s fun _ => spares_z80Regs.bind fun _ => (spares_setZ80 _).bind fun _ => (spares_setFlags _).andPure
  case zIncPair | zDecPair | zIncXx | zDecXx => exact leaves_runZ80 s fun _ => (spares_setZ80 _).andPure
  case zRlca | zRla | zRrca | zRra => exact leaves_runZ80 s fun _ => spares_rotateA _
  case zRlc | zRrc | zRl | zRr | zSla | zSra | zSrl =>
    exact leaves_runZ80 s fun _ => (spares_updateOp8 _ (spares_rotateValue _)).andPure
  case zRlcXd | zRrcXd | zRlXd | zRrXd | zSlaXd | zSraXd | zSrlXd =>
    exact leaves_runZ80 s fun _ => (spares_updateXd _ _ (spares_rotateValue _)).andPure
  case zRld | zRrd => exact leaves_runZ80 s fun _ => spares_rotateDigit _ _
  case zBit => exact leaves_runZ80 s fun _ => (spares_readOp8 _).bind (spares_bitValue _)
  case zBitXd => exact leaves_runZ80 s fun _ => (spares_readXd _ _).bind (spares_bitValue _)
  case zSet | zRes => exact leaves_runZ80 s fun _ => (spares_updateOp8 _ fun _ => spares_pure _).andPure
  case zSetXd | zResXd => exact leaves_runZ80 s fun _ => (spares_updateXd _ _ fun _ => spares_pure _).andPure
  -- 48: jumps, calls, ports and CPU control
  case zJp | zJr => exact leaves_runZ80 s fun _ => (spares_jumpZ80 _).andPure
  case zJpCc | zJrCc =>
    exact leaves_runZ80 s fun _ => spares_getFlags.bind fun _ => (spares_jumpZ80 _).andPure.ite (spares_pure _)
  case zJpHl | zJpXx => exact leaves_runZ80 s fun _ => spares_z80Regs.bind fun _ => (spares_jumpZ80 _).andPure
  case zDjnz =>
    exact leaves_runZ80 s fun _ => (spares_setZ80 _).bind fun _ => spares_z80Regs.bind fun _ =>
      (spares_jumpZ80 _).andPure.ite (spares_pure _)
  case zCall | zRst => exact leaves_runZ80 s fun _ => (spares_callZ80 _).andPure
  case zCallCc =>
    exact leaves_runZ80 s fun _ => spares_getFlags.bind fun _ => (spares_callZ80 _).andPure.ite (spares_pure _)
  case zRet => exact leaves_runZ80 s fun _ => spares_returnZ80.andPure
  case zRetCc => exact leaves_runZ80 s fun _ => spares_getFlags.bind fun _ => spares_returnZ80.andPure.ite (spares_pure _)
  case zReti =>
    exact leaves_runZ80 s fun _ => spares_returnZ80.bind fun _ => (spares_setZ80 _).bind fun _ => (spares_record _).andPure
  case zRetn => exact leaves_runZ80 s fun _ => spares_returnZ80.bind fun _ => (spares_setZ80 _).andPure
  case zInAN =>
    exact leaves_runZ80 s fun _ => spares_z80Regs.bind fun _ => (spares_inPort _).bind fun _ => (spares_setZ80 _).andPure
  case zInRC =>
    exact leaves_runZ80 s fun _ => spares_z80Regs.bind fun _ => (spares_inPort _).bind fun _ => (spares_setZ80 _).bind fun _ =>
      (spares_setFlags _).andPure
  case zOutNA | zOutCR => exact leaves_runZ80 s fun _ => spares_z80Regs.bind fun _ => (spares_outPort _ _).andPure
  case zIni | zInd => exact leaves_runZ80 s fun _ => (spares_blockIn _).andPure
  case zInir | zIndr => exact leaves_runZ80 s (spares_blockIoRepeat (spares_blockIn _))
  case zOuti | zOutd => exact leaves_runZ80 s fun _ => (spares_blockOut _).andPure
  case zOtir | zOtdr => exact leaves_runZ80 s (spares_blockIoRepeat (spares_blockOut _))
  case zNop => exact leaves_runZ80 s fun _ => spares_pure _
  case zHalt | zDi | zEi | zIm0 | zIm1 | zIm2 => exact leaves_runZ80 s fun _ => (spares_setZ80 _).andPure
  -- refused on every path
  case zDaa | zCbPrefix | zEdPrefix | zDdPrefix | zFdPrefix | zDdcbPrefix => exact leaves_refuse _ s
  -- the M68K instructions
  all_goals exact absurd h (is68k_ne_false rfl)

/-! ### What Z80 fetches is an instruction of its own -/

theorem buildBase_isZ80 (t : TagZ80) (op : Byte) (bs : List Byte) : (buildBase t op bs).1.is68k = false := by
  cases t <;> rfl

theorem buildCb_isZ80 (t : TagZ80) (op : Byte) (bs : List Byte) : (buildCb t op bs).1.is68k = false := by
  cases t <;> rfl

theorem buildEd_isZ80 (t : TagZ80) (op : Byte) (bs : List Byte) : (buildEd t op bs).1.is68k = false := by
  cases t <;> rfl

theorem xxPrefix_isZ80 (x : Idx) (op : Byte) : (xxPrefix x op).is68k = false := by
  cases x <;> rfl

theorem buildXx_isZ80 (x : Idx) (t : TagZ80) (op : Byte) (bs : List Byte) : (buildXx x t op bs).1.is68k = false := by
  cases x <;> cases t <;> rfl

theorem buildXxcb_isZ80 (x : Idx) (d : Byte) (t : TagZ80) (op : Byte) (bs : List Byte) :
    (buildXxcb x d t op bs).1.is68k = false := by
  cases t <;> rfl

theorem decodeXx_isZ80 (x : Idx) (bs : List Byte) : (decodeXx x bs).1.is68k = false := by
  simp only [decodeXx]
  split
  · split
    · exact buildXxcb_isZ80 _ _ _ _ _
    · rfl
  · split
    · exact buildXx_isZ80 _ _ _ _
    · exact xxPrefix_isZ80 _ _

theorem decodeZ80_isZ80 (bs : List Byte) : (decodeZ80 bs).1.is68k = false := by
  simp only [decodeZ80]
  split
  · split
    · exact buildCb_isZ80 _ _ _
    · rfl
  split
  · split
    · exact buildEd_isZ80 _ _ _
    · rfl
  split
  · exact decodeXx_isZ80 _ _
  split
  · exact decodeXx_isZ80 _ _
  split
  · exact buildBase_isZ80 _ _ _
  · rfl

theorem spares_fetch8 : Spares68k fetch8 :=
  spares_z80Regs.bind fun _ => (spares_loadZ80 _).bind fun _ => (spares_setZ80 _).andPure

theorem spares_fetchBytes (k : Nat) (bs : List Byte) : Spares68k (fetchBytes k bs) := by
  induction k generalizing bs with
  | zero => exact spares_pure bs
  | succ k ih => exact (spares_pure bs).ite (spares_fetch8.bind fun _ => ih _)

theorem spares_fetchInstrZ80 : Spares68k fetchInstrZ80 :=
  spares_fetch8.bind fun _ => (spares_fetchBytes 3 _).andPure

/-- A value that ends a computation comes from its last part. -/
theorem exists_ok_of_bind_ok {α β : Type} {x : Op α} {f : α → Op β} {b : β} {c d : Ctx} (h : (x >>= f) c = .ok b d) :
    ∃ a c', f a c' = .ok b d := by
  simp only [bind, EStateM.bind] at h
  split at h
  · exact ⟨_, _, h⟩
  · cases h

theorem fetchInstrZ80_isZ80 {i : Instr} {c d : Ctx} (h : fetchInstrZ80 c = .ok i d) : i.is68k = false := by
  obtain ⟨b, c1, h⟩ := exists_ok_of_bind_ok h
  obtain ⟨bs, c2, h⟩ := exists_ok_of_bind_ok h
  cases h
  exact decodeZ80_isZ80 bs

/-! ### Z80's turn -/

theorem fetchExecZ80_ok {s : State} {i : Instr} {c : Ctx} (h : fetchInstrZ80 s.startZ80 = .ok i c) :
    fetchExecZ80 s = exec i { c.st with z80 := s.startZ80.st.z80 } := by
  rw [fetchExecZ80, h]

theorem fetchExecZ80_error {s : State} {e : Stop} {c : Ctx} (h : fetchInstrZ80 s.startZ80 = .error e c) :
    fetchExecZ80 s = finishZ80 .fetch s (.error e c) := by
  rw [fetchExecZ80, h]
  cases e <;> rfl

theorem leaves_fetchExecZ80 (s : State) : Leaves68k s (fetchExecZ80 s) := by
  cases hc : fetchInstrZ80 s.startZ80 with
  | ok i c =>
    have fetched : own68k c.st = own68k s := (spares_fetchInstrZ80.of_ok hc).trans (own68k_startZ80 s)
    rw [fetchExecZ80_ok hc]
    exact fun t ht => (exec_leaves68k _ (fetchInstrZ80_isZ80 hc) t ht).trans fetched
  | error e c =>
    rw [fetchExecZ80_error hc]
    exact leaves_finishZ80_error .fetch e ((spares_fetchInstrZ80.of_error hc).trans (own68k_startZ80 s))

theorem leaves_enterInterruptZ80 (s : State) : Leaves68k s (enterInterruptZ80 s) :=
  leaves_finishZ80 .irq s <| spares_z80Regs.bind fun z =>
    have accept := (spares_setZ80 _).bind fun _ => (spares_pushZ80 z.pc).bind fun _ =>
      (spares_setZ80 _).bind fun _ => spares_setZ80 _
    ((spares_stop _).bind fun _ => accept).ite accept

theorem leaves_boundaryZ80 (s : State) : Leaves68k s (boundaryZ80 s) := by
  simp only [boundaryZ80]
  split
  · exact leaves_next rfl
  split
  · exact leaves_next rfl
  split
  · exact leaves_settleZ80 (leaves_enterInterruptZ80 _)
  split
  · exact leaves_next rfl
  · exact leaves_settleZ80 (leaves_fetchExecZ80 _)

theorem leaves_resumeZ80 {s : State} {w : WaitZ80} (h : ∀ i, w.act = .exec i → i.is68k = false) :
    Leaves68k s (resumeZ80 w s) := by
  refine leaves_settleZ80 ?_
  cases ha : w.act with
  | fetch => exact leaves_fetchExecZ80 (s.answeredZ80 w)
  | exec i => exact exec_leaves68k (s.answeredZ80 w) (h i ha)
  | irq => exact leaves_enterInterruptZ80 (s.answeredZ80 w)

/-- A mark ends an agent's turn with its fault or its refusal (log 14). -/
theorem dead_ne_next {s : State} {ag : Agent} {x : Host.Outcome State Fault Refusal} (h : s.dead ag = some x) (t : State) :
    x ≠ .next t := by
  rw [State.dead] at h
  split at h
  · cases h; simp
  · split at h
    · cases h; simp
    · cases h

theorem leaves_turnZ80 {s : State} (hi : s.Inv) : Leaves68k s (turnZ80 s) := by
  rw [turnZ80]
  cases hd : s.dead .z80 with
  | some x => exact fun t ht => absurd ht (dead_ne_next hd t)
  | none =>
    cases hw : s.waitZ80 with
    | none => exact leaves_boundaryZ80 s
    | some w =>
      dsimp only
      split
      · exact leaves_resumeZ80 fun i => hi.actZ80 w i hw
      · exact leaves_next rfl

/-! ### OWNER's turns -/

theorem leaves_ownerTurn {s : State} {f : State → Host.Outcome State Fault Refusal} (h : Leaves68k s (f s)) :
    Leaves68k s (ownerTurn f s) := by
  rw [ownerTurn]
  cases hd : s.dead .owner with
  | some x => exact fun t ht => absurd ht (dead_ne_next hd t)
  | none => exact h

/-- An M68K at a boundary has no transaction to serve (20 R154). -/
theorem leaves_service68k {s : State} (hi : s.Inv) (hw : s.ready68k) : Leaves68k s (service68k s) := by
  have hop : s.bus.mb68k.op = .none := by
    by_contra hp
    exact hi.pending68k hp hw
  rw [service68k, if_pos (.inl hop)]
  exact leaves_next rfl

theorem own68k_ownerAccessZ80 {s : State} {m : Mailbox 16} {x : Long × State} (h : ownerAccessZ80 s m = .ok x) :
    own68k x.2 = own68k s := by
  rw [ownerAccessZ80] at h
  split at h
  · cases h; exact own68k_transact m (portAccess_spares68k s m.addr)
  · cases h; exact own68k_transact m (portAccess_spares68k s m.addr)
  · cases hp : placeZ80 s.launch m.addr with
    | none => simp [hp] at h
    | some p =>
      cases hr : accessAtZ80 s m.addr p with
      | error f => simp [hp, hr, Except.map] at h
      | ok r =>
        simp only [hp, hr, Except.map, Except.ok.injEq] at h
        exact h ▸ own68k_transact m (accessAtZ80_spares68k hr)

theorem leaves_serviceZ80 (s : State) : Leaves68k s (serviceZ80 s) := by
  rw [serviceZ80]
  split
  · exact leaves_next rfl
  · cases ha : ownerAccessZ80 s s.bus.mbZ80 with
    | error f => exact leaves_settleZ80 (leaves_fault s f)
    | ok x => exact leaves_next (own68k_ownerAccessZ80 ha)

theorem leaves_postInt68k (level : Nat) (s : State) : Leaves68k s (postInt68k level s) := by
  rw [postInt68k]
  split
  · exact leaves_next rfl
  · exact leaves_next rfl

theorem leaves_postIntZ80 (level : Nat) (s : State) : Leaves68k s (postIntZ80 level s) := leaves_next rfl

/-! ### The halt -/

/-- A halted M68K only counts idle time, whatever is posted (60 R711, R713). -/
theorem turn68k_halted {s : State} {r : HaltReason} (hr : s.m68k.run = .halted r) (hd : s.dead .m68k = none)
    (hw : s.ready68k) : turn68k s = .next (s.mapM68k fun m => { m with cyc := m.cyc + Config.idleQuantum68k }) := by
  simp only [turn68k, hd, show s.wait68k = none from hw, boundary68k, hr]

/-- Choosing the next turn changes only what says whose turn it is (log 2). -/
theorem nextTurn_state (s : State) :
    ∃ sch n due, s.nextTurn.2 = { s with schedule := sch, turns := n, fairDue := due } := by
  rw [State.nextTurn]
  split
  · exact ⟨_, _, _, rfl⟩
  split
  · exact ⟨_, _, _, rfl⟩
  split
  · exact ⟨_, _, _, rfl⟩
  · exact ⟨_, _, _, rfl⟩

/-- No turn that can be taken while M68K is halted at a boundary changes more of M68K than its counter. -/
theorem takeTurn_halted {s t : State} {r : HaltReason} (n : Turn) (hi : s.Inv) (hr : s.m68k.run = .halted r)
    (hw : s.ready68k) (h : takeTurn n s = .next t) : t.ready68k ∧ t.m68k = { s.m68k with cyc := t.m68k.cyc } := by
  have others (hl : Leaves68k s (takeTurn n s)) : t.ready68k ∧ t.m68k = { s.m68k with cyc := t.m68k.cyc } := by
    obtain ⟨hm, ht⟩ := own68k_eq_iff.mp (hl t h)
    exact ⟨ht.trans hw, by rw [hm]⟩
  cases n with
  | m68k =>
    rw [takeTurn] at h
    cases hd : s.dead .m68k with
    | some x =>
      rw [turn68k, hd] at h
      exact absurd h (dead_ne_next hd t)
    | none =>
      rw [turn68k_halted hr hd hw] at h
      cases h
      exact ⟨hw, rfl⟩
  | z80 => exact others (leaves_turnZ80 hi)
  | service68k => exact others (leaves_ownerTurn (leaves_service68k hi hw))
  | serviceZ80 => exact others (leaves_ownerTurn (leaves_serviceZ80 s))
  | postInt68k level => exact others (leaves_ownerTurn (leaves_postInt68k level s))
  | postIntZ80 level => exact others (leaves_ownerTurn (leaves_postIntZ80 level s))

/-- Settles O51: M68K's own turn at a halt only counts idle time, and no other turn touches M68K's registers or its wait. -/
theorem haltIsTerminal : Obligations.HaltIsTerminal := by
  unfold Obligations.HaltIsTerminal
  refine ⟨fun s r hr hd hw => turn68k_halted hr hd hw, fun s t r hi hr hw h => ?_⟩
  obtain ⟨sch, n, due, hu⟩ := nextTurn_state s
  rw [step, hu] at h
  exact takeTurn_halted (s := { s with schedule := sch, turns := n, fairDue := due }) _ { hi with } hr hw h

end Sys2Proof.Laws
end

section
/-! The fields of an operation word and of an opcode byte, and which row of a table the fixed bits of a word select: the layer that
the round trips of the decoders stand on (30 R180 to R195, R220 to R231). -/

namespace Sys2Proof.Laws

open Sys2Proof.Machine

/-! ### Fields of a concatenation -/

/-- The bits of `w` from `s` up are `v`. -/
def FieldAt {n l : Nat} (w : BitVec n) (s : Nat) (v : BitVec l) : Prop := w.extractLsb' s l = v

theorem fieldAt_all {n : Nat} (v : BitVec n) : FieldAt v 0 v := BitVec.extractLsb'_eq_self

theorem fieldAt_last {n l : Nat} (x : BitVec n) (v : BitVec l) : FieldAt (x ++ v) 0 v := BitVec.extractLsb'_append_eq_right

/-- A field stands higher by the width of what is appended. -/
theorem FieldAt.above {n l k s : Nat} {x : BitVec n} {v : BitVec l} (h : FieldAt x s v) (y : BitVec k) :
    FieldAt (x ++ y) (s + k) v := by
  rw [FieldAt, BitVec.extractLsb'_append_eq_of_le (Nat.le_add_left k s), Nat.add_sub_cancel]
  exact h

/-- A field of one bit, as that bit. -/
theorem FieldAt.getLsbD {n s : Nat} {w : BitVec n} {v : BitVec 1} (h : FieldAt w s v) : w.getLsbD s = v.getLsbD 0 := by
  rw [← h, BitVec.getLsbD_extractLsb']
  simp

/-! ### Fixed bits of a concatenation -/

/-- The bits of `w` under `mask` are `bits`. -/
def HasBits {n : Nat} (w mask bits : BitVec n) : Prop := w &&& mask = bits

theorem hasBits_all {n : Nat} (v : BitVec n) : HasBits v (BitVec.allOnes n) v := BitVec.and_allOnes

/-- A field whose value is known. -/
theorem HasBits.known {n k : Nat} {w mask bits : BitVec n} (h : HasBits w mask bits) (v : BitVec k) :
    HasBits (w ++ v) (mask ++ BitVec.allOnes k) (bits ++ v) := by
  rw [HasBits, BitVec.and_append, BitVec.and_allOnes, show w &&& mask = bits from h]

/-- A field of any value. -/
theorem HasBits.free {n k : Nat} {w mask bits : BitVec n} (h : HasBits w mask bits) (v : BitVec k) :
    HasBits (w ++ v) (mask ++ 0#k) (bits ++ 0#k) := by
  rw [HasBits, BitVec.and_append, BitVec.and_zero, show w &&& mask = bits from h]

/-- Under a part of the mask the bits are that part of the bits. -/
theorem HasBits.part {n : Nat} {w mask bits m : BitVec n} (h : HasBits w mask bits) (hm : mask &&& m = m) :
    w &&& m = bits &&& m := by
  rw [← hm, ← BitVec.and_assoc, show w &&& mask = bits from h, hm]

/-! ### Which row of the M68K table covers a word -/

/-- All rows of the M68K table (30 R195). -/
def rows68k : List Row68k :=
  line0 ++ line1 ++ line2 ++ line3 ++ line4 ++ line5 ++ line6 ++ line7 ++ line8 ++ line9 ++ lineA ++ lineB ++ lineC ++
    lineD ++ lineE ++ lineF

/-- The row of a tag. -/
def rowOf (t : Tag68k) : Option Row68k := rows68k.find? (·.tag = t)

/-- No word is covered by both rows: a fixed bit differs, or one fixes the size, the EA field, the destination or the condition to
what the other does not allow (30 R181). -/
def rowsApart (r q : Row68k) : Bool :=
  (r.mask &&& q.mask) &&& (r.match_ ^^^ q.match_) ≠ 0#16
    || (r.sized && fieldSize q.mask = 3#2 && fieldSize q.match_ = 3#2)
    || (q.sized && fieldSize r.mask = 3#2 && fieldSize r.match_ = 3#2)
    || decide (∀ m n : BitVec 3, m &&& fieldMode3 r.mask = fieldMode3 r.match_ → n &&& fieldReg0 r.mask = fieldReg0 r.match_ →
        m &&& fieldMode3 q.mask = fieldMode3 q.match_ → n &&& fieldReg0 q.mask = fieldReg0 q.match_ →
        eaAdmitted r.ea m n = true → eaAdmitted q.ea m n = false)
    || (fieldMode6 q.mask = 7#3 && decide (∀ n : BitVec 3, eaAdmitted r.dst (fieldMode6 q.match_) n = false))
    || (q.condField && fieldCond r.mask = 15#4 && fieldCond r.match_ < 2#4)

/-- A field of the bits under a mask. -/
theorem field_of_mask {n : Nat} {w mask bits : BitVec n} (h : w &&& mask = bits) (s l : Nat) :
    w.extractLsb' s l &&& mask.extractLsb' s l = bits.extractLsb' s l := by
  rw [← h, BitVec.extractLsb'_and]

/-- A field that the mask holds whole. -/
theorem field_of_whole_mask {n s l : Nat} {w mask bits : BitVec n} (h : w &&& mask = bits)
    (hm : mask.extractLsb' s l = BitVec.allOnes l) : w.extractLsb' s l = bits.extractLsb' s l := by
  rw [← field_of_mask h, hm, BitVec.and_allOnes]

/-- What a row that covers a word says of it, one part at a time (30 R181). -/
theorem covers_iff {r : Row68k} {w : Word} : r.covers w = true ↔
    w &&& r.mask = r.match_ ∧ (r.sized = true → fieldSize w ≠ 3#2) ∧ eaAdmitted r.ea (fieldMode3 w) (fieldReg0 w) = true ∧
      eaAdmitted r.dst (fieldMode6 w) (fieldReg9 w) = true ∧ anAdmitted r.anExcluded w = true ∧
      (r.condField = true → 2#4 ≤ fieldCond w) := by
  simp only [Row68k.covers, Bool.and_eq_true, beq_iff_eq, Bool.or_eq_true, Bool.not_eq_true', decide_eq_true_eq, and_assoc,
    ← Bool.not_eq_true, ← imp_iff_not_or]

/-- Rows that are apart cover no word in common. -/
theorem not_covers_of_apart {r q : Row68k} {w : Word} (h : rowsApart r q = true) (hr : r.covers w = true) :
    q.covers w = false := by
  rw [Bool.eq_false_iff]
  intro hq
  obtain ⟨rbits, rsize, rea, rdst, -, -⟩ := covers_iff.1 hr
  obtain ⟨qbits, qsize, qea, -, -, qcond⟩ := covers_iff.1 hq
  simp only [rowsApart, Bool.or_eq_true, Bool.and_eq_true, decide_eq_true_eq, or_assoc, and_assoc] at h
  obtain h | ⟨hs, hm, hb⟩ | ⟨hs, hm, hb⟩ | h | ⟨hm, h⟩ | ⟨hc, hm, hb⟩ := h
  · refine h ?_
    rw [← rbits, ← qbits]
    refine BitVec.eq_of_getLsbD_eq fun i _ => ?_
    simp only [BitVec.getLsbD_and, BitVec.getLsbD_xor, BitVec.getLsbD_zero]
    cases w.getLsbD i <;> cases r.mask.getLsbD i <;> cases q.mask.getLsbD i <;> rfl
  · exact rsize hs ((field_of_whole_mask qbits hm).trans hb)
  · exact qsize hs ((field_of_whole_mask rbits hm).trans hb)
  · have := h (fieldMode3 w) (fieldReg0 w) (field_of_mask rbits _ _) (field_of_mask rbits _ _) (field_of_mask qbits _ _)
      (field_of_mask qbits _ _) rea
    simp [qea] at this
  · have := h (fieldReg9 w)
    rw [← show fieldMode6 w = fieldMode6 q.match_ from field_of_whole_mask qbits hm, rdst] at this
    cases this
  · have := qcond hc
    rw [show fieldCond w = fieldCond r.match_ from field_of_whole_mask rbits hm] at this
    exact absurd hb (BitVec.not_lt.2 this)

/-- The rows of a line are pairwise apart: the table has no order (30 R183). -/
theorem lines_apart : ∀ k : BitVec 4, (line68k (k ++ 0#12)).Pairwise fun r q => rowsApart r q = true := by decide +kernel

/-- Each row stands in the line that its bits 15:12, which it fixes, select (30 R195). -/
theorem rows_in_lines : ∀ r ∈ rows68k, r ∈ line68k r.match_ ∧ r.mask.extractLsb' 12 4 = 15#4 := by decide +kernel

/-- Of pairwise apart predicates the one that holds is the first. -/
theorem find?_eq_of_apart {α : Type} {p : α → Bool} {R : α → α → Prop} {l : List α} {a : α} (hl : l.Pairwise R)
    (hR : ∀ x y, R x y → p x = true → p y = false) (ha : a ∈ l) (hp : p a = true) : l.find? p = some a := by
  induction l with
  | nil => cases ha
  | cons x l ih =>
    obtain ⟨hx, hl⟩ := List.pairwise_cons.1 hl
    cases hpx : p x with
    | true =>
      rcases List.mem_cons.1 ha with rfl | ha
      · rw [List.find?_cons_of_pos hpx]
      · rw [hR x a (hx a ha) hpx] at hp
        cases hp
    | false =>
      rcases List.mem_cons.1 ha with rfl | ha
      · rw [hp] at hpx
        cases hpx
      · rw [List.find?_cons_of_neg (by simp [hpx]), ih hl ha]

theorem line68k_congr {w v : Word} (h : w.extractLsb' 12 4 = v.extractLsb' 12 4) : line68k w = line68k v := by
  rw [line68k, line68k, h]

/-- A word has the tag of the row that covers it. -/
theorem tag68k_of_covers {t : Tag68k} {r : Row68k} {w : Word} (hr : rowOf t = some r) (hc : r.covers w = true) : tag68k w = t := by
  have hmem : r ∈ rows68k := List.mem_of_find?_eq_some hr
  obtain ⟨hline, hm⟩ := rows_in_lines r hmem
  have hw : w.extractLsb' 12 4 = r.match_.extractLsb' 12 4 := field_of_whole_mask (covers_iff.1 hc).1 hm
  have hl : line68k w = line68k (w.extractLsb' 12 4 ++ 0#12) := line68k_congr ((fieldAt_all _).above 0#12).symm
  have hf : (line68k w).find? (·.covers w) = some r :=
    find?_eq_of_apart (hl ▸ lines_apart _) (fun x y h hx => not_covers_of_apart h hx) (line68k_congr hw ▸ hline) hc
  rw [tag68k, hf]
  exact of_decide_eq_true (List.find?_some hr :)

/-- A word with no row is illegal (30 R184). -/
theorem tag68k_of_noRow {w : Word} (h : noRow68k w = true) : tag68k w = .illegal := by
  rw [noRow68k, Bool.not_eq_true', List.any_eq_false] at h
  rw [tag68k, List.find?_eq_none.2 h]
  rfl

end Sys2Proof.Laws
end

section
/-! The round trip of the M68K encoding: the operands and the fields that each layout of an operation word holds, a lemma for each
layout, and the instructions (30 R185 to R195). -/

namespace Sys2Proof.Laws

open Sys2Proof.Machine

/-! ### The operands of an encoding -/

theorem size_code_ne_three (sz : Size) : sz.code ≠ 3#2 := by cases sz <;> decide

theorem eaModeOf_ea (ea : Ea) : eaModeOf ea.modeBits ea.regBits = some ea.kind := by cases ea <;> rfl

theorem eaAdmitted_of_kind {c : EaClass} {ea : Ea} (h : c.has ea.kind = true) :
    eaAdmitted (some c) ea.modeBits ea.regBits = true := by
  simp only [eaAdmitted, eaModeOf_ea, h]

theorem modeBits_ne_one {ea : Ea} (h : ea.kind ≠ .an) : ea.modeBits ≠ 1#3 := by
  cases ea with
  | an n => exact absurd rfl h
  | _ => exact fun e => nomatch congrArg BitVec.toNat e

/-- The two words of a long, put together again (30 R189). -/
theorem long_of_words (v : Long) : v.extractLsb' 16 16 ++ v.extractLsb' 0 16 = v :=
  (BitVec.extractLsb'_append_extractLsb'_eq_extractLsb' rfl).trans BitVec.extractLsb'_eq_self

/-- The one word of an immediate that fits it (30 R189). -/
theorem word_of_fits {v : Long} (h : v.toNat < 65536) : (v.extractLsb' 0 16).setWidth 32 = v := by
  refine BitVec.eq_of_toNat_eq ?_
  simp only [BitVec.toNat_setWidth, BitVec.extractLsb'_toNat, Nat.shiftRight_zero]
  omega

theorem takeImm_immExt {sz : Size} {v : Long} (h : immFits sz v = true) (ws : List Word) :
    takeImm sz (immExt sz v ++ ws) = (v, ws) := by
  cases sz with
  | l => exact congrArg (·, ws) (long_of_words v)
  | b | w =>
    have hv : v.toNat < 65536 := by simpa [immFits] using h
    exact congrArg (·, ws) (word_of_fits hv)

theorem takeEa_ext {c : EaClass} {sz : Size} {ea : Ea} (h : eaOk c sz ea = true) (ws : List Word) :
    takeEa sz ea.modeBits ea.regBits (ea.ext sz ++ ws) = some (ea, ws) := by
  rw [takeEa, eaModeOf_ea]
  cases ea with
  | absL a => exact congrArg (fun a => some (Ea.absL a, ws)) (long_of_words a)
  | imm v =>
    have hv : immFits sz v = true := ((Bool.and_eq_true _ _).mp h).2
    simp only [Ea.kind, Option.map_some, Ea.ext, takeImm_immExt hv]
  | _ => rfl

theorem has_of_eaOk {c : EaClass} {sz : Size} {ea : Ea} (h : eaOk c sz ea = true) : c.has ea.kind = true :=
  ((Bool.and_eq_true _ _).mp h).1

/-! ### The fields of an operation word -/

/-- Bits 5:0 of the word are the EA field of the operand (30 R186). -/
def HasEa (w : Word) (ea : Ea) : Prop := fieldMode3 w = ea.modeBits ∧ fieldReg0 w = ea.regBits

theorem hasEa_last (x : BitVec 10) (ea : Ea) : HasEa (x ++ ea.modeBits ++ ea.regBits) ea :=
  ⟨(fieldAt_last x ea.modeBits).above ea.regBits, fieldAt_last (x ++ ea.modeBits) ea.regBits⟩

theorem HasEa.admitted {c : EaClass} {sz : Size} {ea : Ea} {w : Word} (hw : HasEa w ea) (h : eaOk c sz ea = true) :
    eaAdmitted (some c) (fieldMode3 w) (fieldReg0 w) = true := by
  obtain ⟨hm, hn⟩ := hw
  rw [hm, hn]
  exact eaAdmitted_of_kind (has_of_eaOk h)

/-- An operand that ends the extension words. -/
theorem HasEa.withEa {c : EaClass} {sz : Size} {ea : Ea} {w : Word} (hw : HasEa w ea) (h : eaOk c sz ea = true)
    (ws : List Word) (f : Ea → Instr) : withEa sz w (ea.ext sz ++ ws) f = (f ea, ws) := by
  obtain ⟨hm, hn⟩ := hw
  rw [Sys2Proof.withEa, hm, hn, takeEa_ext h]

/-- Bits 7:6 of the word are the code of the size (30 R190). -/
def HasSize (w : Word) (sz : Size) : Prop := fieldSize w = sz.code

theorem hasSize_layout (x : BitVec 8) (sz : Size) (m n : BitVec 3) : HasSize (x ++ sz.code ++ m ++ n) sz :=
  ((fieldAt_last x sz.code).above m).above n

theorem HasSize.ne_three {w : Word} {sz : Size} (h : HasSize w sz) : fieldSize w ≠ 3#2 := by
  rw [show fieldSize w = sz.code from h]
  exact size_code_ne_three sz

theorem HasSize.stdSize {w : Word} {sz : Size} (h : HasSize w sz) : stdSize w = sz := by
  rw [Sys2Proof.stdSize, show fieldSize w = sz.code from h]
  cases sz <;> rfl

/-- The rows that allow An as a source but for bytes (30 R181 (c)). -/
theorem HasSize.anAdmitted {w : Word} {sz : Size} {ea : Ea} (h : HasSize w sz) (he : HasEa w ea)
    (ha : notAnByte sz ea = true) : anAdmitted .whenByte w = true := by
  rw [notAnByte, Bool.not_eq_true', Bool.and_eq_false_iff] at ha
  rw [Sys2Proof.anAdmitted, Bool.or_eq_true, decide_eq_true_eq, decide_eq_true_eq, he.1, show fieldSize w = sz.code from h]
  rcases ha with hb | hk
  · refine .inr ?_
    cases sz with
    | b => cases hb
    | w | l => decide
  · exact .inl (modeBits_ne_one (of_decide_eq_false hk))

theorem bitSize_of_fieldAt {w : Word} {s : Nat} {sz : Size} (hb : sz ≠ .b) (h : FieldAt w s sz.isLong) : bitSize w s = sz := by
  rw [bitSize, h.getLsbD]
  cases sz with
  | b => exact absurd rfl hb
  | w | l => rfl

/-! ### One instruction -/

/-- Decoding an encoding is building the instruction of its row. -/
theorem decode68k_encode_of_row {i : Instr} {t : Tag68k} {r : Row68k} {ws : List Word} (hr : rowOf t = some r)
    (hc : r.covers (opword68k i) = true) (hb : build68k t (opword68k i) (ext68k i ++ ws) = (i, ws)) :
    decode68k (encode68k i ++ ws) = (i, ws) := by
  have ht : tag68k (opword68k i) = t := tag68k_of_covers hr hc
  rw [encode68k, List.cons_append, decode68k]
  simp only [wordAt, List.getD_cons_zero, List.drop_succ_cons, List.drop_zero, ht]
  exact hb

/-- An instruction whose extension words end with those of the operand in bits 5:0. -/
theorem decode_of_ea {i : Instr} {t : Tag68k} {r : Row68k} {c : EaClass} {sz : Size} {ea : Ea} {w : Word} {f : Ea → Instr}
    {pre ws : List Word} (hr : rowOf t = some r) (hw : opword68k i = w) (hc : r.covers w = true) (he : HasEa w ea)
    (hx : ext68k i = pre ++ ea.ext sz) (hb : ∀ l, build68k t w (pre ++ l) = withEa sz w l f) (h : eaOk c sz ea = true)
    (hi : f ea = i) : decode68k (encode68k i ++ ws) = (i, ws) := by
  subst hw
  refine decode68k_encode_of_row hr hc ?_
  rw [hx, List.append_assoc, hb, he.withEa h, hi]

/-- An instruction with no operand field: one word, or with one extension word. -/
theorem decode_of_word {i : Instr} {t : Tag68k} {r : Row68k} {w : Word} {xs ws : List Word} (hr : rowOf t = some r)
    (hw : opword68k i = w) (hx : ext68k i = xs) (hc : r.covers w = true) (hb : build68k t w (xs ++ ws) = (i, ws)) :
    decode68k (encode68k i ++ ws) = (i, ws) := by
  subst hw hx
  exact decode68k_encode_of_row hr hc hb

section Families

variable (t : Tag68k) {c : EaClass} {sz : Size} {ea : Ea} {i : Instr} {ws : List Word} (f : Ea → Instr) (pre : List Word)

/-- A head of eight bits, the size, an operand. -/
theorem decode_sized (p : BitVec 8)
    (hr : rowOf t = some { mask := 0xFF00#16, match_ := p ++ 0#2 ++ 0#3 ++ 0#3, tag := t, sized := true, ea := some c })
    (hw : opword68k i = p ++ sz.code ++ ea.modeBits ++ ea.regBits) (hx : ext68k i = pre ++ ea.ext sz)
    (hb : ∀ w l, stdSize w = sz → build68k t w (pre ++ l) = withEa sz w l f) (h : eaOk c sz ea = true) (hi : f ea = i) :
    decode68k (encode68k i ++ ws) = (i, ws) := by
  have hs := hasSize_layout p sz ea.modeBits ea.regBits
  have he := hasEa_last (p ++ sz.code) ea
  exact decode_of_ea hr hw (covers_iff.2 ⟨(((hasBits_all p).free _).free _).free _, fun _ => hs.ne_three, he.admitted h, rfl, rfl,
    nofun⟩) he hx (hb _ · hs.stdSize) h hi

/-- A head of ten bits, an operand. -/
theorem decode_headed (p : BitVec 10)
    (hr : rowOf t = some { mask := 0xFFC0#16, match_ := p ++ 0#3 ++ 0#3, tag := t, ea := some c })
    (hw : opword68k i = p ++ ea.modeBits ++ ea.regBits) (hx : ext68k i = pre ++ ea.ext sz)
    (hb : ∀ w l, build68k t w (pre ++ l) = withEa sz w l f) (h : eaOk c sz ea = true) (hi : f ea = i) :
    decode68k (encode68k i ++ ws) = (i, ws) := by
  have he := hasEa_last p ea
  exact decode_of_ea hr hw (covers_iff.2 ⟨((hasBits_all p).free _).free _, nofun, he.admitted h, rfl, rfl, nofun⟩) he hx (hb _) h hi

/-- A line, a register or number, three bits, an operand. -/
theorem decode_reg (p : BitVec 4) (k : BitVec 3) {n : BitVec 3}
    (hr : rowOf t = some { mask := 0xF1C0#16, match_ := p ++ 0#3 ++ k ++ 0#3 ++ 0#3, tag := t, ea := some c })
    (hw : opword68k i = p ++ n ++ k ++ ea.modeBits ++ ea.regBits) (hx : ext68k i = ea.ext sz)
    (hb : ∀ w l, fieldReg9 w = n → build68k t w l = withEa sz w l f) (h : eaOk c sz ea = true) (hi : f ea = i) :
    decode68k (encode68k i ++ ws) = (i, ws) := by
  have he := hasEa_last (p ++ n ++ k) ea
  exact decode_of_ea (pre := []) hr hw (covers_iff.2 ⟨((((hasBits_all p).free _).known k).free _).free _, nofun, he.admitted h, rfl,
    rfl, nofun⟩) he hx (hb _ · ((((fieldAt_last p n).above k).above _).above _)) h hi

/-- A line, a register or number, one bit, the size, an operand. -/
theorem decode_regSized (p : BitVec 4) (b : BitVec 1) (a : AnRule) {n : BitVec 3}
    (hr : rowOf t = some
      { mask := 0xF100#16, match_ := p ++ 0#3 ++ b ++ 0#2 ++ 0#3 ++ 0#3, tag := t, sized := true, ea := some c, anExcluded := a })
    (hw : opword68k i = p ++ n ++ b ++ sz.code ++ ea.modeBits ++ ea.regBits) (hx : ext68k i = ea.ext sz)
    (hb : ∀ w l, stdSize w = sz → fieldReg9 w = n → build68k t w l = withEa sz w l f) (h : eaOk c sz ea = true)
    (ha : a = .never ∨ a = .whenByte ∧ notAnByte sz ea = true) (hi : f ea = i) :
    decode68k (encode68k i ++ ws) = (i, ws) := by
  have hs := hasSize_layout (p ++ n ++ b) sz ea.modeBits ea.regBits
  have he := hasEa_last (p ++ n ++ b ++ sz.code) ea
  have hn := ((((fieldAt_last p n).above b).above sz.code).above ea.modeBits).above ea.regBits
  refine decode_of_ea (pre := []) hr hw (covers_iff.2 ⟨(((((hasBits_all p).free _).known b).free _).free _).free _,
    fun _ => hs.ne_three, he.admitted h, rfl, ?_, nofun⟩) he hx (hb _ · hs.stdSize hn) h hi
  rcases ha with rfl | ⟨rfl, ha⟩
  · rfl
  · exact hs.anAdmitted he ha

/-- A line, a register, the one-bit size, 11, an operand. -/
theorem decode_regLong (p : BitVec 4) {n : BitVec 3}
    (hr : rowOf t = some { mask := 0xF0C0#16, match_ := p ++ 0#3 ++ 0#1 ++ 3#2 ++ 0#3 ++ 0#3, tag := t, ea := some c })
    (hw : opword68k i = p ++ n ++ sz.isLong ++ 3#2 ++ ea.modeBits ++ ea.regBits) (hx : ext68k i = ea.ext sz)
    (hb : ∀ w l, bitSize w 8 = sz → fieldReg9 w = n → build68k t w l = withEa sz w l f) (h : eaOk c sz ea = true)
    (hsz : sz ≠ .b) (hi : f ea = i) : decode68k (encode68k i ++ ws) = (i, ws) := by
  have he := hasEa_last (p ++ n ++ sz.isLong ++ 3#2) ea
  have hn := ((((fieldAt_last p n).above sz.isLong).above 3#2).above ea.modeBits).above ea.regBits
  have hs := (((fieldAt_last (p ++ n) sz.isLong).above 3#2).above ea.modeBits).above ea.regBits
  exact decode_of_ea (pre := []) hr hw (covers_iff.2 ⟨(((((hasBits_all p).free _).free _).known 3#2).free _).free _, nofun,
    he.admitted h, rfl, rfl, nofun⟩) he hx (hb _ · (bitSize_of_fieldAt hsz hs) hn) h hi

/-- MOVEM: a head of nine bits, the one-bit size, an operand. -/
theorem decode_movem (p : BitVec 9)
    (hr : rowOf t = some { mask := 0xFF80#16, match_ := p ++ 0#1 ++ 0#3 ++ 0#3, tag := t, ea := some c })
    (hw : opword68k i = p ++ sz.isLong ++ ea.modeBits ++ ea.regBits) (hx : ext68k i = pre ++ ea.ext sz)
    (hb : ∀ w l, bitSize w 6 = sz → build68k t w (pre ++ l) = withEa sz w l f) (h : eaOk c sz ea = true)
    (hsz : sz ≠ .b) (hi : f ea = i) : decode68k (encode68k i ++ ws) = (i, ws) := by
  have he := hasEa_last (p ++ sz.isLong) ea
  have hs := ((fieldAt_last p sz.isLong).above ea.modeBits).above ea.regBits
  exact decode_of_ea hr hw (covers_iff.2 ⟨(((hasBits_all p).free _).free _).free _, nofun, he.admitted h, rfl, rfl, nofun⟩) he hx
    (hb _ · (bitSize_of_fieldAt hsz hs)) h hi

/-- MOVE: a line, the destination, the source. -/
theorem decode_move (p : BitVec 4) (a : AnRule) (f : Ea → Ea → Instr) {src dst : Ea}
    (hr : rowOf t = some (Row68k.mk 0xF000#16 (p ++ 0#3 ++ 0#3 ++ 0#3 ++ 0#3) false (some .all) (some .dataAlterable) a false t))
    (hw : opword68k (f src dst) = p ++ dst.regBits ++ dst.modeBits ++ src.modeBits ++ src.regBits)
    (hx : ext68k (f src dst) = src.ext sz ++ dst.ext sz) (hb : ∀ w l, build68k t w l = takeMove sz w l f)
    (hs : eaOk .all sz src = true) (hd : eaOk .dataAlterable sz dst = true) (ha : a = .never ∨ a = .always ∧ src.kind ≠ .an) :
    decode68k (encode68k (f src dst) ++ ws) = (f src dst, ws) := by
  have he := hasEa_last (p ++ dst.regBits ++ dst.modeBits) src
  have hm : fieldMode6 (p ++ dst.regBits ++ dst.modeBits ++ src.modeBits ++ src.regBits) = dst.modeBits :=
    ((fieldAt_last (p ++ dst.regBits) dst.modeBits).above _).above _
  have hn : fieldReg9 (p ++ dst.regBits ++ dst.modeBits ++ src.modeBits ++ src.regBits) = dst.regBits :=
    (((fieldAt_last p dst.regBits).above _).above _).above _
  refine decode_of_word hr hw hx (covers_iff.2 ⟨((((hasBits_all p).free _).free _).free _).free _, nofun, he.admitted hs, ?dst, ?an,
    nofun⟩) ?build
  case dst =>
    rw [hm, hn]
    exact eaAdmitted_of_kind (has_of_eaOk hd)
  case an =>
    rcases ha with rfl | ⟨rfl, ha⟩
    · rfl
    · exact decide_eq_true (he.1.trans_ne (modeBits_ne_one ha))
  case build =>
    rw [hb, takeMove, he.1, he.2, hm, hn, List.append_assoc, takeEa_ext hs]
    simp only [takeEa_ext hd]

/-- A head of thirteen bits, a register. -/
theorem decode_low (p : BitVec 13) {n : Reg} (hr : rowOf t = some { mask := 0xFFF8#16, match_ := p ++ 0#3, tag := t })
    (hw : opword68k i = p ++ n) (hx : ext68k i = pre)
    (hb : ∀ w, fieldReg0 w = n → build68k t w (pre ++ ws) = (i, ws)) : decode68k (encode68k i ++ ws) = (i, ws) :=
  decode_of_word hr hw hx (covers_iff.2 ⟨(hasBits_all p).free _, nofun, rfl, rfl, rfl, nofun⟩) (hb _ (fieldAt_last p n))

/-- A whole word. -/
theorem decode_fixed (w : Word) (hr : rowOf t = some { mask := 0xFFFF#16, match_ := w, tag := t }) (hw : opword68k i = w)
    (hx : ext68k i = pre) (hb : build68k t w (pre ++ ws) = (i, ws)) : decode68k (encode68k i ++ ws) = (i, ws) :=
  decode_of_word hr hw hx (covers_iff.2 ⟨hasBits_all w, nofun, rfl, rfl, rfl, nofun⟩) hb

/-- MOVEP: a line, a register, two bits, the one-bit size, 001, a register. -/
theorem decode_movep (k : BitVec 2) {x y : Reg} (hr : rowOf t = some { mask := 0xF1B8#16, match_ := 0#4 ++ 0#3 ++ k ++ 0#1 ++ 1#3 ++ 0#3, tag := t })
    (hw : opword68k i = 0#4 ++ x ++ k ++ sz.isLong ++ 1#3 ++ y) (hx : ext68k i = pre) (hsz : sz ≠ .b)
    (hb : ∀ w, bitSize w 6 = sz → fieldReg9 w = x → fieldReg0 w = y → build68k t w (pre ++ ws) = (i, ws)) :
    decode68k (encode68k i ++ ws) = (i, ws) := by
  have hs := ((fieldAt_last (0#4 ++ x ++ k) sz.isLong).above 1#3).above y
  exact decode_of_word hr hw hx (covers_iff.2 ⟨(((((hasBits_all 0#4).free _).known k).free _).known 1#3).free _, nofun, rfl, rfl, rfl,
    nofun⟩) (hb _ (bitSize_of_fieldAt hsz hs) (((((fieldAt_last 0#4 x).above k).above _).above 1#3).above y) (fieldAt_last _ y))

/-- A line, a register, five bits, a flag for memory, a register: ABCD and SBCD. -/
theorem decode_bcd (p : BitVec 4) {x y : Reg} {mem : Bool}
    (hr : rowOf t = some { mask := 0xF1F0#16, match_ := p ++ 0#3 ++ 0x10#5 ++ 0#1 ++ 0#3, tag := t })
    (hw : opword68k i = p ++ x ++ 0x10#5 ++ BitVec.ofBool mem ++ y) (hx : ext68k i = [])
    (hb : ∀ w, w.getLsbD 3 = mem → fieldReg9 w = x → fieldReg0 w = y → build68k t w ws = (i, ws)) :
    decode68k (encode68k i ++ ws) = (i, ws) := by
  have hm := (fieldAt_last (p ++ x ++ 0x10#5) (BitVec.ofBool mem)).above y
  exact decode_of_word hr hw hx (covers_iff.2 ⟨((((hasBits_all p).free _).known 0x10#5).free _).free _, nofun, rfl, rfl, rfl, nofun⟩)
    (hb _ (hm.getLsbD.trans (by cases mem <;> rfl)) ((((fieldAt_last p x).above _).above _).above _) (fieldAt_last _ y))

/-- A line, a register, 1, the size, 00, a flag for memory, a register: ADDX and SUBX. -/
theorem decode_extended (p : BitVec 4) {x y : Reg} {mem : Bool}
    (hr : rowOf t = some { mask := 0xF130#16, match_ := p ++ 0#3 ++ 1#1 ++ 0#2 ++ 0#2 ++ 0#1 ++ 0#3, tag := t, sized := true })
    (hw : opword68k i = p ++ x ++ 1#1 ++ sz.code ++ 0#2 ++ BitVec.ofBool mem ++ y) (hx : ext68k i = [])
    (hb : ∀ w, stdSize w = sz → w.getLsbD 3 = mem → fieldReg9 w = x → fieldReg0 w = y → build68k t w ws = (i, ws)) :
    decode68k (encode68k i ++ ws) = (i, ws) := by
  have hm := (fieldAt_last (p ++ x ++ 1#1 ++ sz.code ++ 0#2) (BitVec.ofBool mem)).above y
  have hs : HasSize (p ++ x ++ 1#1 ++ sz.code ++ 0#2 ++ BitVec.ofBool mem ++ y) sz :=
    (((fieldAt_last (p ++ x ++ 1#1) sz.code).above 0#2).above _).above y
  exact decode_of_word hr hw hx (covers_iff.2 ⟨((((((hasBits_all p).free _).known 1#1).free _).known 0#2).free _).free _,
    fun _ => hs.ne_three, rfl, rfl, rfl, nofun⟩) (hb _ hs.stdSize (hm.getLsbD.trans (by cases mem <;> rfl))
      ((((((fieldAt_last p x).above _).above _).above _).above _).above _) (fieldAt_last _ y))

/-- A line, a register, 1, five bits, a register: EXG. -/
theorem decode_exg (k : BitVec 5) {x y : Reg}
    (hr : rowOf t = some { mask := 0xF1F8#16, match_ := 12#4 ++ 0#3 ++ 1#1 ++ k ++ 0#3, tag := t })
    (hw : opword68k i = 12#4 ++ x ++ 1#1 ++ k ++ y) (hx : ext68k i = [])
    (hb : ∀ w, fieldReg9 w = x → fieldReg0 w = y → build68k t w ws = (i, ws)) : decode68k (encode68k i ++ ws) = (i, ws) :=
  decode_of_word hr hw hx (covers_iff.2 ⟨((((hasBits_all 12#4).free _).known 1#1).known k).free _, nofun, rfl, rfl, rfl, nofun⟩)
    (hb _ ((((fieldAt_last 12#4 x).above _).above _).above _) (fieldAt_last _ y))

/-- The count of a register shift (30 R194). -/
theorem countOf_of_fields {w : Word} {q : ShiftCount} (h9 : fieldReg9 w = q.field) (h5 : FieldAt w 5 q.isReg) : countOf w = q := by
  rw [countOf, h5.getLsbD, h9]
  cases q with
  | quick q => simp [ShiftCount.isReg, ShiftCount.field]
  | reg x => simp [ShiftCount.isReg, ShiftCount.field]

/-- The register shifts: line E, the count, a direction, the size, the kind of count, the kind of shift, a register. -/
theorem decode_shift (d : BitVec 1) (k : BitVec 2) {q : ShiftCount} {y : Reg}
    (hr : rowOf t = some { mask := 0xF118#16, match_ := 0xE#4 ++ 0#3 ++ d ++ 0#2 ++ 0#1 ++ k ++ 0#3, tag := t, sized := true })
    (hw : opword68k i = 0xE#4 ++ q.field ++ d ++ sz.code ++ q.isReg ++ k ++ y) (hx : ext68k i = [])
    (hb : ∀ w, stdSize w = sz → countOf w = q → fieldReg0 w = y → build68k t w ws = (i, ws)) :
    decode68k (encode68k i ++ ws) = (i, ws) := by
  have hs : HasSize (0xE#4 ++ q.field ++ d ++ sz.code ++ q.isReg ++ k ++ y) sz :=
    (((fieldAt_last (0xE#4 ++ q.field ++ d) sz.code).above _).above k).above y
  have h5 := ((fieldAt_last (0xE#4 ++ q.field ++ d ++ sz.code) q.isReg).above k).above y
  have h9 := (((((fieldAt_last 0xE#4 q.field).above d).above sz.code).above q.isReg).above k).above y
  exact decode_of_word hr hw hx (covers_iff.2 ⟨((((((hasBits_all 0xE#4).free _).known d).free _).free _).known k).free _,
    fun _ => hs.ne_three, rfl, rfl, rfl, nofun⟩) (hb _ hs.stdSize (countOf_of_fields h9 h5) (fieldAt_last _ y))

end Families

theorem takeImmEa_immExt {sz : Size} {imm : Long} {w : Word} (h : immFits sz imm = true) (l : List Word) (f : Long → Ea → Instr) :
    takeImmEa sz w (immExt sz imm ++ l) f = withEa sz w l (f imm) := by
  rw [takeImmEa, takeImm_immExt h]

/-- The immediate instructions: a head of eight bits, the size, a destination (30 R195). -/
theorem decode_immediate (t : Tag68k) {sz : Size} {imm : Long} {ea : Ea} {ws : List Word} (p : BitVec 8)
    (f : Size → Long → Ea → Instr)
    (hr : rowOf t = some
      { mask := 0xFF00#16, match_ := p ++ 0#2 ++ 0#3 ++ 0#3, tag := t, sized := true, ea := some .dataAlterable })
    (hw : opword68k (f sz imm ea) = p ++ sz.code ++ ea.modeBits ++ ea.regBits)
    (hx : ext68k (f sz imm ea) = immExt sz imm ++ ea.ext sz)
    (hb : ∀ w l, build68k t w l = takeImmEa (stdSize w) w l (f (stdSize w)))
    (h : (eaOk .dataAlterable sz ea && immFits sz imm) = true) :
    decode68k (encode68k (f sz imm ea) ++ ws) = (f sz imm ea, ws) := by
  obtain ⟨he, hi⟩ := (Bool.and_eq_true _ _).mp h
  refine decode_sized t (f sz imm) (immExt sz imm) p hr hw hx (fun w l e => ?_) he rfl
  rw [hb, e, takeImmEa_immExt hi]

/-- A branch on a condition that is none of BRA's and BSR's: the code is 2 or more (30 R191). -/
theorem two_le_code {cnd : Cond} (ht : cnd ≠ .t) (hf : cnd ≠ .f) : 2#4 ≤ cnd.code := by
  cases cnd with
  | t => exact absurd rfl ht
  | f => exact absurd rfl hf
  | _ => decide

theorem condOf_code (cnd : Cond) : condOf cnd.code = cnd := by cases cnd <;> rfl

/-- The displacement of a branch (30 R192). -/
theorem takeDisp_ext {d : Disp} {w : Word} (hd : dispOk d = true) (hw : FieldAt w 0 d.byte) (ws : List Word) (f : Disp → Instr) :
    takeDisp w (d.ext ++ ws) f = (f d, ws) := by
  rw [takeDisp, show w.extractLsb' 0 8 = d.byte from hw]
  cases d with
  | short d => exact if_neg (of_decide_eq_true hd :)
  | word d => exact if_pos rfl

/-- BRA and BSR: a head of eight bits, a displacement. -/
theorem decode_branch (t : Tag68k) {d : Disp} {ws : List Word} (p : BitVec 8) (f : Disp → Instr)
    (hr : rowOf t = some { mask := 0xFF00#16, match_ := p ++ 0#8, tag := t }) (hw : opword68k (f d) = p ++ d.byte)
    (hx : ext68k (f d) = d.ext) (hb : ∀ w l, build68k t w l = takeDisp w l f) (h : dispOk d = true) :
    decode68k (encode68k (f d) ++ ws) = (f d, ws) :=
  decode_of_word hr hw hx (covers_iff.2 ⟨(hasBits_all p).free _, nofun, rfl, rfl, rfl, nofun⟩)
    ((hb _ _).trans (takeDisp_ext h (fieldAt_last p _) ws f))

theorem decode_bcc {cnd : Cond} {d : Disp} {ws : List Word} (h : Instr.wf (.bcc cnd d) = true) :
    decode68k (encode68k (.bcc cnd d) ++ ws) = (.bcc cnd d, ws) := by
  simp only [Instr.wf, Bool.and_eq_true, decide_eq_true_eq] at h
  obtain ⟨⟨hd, ht⟩, hf⟩ := h
  have hc : fieldCond (opword68k (.bcc cnd d)) = cnd.code := (fieldAt_last 6#4 cnd.code).above d.byte
  refine decode_of_word (t := .bcc) rfl rfl rfl (covers_iff.2 ⟨((hasBits_all 6#4).free _).free _, nofun, rfl, rfl, rfl, fun _ => ?_⟩) ?_
  · rw [hc]
    exact two_le_code ht hf
  · rw [build68k, hc, condOf_code]
    exact takeDisp_ext hd (fieldAt_last (6#4 ++ cnd.code) _) ws _

theorem decode_dbcc (cnd : Cond) (n : Reg) (d : Word) (ws : List Word) :
    decode68k (encode68k (.dbcc cnd n d) ++ ws) = (.dbcc cnd n d, ws) := by
  have hc : fieldCond (opword68k (.dbcc cnd n d)) = cnd.code := ((fieldAt_last 5#4 cnd.code).above 0x19#5).above n
  have hn : fieldReg0 (opword68k (.dbcc cnd n d)) = n := fieldAt_last _ n
  refine decode_of_word (t := .dbcc) rfl rfl rfl
    (covers_iff.2 ⟨(((hasBits_all 5#4).free _).known 0x19#5).free _, nofun, rfl, rfl, rfl, nofun⟩) ?_
  rw [build68k, hc, hn, condOf_code]
  rfl

theorem decode_scc {cnd : Cond} {ea : Ea} {ws : List Word} (h : eaOk .dataAlterable .b ea = true) :
    decode68k (encode68k (.scc cnd ea) ++ ws) = (.scc cnd ea, ws) := by
  have hc : fieldCond (opword68k (.scc cnd ea)) = cnd.code :=
    (((fieldAt_last 5#4 cnd.code).above 3#2).above _).above _
  have he := hasEa_last (5#4 ++ cnd.code ++ 3#2) ea
  refine decode_of_ea (t := .scc) (pre := []) rfl rfl
    (covers_iff.2 ⟨((((hasBits_all 5#4).free _).known 3#2).free _).free _, nofun, he.admitted h, rfl, rfl, nofun⟩) he rfl
    (fun l => ?_) h rfl
  rw [build68k, hc, condOf_code]
  rfl

theorem decode_moveq (n : Reg) (d : Byte) (ws : List Word) :
    decode68k (encode68k (.moveq n d) ++ ws) = (.moveq n d, ws) := by
  have hn : fieldReg9 (7#4 ++ n ++ 0#1 ++ d) = n := ((fieldAt_last 7#4 n).above 0#1).above d
  have hd : (7#4 ++ n ++ 0#1 ++ d).extractLsb' 0 8 = d := fieldAt_last _ d
  refine decode_of_word (t := .moveq) rfl rfl rfl
    (covers_iff.2 ⟨(((hasBits_all 7#4).free _).known 0#1).free _, nofun, rfl, rfl, rfl, nofun⟩) ?_
  exact congrArg₂ (fun n d => (Instr.moveq n d, ws)) hn hd

theorem decode_trap (v : BitVec 4) (ws : List Word) : decode68k (encode68k (.trap v) ++ ws) = (.trap v, ws) :=
  decode_of_word (t := .trap) rfl rfl rfl (covers_iff.2 ⟨(hasBits_all 0x4E4#12).free _, nofun, rfl, rfl, rfl, nofun⟩)
    (congrArg (fun v => (Instr.trap v, ws)) (fieldAt_last 0x4E4#12 v))

theorem decode_moveUsp (toAn : Bool) (n : Reg) (ws : List Word) :
    decode68k (encode68k (.moveUsp toAn n) ++ ws) = (.moveUsp toAn n, ws) := by
  have ha := ((fieldAt_last 0x4E6#12 (BitVec.ofBool toAn)).above n).getLsbD
  refine decode_of_word (t := .moveUsp) rfl rfl rfl
    (covers_iff.2 ⟨((hasBits_all 0x4E6#12).free _).free _, nofun, rfl, rfl, rfl, nofun⟩) ?_
  exact congrArg₂ (fun a n => (Instr.moveUsp a n, ws)) (ha.trans (by cases toAn <;> rfl)) (fieldAt_last _ n)

/-- Line A and line F: twelve bits of any value. -/
theorem decode_line (t : Tag68k) (p : BitVec 4) (v : BitVec 12) (f : BitVec 12 → Instr) (ws : List Word)
    (hr : rowOf t = some { mask := 0xF000#16, match_ := p ++ 0#12, tag := t }) (hw : opword68k (f v) = p ++ v)
    (hx : ext68k (f v) = []) (hb : ∀ w l, build68k t w l = (f (w.extractLsb' 0 12), l)) :
    decode68k (encode68k (f v) ++ ws) = (f v, ws) :=
  decode_of_word hr hw hx (covers_iff.2 ⟨(hasBits_all p).free _, nofun, rfl, rfl, rfl, nofun⟩)
    ((hb _ _).trans (congrArg (fun v => (f v, ws)) (fieldAt_last p v)))

/-- ILLEGAL's own word, and every word with no row, is the instruction of that word (30 R184). -/
theorem decode_illegal {w : Word} {ws : List Word} (h : Instr.wf (.illegal w) = true) :
    decode68k (encode68k (.illegal w) ++ ws) = (.illegal w, ws) := by
  have ht : tag68k w = .illegal := by
    rcases (Bool.or_eq_true _ _).mp h with h | h
    · rw [eq_of_beq h]
      exact tag68k_of_covers (t := .illegal) rfl (by decide)
    · exact tag68k_of_noRow h
  show build68k (tag68k w) w ws = _
  rw [ht]
  rfl

theorem decode_moveB {src dst : Ea} {ws : List Word} (h : Instr.wf (.moveB src dst) = true) :
    decode68k (encode68k (.moveB src dst) ++ ws) = (.moveB src dst, ws) := by
  simp only [Instr.wf, Bool.and_eq_true] at h
  obtain ⟨⟨hs, ha⟩, hd⟩ := h
  exact decode_move .moveB 1#4 .always .moveB rfl rfl rfl (fun _ _ => rfl) hs hd (.inr ⟨rfl, by simpa [notAnByte] using ha⟩)

/-- CMPM: a line, a register, 1, the size, 001, a register. -/
theorem decode_cmpm (sz : Size) (y x : Reg) (ws : List Word) :
    decode68k (encode68k (.cmpm sz y x) ++ ws) = (.cmpm sz y x, ws) := by
  have hs : HasSize (11#4 ++ x ++ 1#1 ++ sz.code ++ 1#3 ++ y) sz := hasSize_layout (11#4 ++ x ++ 1#1) sz 1#3 y
  have hx : fieldReg9 (opword68k (.cmpm sz y x)) = x := ((((fieldAt_last 11#4 x).above 1#1).above sz.code).above 1#3).above y
  have hy : fieldReg0 (opword68k (.cmpm sz y x)) = y := fieldAt_last _ y
  have hz : stdSize (opword68k (.cmpm sz y x)) = sz := hs.stdSize
  refine decode_of_word (t := .cmpm) rfl rfl rfl
    (covers_iff.2 ⟨(((((hasBits_all 11#4).free _).known 1#1).free _).known 1#3).free _, fun _ => hs.ne_three, rfl, rfl, rfl, nofun⟩) ?_
  rw [build68k, hz, hx, hy]
  rfl

/-- Settles O36: the rows of the table are pairwise apart, so the fixed bits and the operand field of an encoding select its own
row, and the extension words of each operand are read back one after another. -/
theorem m68kDecodeEncode : Obligations.M68kDecodeEncode := by
  unfold Obligations.M68kDecodeEncode
  intro i ws hi h
  cases i with
  | oriToCcr imm => exact decode_fixed .oriToCcr [imm] 0x003C#16 rfl rfl rfl rfl
  | oriToSr imm => exact decode_fixed .oriToSr [imm] 0x007C#16 rfl rfl rfl rfl
  | andiToCcr imm => exact decode_fixed .andiToCcr [imm] 0x023C#16 rfl rfl rfl rfl
  | andiToSr imm => exact decode_fixed .andiToSr [imm] 0x027C#16 rfl rfl rfl rfl
  | eoriToCcr imm => exact decode_fixed .eoriToCcr [imm] 0x0A3C#16 rfl rfl rfl rfl
  | eoriToSr imm => exact decode_fixed .eoriToSr [imm] 0x0A7C#16 rfl rfl rfl rfl
  | ori sz imm ea => exact decode_immediate .ori 0x00#8 .ori rfl rfl rfl (fun _ _ => rfl) h
  | andi sz imm ea => exact decode_immediate .andi 0x02#8 .andi rfl rfl rfl (fun _ _ => rfl) h
  | subi sz imm ea => exact decode_immediate .subi 0x04#8 .subi rfl rfl rfl (fun _ _ => rfl) h
  | addi sz imm ea => exact decode_immediate .addi 0x06#8 .addi rfl rfl rfl (fun _ _ => rfl) h
  | eori sz imm ea => exact decode_immediate .eori 0x0A#8 .eori rfl rfl rfl (fun _ _ => rfl) h
  | cmpi sz imm ea => exact decode_immediate .cmpi 0x0C#8 .cmpi rfl rfl rfl (fun _ _ => rfl) h
  | btstImm k ea => exact decode_headed .btstImm (.btstImm k) [k] 0x20#10 rfl rfl rfl (fun _ _ => rfl) h rfl
  | bchgImm k ea => exact decode_headed .bchgImm (.bchgImm k) [k] 0x21#10 rfl rfl rfl (fun _ _ => rfl) h rfl
  | bclrImm k ea => exact decode_headed .bclrImm (.bclrImm k) [k] 0x22#10 rfl rfl rfl (fun _ _ => rfl) h rfl
  | bsetImm k ea => exact decode_headed .bsetImm (.bsetImm k) [k] 0x23#10 rfl rfl rfl (fun _ _ => rfl) h rfl
  | btstReg n ea => exact decode_reg .btstReg (.btstReg n) 0#4 4#3 rfl rfl rfl (fun _ _ e => e ▸ rfl) h rfl
  | bchgReg n ea => exact decode_reg .bchgReg (.bchgReg n) 0#4 5#3 rfl rfl rfl (fun _ _ e => e ▸ rfl) h rfl
  | bclrReg n ea => exact decode_reg .bclrReg (.bclrReg n) 0#4 6#3 rfl rfl rfl (fun _ _ e => e ▸ rfl) h rfl
  | bsetReg n ea => exact decode_reg .bsetReg (.bsetReg n) 0#4 7#3 rfl rfl rfl (fun _ _ e => e ▸ rfl) h rfl
  | movepLoad sz x y d => exact decode_movep .movepLoad [d] 2#2 rfl rfl rfl (of_decide_eq_true h) (fun _ es ex ey => es ▸ ex ▸ ey ▸ rfl)
  | movepStore sz x y d => exact decode_movep .movepStore [d] 3#2 rfl rfl rfl (of_decide_eq_true h) (fun _ es ex ey => es ▸ ex ▸ ey ▸ rfl)
  | moveB src dst => exact decode_moveB h
  | moveL src dst =>
    obtain ⟨hs, hd⟩ := (Bool.and_eq_true _ _).mp h
    exact decode_move .moveL 2#4 .never .moveL rfl rfl rfl (fun _ _ => rfl) hs hd (.inl rfl)
  | moveW src dst =>
    obtain ⟨hs, hd⟩ := (Bool.and_eq_true _ _).mp h
    exact decode_move .moveW 3#4 .never .moveW rfl rfl rfl (fun _ _ => rfl) hs hd (.inl rfl)
  | moveaL src n => exact decode_reg .moveaL (.moveaL · n) 2#4 1#3 rfl rfl rfl (fun _ _ e => e ▸ rfl) h rfl
  | moveaW src n => exact decode_reg .moveaW (.moveaW · n) 3#4 1#3 rfl rfl rfl (fun _ _ e => e ▸ rfl) h rfl
  | negx sz ea => exact decode_sized .negx (.negx sz) [] 0x40#8 rfl rfl rfl (fun _ _ e => e ▸ rfl) h rfl
  | moveFromSr ea => exact decode_headed .moveFromSr .moveFromSr [] 0x103#10 rfl rfl rfl (fun _ _ => rfl) h rfl
  | chk ea n => exact decode_reg .chk (.chk · n) 4#4 6#3 rfl rfl rfl (fun _ _ e => e ▸ rfl) h rfl
  | lea ea n => exact decode_reg .lea (.lea · n) 4#4 7#3 rfl rfl rfl (fun _ _ e => e ▸ rfl) h rfl
  | clr sz ea => exact decode_sized .clr (.clr sz) [] 0x42#8 rfl rfl rfl (fun _ _ e => e ▸ rfl) h rfl
  | neg sz ea => exact decode_sized .neg (.neg sz) [] 0x44#8 rfl rfl rfl (fun _ _ e => e ▸ rfl) h rfl
  | moveToCcr ea => exact decode_headed .moveToCcr .moveToCcr [] 0x113#10 rfl rfl rfl (fun _ _ => rfl) h rfl
  | notOp sz ea => exact decode_sized .notOp (.notOp sz) [] 0x46#8 rfl rfl rfl (fun _ _ e => e ▸ rfl) h rfl
  | moveToSr ea => exact decode_headed .moveToSr .moveToSr [] 0x11B#10 rfl rfl rfl (fun _ _ => rfl) h rfl
  | nbcd ea => exact decode_headed .nbcd .nbcd [] 0x120#10 rfl rfl rfl (fun _ _ => rfl) h rfl
  | swap n => exact decode_low .swap [] 0x0908#13 rfl rfl rfl (fun _ e => e ▸ rfl)
  | pea ea => exact decode_headed .pea .pea [] 0x121#10 rfl rfl rfl (fun _ _ => rfl) h rfl
  | extW n => exact decode_low .extW [] 0x0910#13 rfl rfl rfl (fun _ e => e ▸ rfl)
  | extL n => exact decode_low .extL [] 0x0918#13 rfl rfl rfl (fun _ e => e ▸ rfl)
  | movemStore sz mask ea =>
    obtain ⟨he, hb⟩ := (Bool.and_eq_true _ _).mp h
    exact decode_movem .movemStore (.movemStore sz mask) [mask] 0x091#9 rfl rfl rfl (fun _ _ e => e ▸ rfl) he (of_decide_eq_true hb) rfl
  | tst sz ea => exact decode_sized .tst (.tst sz) [] 0x4A#8 rfl rfl rfl (fun _ _ e => e ▸ rfl) h rfl
  | tas ea => exact decode_headed .tas .tas [] 0x12B#10 rfl rfl rfl (fun _ _ => rfl) h rfl
  | illegal w => exact decode_illegal h
  | movemLoad sz mask ea =>
    obtain ⟨he, hb⟩ := (Bool.and_eq_true _ _).mp h
    exact decode_movem .movemLoad (.movemLoad sz mask) [mask] 0x099#9 rfl rfl rfl (fun _ _ e => e ▸ rfl) he (of_decide_eq_true hb) rfl
  | trap v => exact decode_trap v ws
  | link n d => exact decode_low .link [d] 0x09CA#13 rfl rfl rfl (fun _ e => e ▸ rfl)
  | unlk n => exact decode_low .unlk [] 0x09CB#13 rfl rfl rfl (fun _ e => e ▸ rfl)
  | moveUsp toAn n => exact decode_moveUsp toAn n ws
  | reset => exact decode_fixed .reset [] 0x4E70#16 rfl rfl rfl rfl
  | nop => exact decode_fixed .nop [] 0x4E71#16 rfl rfl rfl rfl
  | stop imm => exact decode_fixed .stop [imm] 0x4E72#16 rfl rfl rfl rfl
  | rte => exact decode_fixed .rte [] 0x4E73#16 rfl rfl rfl rfl
  | rts => exact decode_fixed .rts [] 0x4E75#16 rfl rfl rfl rfl
  | trapv => exact decode_fixed .trapv [] 0x4E76#16 rfl rfl rfl rfl
  | rtr => exact decode_fixed .rtr [] 0x4E77#16 rfl rfl rfl rfl
  | jsr ea => exact decode_headed .jsr .jsr [] 0x13A#10 rfl rfl rfl (fun _ _ => rfl) h rfl
  | jmp ea => exact decode_headed .jmp .jmp [] 0x13B#10 rfl rfl rfl (fun _ _ => rfl) h rfl
  | addq sz q ea =>
    obtain ⟨he, ha⟩ := (Bool.and_eq_true _ _).mp h
    exact decode_regSized .addq (.addq sz q) 5#4 0#1 .whenByte rfl rfl rfl (fun _ _ es en => es ▸ en ▸ rfl) he (.inr ⟨rfl, ha⟩) rfl
  | subq sz q ea =>
    obtain ⟨he, ha⟩ := (Bool.and_eq_true _ _).mp h
    exact decode_regSized .subq (.subq sz q) 5#4 1#1 .whenByte rfl rfl rfl (fun _ _ es en => es ▸ en ▸ rfl) he (.inr ⟨rfl, ha⟩) rfl
  | dbcc cnd n d => exact decode_dbcc cnd n d ws
  | scc cnd ea => exact decode_scc h
  | bra d => exact decode_branch .bra 0x60#8 .bra rfl rfl rfl (fun _ _ => rfl) h
  | bsr d => exact decode_branch .bsr 0x61#8 .bsr rfl rfl rfl (fun _ _ => rfl) h
  | bcc cnd d => exact decode_bcc h
  | moveq n d => exact decode_moveq n d ws
  | divu ea n => exact decode_reg .divu (.divu · n) 8#4 3#3 rfl rfl rfl (fun _ _ e => e ▸ rfl) h rfl
  | divs ea n => exact decode_reg .divs (.divs · n) 8#4 7#3 rfl rfl rfl (fun _ _ e => e ▸ rfl) h rfl
  | sbcd mem y x => exact decode_bcd .sbcd 8#4 rfl rfl rfl (fun _ em ex ey => em ▸ ex ▸ ey ▸ rfl)
  | orToDn sz ea n => exact decode_regSized .orToDn (.orToDn sz · n) 8#4 0#1 .never rfl rfl rfl (fun _ _ es en => es ▸ en ▸ rfl) h (.inl rfl) rfl
  | orToEa sz n ea => exact decode_regSized .orToEa (.orToEa sz n) 8#4 1#1 .never rfl rfl rfl (fun _ _ es en => es ▸ en ▸ rfl) h (.inl rfl) rfl
  | subToDn sz ea n =>
    obtain ⟨he, ha⟩ := (Bool.and_eq_true _ _).mp h
    exact decode_regSized .subToDn (.subToDn sz · n) 9#4 0#1 .whenByte rfl rfl rfl (fun _ _ es en => es ▸ en ▸ rfl) he (.inr ⟨rfl, ha⟩) rfl
  | subToEa sz n ea => exact decode_regSized .subToEa (.subToEa sz n) 9#4 1#1 .never rfl rfl rfl (fun _ _ es en => es ▸ en ▸ rfl) h (.inl rfl) rfl
  | suba sz ea n =>
    obtain ⟨he, hb⟩ := (Bool.and_eq_true _ _).mp h
    exact decode_regLong .suba (.suba sz · n) 9#4 rfl rfl rfl (fun _ _ es en => es ▸ en ▸ rfl) he (of_decide_eq_true hb) rfl
  | subx sz mem y x => exact decode_extended .subx 9#4 rfl rfl rfl (fun _ es em ex ey => es ▸ em ▸ ex ▸ ey ▸ rfl)
  | addToDn sz ea n =>
    obtain ⟨he, ha⟩ := (Bool.and_eq_true _ _).mp h
    exact decode_regSized .addToDn (.addToDn sz · n) 13#4 0#1 .whenByte rfl rfl rfl (fun _ _ es en => es ▸ en ▸ rfl) he (.inr ⟨rfl, ha⟩) rfl
  | addToEa sz n ea => exact decode_regSized .addToEa (.addToEa sz n) 13#4 1#1 .never rfl rfl rfl (fun _ _ es en => es ▸ en ▸ rfl) h (.inl rfl) rfl
  | adda sz ea n =>
    obtain ⟨he, hb⟩ := (Bool.and_eq_true _ _).mp h
    exact decode_regLong .adda (.adda sz · n) 13#4 rfl rfl rfl (fun _ _ es en => es ▸ en ▸ rfl) he (of_decide_eq_true hb) rfl
  | addx sz mem y x => exact decode_extended .addx 13#4 rfl rfl rfl (fun _ es em ex ey => es ▸ em ▸ ex ▸ ey ▸ rfl)
  | lineA w => exact decode_line .lineA 0xA#4 w .lineA ws rfl rfl rfl (fun _ _ => rfl)
  | cmp sz ea n =>
    obtain ⟨he, ha⟩ := (Bool.and_eq_true _ _).mp h
    exact decode_regSized .cmp (.cmp sz · n) 11#4 0#1 .whenByte rfl rfl rfl (fun _ _ es en => es ▸ en ▸ rfl) he (.inr ⟨rfl, ha⟩) rfl
  | cmpa sz ea n =>
    obtain ⟨he, hb⟩ := (Bool.and_eq_true _ _).mp h
    exact decode_regLong .cmpa (.cmpa sz · n) 11#4 rfl rfl rfl (fun _ _ es en => es ▸ en ▸ rfl) he (of_decide_eq_true hb) rfl
  | eor sz n ea => exact decode_regSized .eor (.eor sz n) 11#4 1#1 .never rfl rfl rfl (fun _ _ es en => es ▸ en ▸ rfl) h (.inl rfl) rfl
  | cmpm sz y x => exact decode_cmpm sz y x ws
  | mulu ea n => exact decode_reg .mulu (.mulu · n) 12#4 3#3 rfl rfl rfl (fun _ _ e => e ▸ rfl) h rfl
  | muls ea n => exact decode_reg .muls (.muls · n) 12#4 7#3 rfl rfl rfl (fun _ _ e => e ▸ rfl) h rfl
  | abcd mem y x => exact decode_bcd .abcd 12#4 rfl rfl rfl (fun _ em ex ey => em ▸ ex ▸ ey ▸ rfl)
  | exgDD x y => exact decode_exg .exgDD 8#5 rfl rfl rfl (fun _ ex ey => ex ▸ ey ▸ rfl)
  | exgAA x y => exact decode_exg .exgAA 9#5 rfl rfl rfl (fun _ ex ey => ex ▸ ey ▸ rfl)
  | exgDA x y => exact decode_exg .exgDA 17#5 rfl rfl rfl (fun _ ex ey => ex ▸ ey ▸ rfl)
  | andToDn sz ea n => exact decode_regSized .andToDn (.andToDn sz · n) 12#4 0#1 .never rfl rfl rfl (fun _ _ es en => es ▸ en ▸ rfl) h (.inl rfl) rfl
  | andToEa sz n ea => exact decode_regSized .andToEa (.andToEa sz n) 12#4 1#1 .never rfl rfl rfl (fun _ _ es en => es ▸ en ▸ rfl) h (.inl rfl) rfl
  | asrReg sz q y => exact decode_shift .asrReg 0#1 0#2 rfl rfl rfl (fun _ es eq ey => es ▸ eq ▸ ey ▸ rfl)
  | aslReg sz q y => exact decode_shift .aslReg 1#1 0#2 rfl rfl rfl (fun _ es eq ey => es ▸ eq ▸ ey ▸ rfl)
  | lsrReg sz q y => exact decode_shift .lsrReg 0#1 1#2 rfl rfl rfl (fun _ es eq ey => es ▸ eq ▸ ey ▸ rfl)
  | lslReg sz q y => exact decode_shift .lslReg 1#1 1#2 rfl rfl rfl (fun _ es eq ey => es ▸ eq ▸ ey ▸ rfl)
  | roxrReg sz q y => exact decode_shift .roxrReg 0#1 2#2 rfl rfl rfl (fun _ es eq ey => es ▸ eq ▸ ey ▸ rfl)
  | roxlReg sz q y => exact decode_shift .roxlReg 1#1 2#2 rfl rfl rfl (fun _ es eq ey => es ▸ eq ▸ ey ▸ rfl)
  | rorReg sz q y => exact decode_shift .rorReg 0#1 3#2 rfl rfl rfl (fun _ es eq ey => es ▸ eq ▸ ey ▸ rfl)
  | rolReg sz q y => exact decode_shift .rolReg 1#1 3#2 rfl rfl rfl (fun _ es eq ey => es ▸ eq ▸ ey ▸ rfl)
  | asrMem ea => exact decode_headed .asrMem .asrMem [] 0x383#10 rfl rfl rfl (fun _ _ => rfl) h rfl
  | aslMem ea => exact decode_headed .aslMem .aslMem [] 0x387#10 rfl rfl rfl (fun _ _ => rfl) h rfl
  | lsrMem ea => exact decode_headed .lsrMem .lsrMem [] 0x38B#10 rfl rfl rfl (fun _ _ => rfl) h rfl
  | lslMem ea => exact decode_headed .lslMem .lslMem [] 0x38F#10 rfl rfl rfl (fun _ _ => rfl) h rfl
  | roxrMem ea => exact decode_headed .roxrMem .roxrMem [] 0x393#10 rfl rfl rfl (fun _ _ => rfl) h rfl
  | roxlMem ea => exact decode_headed .roxlMem .roxlMem [] 0x397#10 rfl rfl rfl (fun _ _ => rfl) h rfl
  | rorMem ea => exact decode_headed .rorMem .rorMem [] 0x39B#10 rfl rfl rfl (fun _ _ => rfl) h rfl
  | rolMem ea => exact decode_headed .rolMem .rolMem [] 0x39F#10 rfl rfl rfl (fun _ _ => rfl) h rfl
  | lineF w => exact decode_line .lineF 0xF#4 w .lineF ws rfl rfl rfl (fun _ _ => rfl)
  | _ => exact absurd hi Bool.false_ne_true

end Sys2Proof.Laws
end

section
/-! The round trip of the Z80 encoding: the row that an opcode byte selects on its page, the fields of the byte, and the
instructions (30 R220 to R236). -/

namespace Sys2Proof.Laws

open Sys2Proof.Machine

/-! ### The pages -/

/-- The row of page base that a byte selects, the prefixes apart (30 R226). -/
def baseTag (op : Byte) : Option TagZ80 :=
  if op ∈ [0xCB#8, 0xED#8, 0xDD#8, 0xFD#8] then none else tagZ80 pageBase op

/-- The row of page DD/FD that a byte selects, the byte CB apart (30 R226). -/
def xxTag (op : Byte) : Option TagZ80 := if op = 0xCB#8 then none else tagZ80 pageXx op

variable {op d : Byte} {bs : List Byte} {t : TagZ80} {x : Idx}

theorem decode_base (h : baseTag op = some t) : decodeZ80 (op :: bs) = buildBase t op bs := by
  rw [baseTag] at h
  split at h
  · cases h
  · rename_i hp
    simp only [List.mem_cons, List.not_mem_nil, or_false, not_or] at hp
    obtain ⟨hcb, hed, hdd, hfd⟩ := hp
    simp only [decodeZ80, byteAt, List.getD_cons_zero, if_neg hcb, if_neg hed, if_neg hdd, if_neg hfd, h, List.drop_succ_cons,
      List.drop_zero]

theorem decode_cb (h : tagZ80 pageCb op = some t) : decodeZ80 (0xCB#8 :: op :: bs) = buildCb t op bs := by
  simp [decodeZ80, byteAt, h]

theorem decode_ed (h : tagZ80 pageEd op = some t) : decodeZ80 (0xED#8 :: op :: bs) = buildEd t op bs := by
  simp [decodeZ80, byteAt, h]

theorem decodeZ80_idx (x : Idx) (bs : List Byte) : decodeZ80 (x.code :: bs) = decodeXx x bs := by
  cases x <;> rfl

theorem decode_xx (h : xxTag op = some t) : decodeZ80 (x.code :: op :: bs) = buildXx x t op bs := by
  rw [xxTag] at h
  split at h
  · cases h
  · rename_i hcb
    simp [decodeZ80_idx, decodeXx, byteAt, hcb, h]

theorem decode_xxcb (h : tagZ80 pageXxcb op = some t) :
    decodeZ80 (x.code :: 0xCB#8 :: d :: op :: bs) = buildXxcb x d t op bs := by
  simp [decodeZ80_idx, decodeXx, byteAt, h]

/-! ### Prefixes before bytes with no row (30 R236) -/

theorem decode_cbPrefix (h : (tagZ80 pageCb op).isNone = true) : decodeZ80 (0xCB#8 :: op :: bs) = (.zCbPrefix op, bs) := by
  simp [decodeZ80, byteAt, Option.isNone_iff_eq_none.1 h]

theorem decode_edPrefix (h : (tagZ80 pageEd op).isNone = true) : decodeZ80 (0xED#8 :: op :: bs) = (.zEdPrefix op, bs) := by
  simp [decodeZ80, byteAt, Option.isNone_iff_eq_none.1 h]

theorem decode_xxPrefix (h : (tagZ80 pageXx op).isNone = true) : decodeZ80 (x.code :: op :: bs) = (xxPrefix x op, bs) := by
  have hcb : op ≠ 0xCB#8 := by
    rintro rfl
    exact absurd h (by decide)
  simp [decodeZ80_idx, decodeXx, byteAt, hcb, Option.isNone_iff_eq_none.1 h]

theorem decode_ddcbPrefix (h : (tagZ80 pageXxcb op).isNone = true) :
    decodeZ80 (x.code :: 0xCB#8 :: d :: op :: bs) = (.zDdcbPrefix x d op, bs) := by
  simp [decodeZ80_idx, decodeXx, byteAt, Option.isNone_iff_eq_none.1 h]

/-! ### The fields of an opcode byte -/

theorem mid3 (p : BitVec 2) (f q : BitVec 3) : (p ++ f ++ q : Byte).extractLsb' 3 3 = f := (fieldAt_last p f).above q
theorem low3 (p : BitVec 5) (f : BitVec 3) : (p ++ f : Byte).extractLsb' 0 3 = f := fieldAt_last p f
theorem mid2 (p f : BitVec 2) (q : BitVec 4) : (p ++ f ++ q : Byte).extractLsb' 4 2 = f := (fieldAt_last p f).above q

theorem zregOf_code (r : ZReg) : zregOf r.code = r := by cases r <;> rfl
theorem zop8Of_code (o : ZOp8) : zop8Of o.code = o := by
  cases o with
  | hl => rfl
  | reg r => cases r <;> rfl
theorem reg_code_ne (r : ZReg) : r.code ≠ 6#3 := by cases r <;> decide

theorem reg_mid (p : BitVec 2) (r : ZReg) (q : BitVec 3) : zregOf ((p ++ r.code ++ q : Byte).extractLsb' 3 3) = r :=
  (congrArg zregOf (mid3 p r.code q)).trans (zregOf_code r)
theorem reg_low (p : BitVec 5) (r : ZReg) : zregOf ((p ++ r.code : Byte).extractLsb' 0 3) = r :=
  (congrArg zregOf (low3 p r.code)).trans (zregOf_code r)
theorem op8_mid (p : BitVec 2) (o : ZOp8) (q : BitVec 3) : zop8Of ((p ++ o.code ++ q : Byte).extractLsb' 3 3) = o :=
  (congrArg zop8Of (mid3 p o.code q)).trans (zop8Of_code o)
theorem op8_low (p : BitVec 5) (o : ZOp8) : zop8Of ((p ++ o.code : Byte).extractLsb' 0 3) = o :=
  (congrArg zop8Of (low3 p o.code)).trans (zop8Of_code o)
theorem pair_mid (p : BitVec 2) (r : ZPair) (q : BitVec 4) : zpairOf ((p ++ r.code ++ q : Byte).extractLsb' 4 2) = r :=
  (congrArg zpairOf (mid2 p r.code q)).trans (by cases r <;> rfl)
theorem pairQ_mid (p : BitVec 2) (r : ZPairQ) (q : BitVec 4) : zpairQOf ((p ++ r.code ++ q : Byte).extractLsb' 4 2) = r :=
  (congrArg zpairQOf (mid2 p r.code q)).trans (by cases r <;> rfl)
theorem pairX_mid (p : BitVec 2) (r : ZPairX) (q : BitVec 4) : zpairXOf ((p ++ r.code ++ q : Byte).extractLsb' 4 2) = r :=
  (congrArg zpairXOf (mid2 p r.code q)).trans (by cases r <;> rfl)
theorem bcDe_mid (p : BitVec 3) (r : BcDe) (q : BitVec 4) : bcDeOf ((p ++ r.code ++ q : Byte).extractLsb' 4 1) = r :=
  (congrArg bcDeOf ((fieldAt_last p r.code).above q : FieldAt (p ++ r.code ++ q) 4 r.code)).trans (by cases r <;> rfl)
theorem cond_mid (p : BitVec 2) (r : ZCond) (q : BitVec 3) : zcondOf ((p ++ r.code ++ q : Byte).extractLsb' 3 3) = r :=
  (congrArg zcondOf (mid3 p r.code q)).trans (by cases r <;> rfl)
theorem jr_mid (p : BitVec 3) (r : ZJrCond) (q : BitVec 3) : zjrOf ((p ++ r.code ++ q : Byte).extractLsb' 3 2) = r :=
  (congrArg zjrOf ((fieldAt_last p r.code).above q : FieldAt (p ++ r.code ++ q) 3 r.code)).trans (by cases r <;> rfl)

/-- The two bytes of `nn`, put together again (20 R121). -/
theorem wordLe_leBytes (nn : Word) (bs : List Byte) : wordLe (leBytes nn ++ bs) = nn :=
  (BitVec.extractLsb'_append_extractLsb'_eq_extractLsb' rfl).trans BitVec.extractLsb'_eq_self

/-! ### The instructions -/

/-- Settles O37: an opcode byte selects the row of its page whatever its fields are, and each field and operand byte is read
back. -/
theorem z80DecodeEncode : Obligations.Z80DecodeEncode := by
  unfold Obligations.Z80DecodeEncode
  intro i bs hi h
  cases i with
  | zNop => exact decode_base (t := .zNop) rfl
  | zLdPairImm p nn =>
    exact (decode_base ((by decide +kernel : ∀ f : BitVec 2, baseTag (0#2 ++ f ++ 1#4) = some .zLdPairImm) p.code)).trans
      (congrArg₂ (fun p nn => (Instr.zLdPairImm p nn, bs)) (pair_mid 0#2 p 1#4) (wordLe_leBytes nn bs))
  | zLdIndA p =>
    exact (decode_base ((by decide +kernel : ∀ f : BitVec 1, baseTag (0#3 ++ f ++ 2#4) = some .zLdIndA) p.code)).trans
      (congrArg (fun p => (Instr.zLdIndA p, bs)) (bcDe_mid 0#3 p 2#4))
  | zLdAInd p =>
    exact (decode_base ((by decide +kernel : ∀ f : BitVec 1, baseTag (0#3 ++ f ++ 10#4) = some .zLdAInd) p.code)).trans
      (congrArg (fun p => (Instr.zLdAInd p, bs)) (bcDe_mid 0#3 p 10#4))
  | zIncPair p =>
    exact (decode_base ((by decide +kernel : ∀ f : BitVec 2, baseTag (0#2 ++ f ++ 3#4) = some .zIncPair) p.code)).trans
      (congrArg (fun p => (Instr.zIncPair p, bs)) (pair_mid 0#2 p 3#4))
  | zDecPair p =>
    exact (decode_base ((by decide +kernel : ∀ f : BitVec 2, baseTag (0#2 ++ f ++ 11#4) = some .zDecPair) p.code)).trans
      (congrArg (fun p => (Instr.zDecPair p, bs)) (pair_mid 0#2 p 11#4))
  | zIncR o =>
    exact (decode_base ((by decide +kernel : ∀ f : BitVec 3, baseTag (0#2 ++ f ++ 4#3) = some .zIncR) o.code)).trans
      (congrArg (fun o => (Instr.zIncR o, bs)) (op8_mid 0#2 o 4#3))
  | zDecR o =>
    exact (decode_base ((by decide +kernel : ∀ f : BitVec 3, baseTag (0#2 ++ f ++ 5#3) = some .zDecR) o.code)).trans
      (congrArg (fun o => (Instr.zDecR o, bs)) (op8_mid 0#2 o 5#3))
  | zLdRImm r n =>
    exact (decode_base ((by decide +kernel : ∀ f : BitVec 3, f ≠ 6#3 → baseTag (0#2 ++ f ++ 6#3)
      = some .zLdRImm) r.code (reg_code_ne r))).trans
      (congrArg (fun r => (Instr.zLdRImm r n, bs)) (reg_mid 0#2 r 6#3))
  | zLdHlImm n => exact decode_base (t := .zLdHlImm) rfl
  | zRlca => exact decode_base (t := .zRlca) rfl
  | zExAf => exact decode_base (t := .zExAf) rfl
  | zAddHl p =>
    exact (decode_base ((by decide +kernel : ∀ f : BitVec 2, baseTag (0#2 ++ f ++ 9#4) = some .zAddHl) p.code)).trans
      (congrArg (fun p => (Instr.zAddHl p, bs)) (pair_mid 0#2 p 9#4))
  | zRrca => exact decode_base (t := .zRrca) rfl
  | zDjnz e => exact decode_base (t := .zDjnz) rfl
  | zRla => exact decode_base (t := .zRla) rfl
  | zJr e => exact decode_base (t := .zJr) rfl
  | zRra => exact decode_base (t := .zRra) rfl
  | zJrCc cnd e =>
    exact (decode_base ((by decide +kernel : ∀ f : BitVec 2, baseTag (1#3 ++ f ++ 0#3) = some .zJrCc) cnd.code)).trans
      (congrArg (fun cnd => (Instr.zJrCc cnd e, bs)) (jr_mid 1#3 cnd 0#3))
  | zLdNnHl nn =>
    exact (decode_base (t := .zLdNnHl) rfl).trans
      (congrArg (fun nn => (Instr.zLdNnHl nn, bs)) (wordLe_leBytes nn bs))
  | zDaa => exact decode_base (t := .zDaa) rfl
  | zLdHlNn nn =>
    exact (decode_base (t := .zLdHlNn) rfl).trans
      (congrArg (fun nn => (Instr.zLdHlNn nn, bs)) (wordLe_leBytes nn bs))
  | zCpl => exact decode_base (t := .zCpl) rfl
  | zLdNnA nn =>
    exact (decode_base (t := .zLdNnA) rfl).trans
      (congrArg (fun nn => (Instr.zLdNnA nn, bs)) (wordLe_leBytes nn bs))
  | zScf => exact decode_base (t := .zScf) rfl
  | zLdANn nn =>
    exact (decode_base (t := .zLdANn) rfl).trans
      (congrArg (fun nn => (Instr.zLdANn nn, bs)) (wordLe_leBytes nn bs))
  | zCcf => exact decode_base (t := .zCcf) rfl
  | zLdRR dst src =>
    exact (decode_base ((by decide +kernel : ∀ f g : BitVec 3, f ≠ 6#3 → g ≠ 6#3 → baseTag (1#2 ++ f ++ g)
      = some .zLdRR) dst.code src.code (reg_code_ne dst) (reg_code_ne src))).trans
      (congrArg₂ (fun dst src => (Instr.zLdRR dst src, bs)) (reg_mid 1#2 dst src.code) (reg_low (1#2 ++ dst.code) src))
  | zLdRHl r =>
    exact (decode_base ((by decide +kernel : ∀ f : BitVec 3, f ≠ 6#3 → baseTag (1#2 ++ f ++ 6#3)
      = some .zLdRHl) r.code (reg_code_ne r))).trans
      (congrArg (fun r => (Instr.zLdRHl r, bs)) (reg_mid 1#2 r 6#3))
  | zLdHlR r =>
    exact (decode_base ((by decide +kernel : ∀ f : BitVec 3, f ≠ 6#3 → baseTag (14#5 ++ f)
      = some .zLdHlR) r.code (reg_code_ne r))).trans
      (congrArg (fun r => (Instr.zLdHlR r, bs)) (reg_low 14#5 r))
  | zHalt => exact decode_base (t := .zHalt) rfl
  | zAddR o =>
    exact (decode_base ((by decide +kernel : ∀ f : BitVec 3, baseTag (16#5 ++ f) = some .zAddR) o.code)).trans
      (congrArg (fun o => (Instr.zAddR o, bs)) (op8_low 16#5 o))
  | zAdcR o =>
    exact (decode_base ((by decide +kernel : ∀ f : BitVec 3, baseTag (17#5 ++ f) = some .zAdcR) o.code)).trans
      (congrArg (fun o => (Instr.zAdcR o, bs)) (op8_low 17#5 o))
  | zSubR o =>
    exact (decode_base ((by decide +kernel : ∀ f : BitVec 3, baseTag (18#5 ++ f) = some .zSubR) o.code)).trans
      (congrArg (fun o => (Instr.zSubR o, bs)) (op8_low 18#5 o))
  | zSbcR o =>
    exact (decode_base ((by decide +kernel : ∀ f : BitVec 3, baseTag (19#5 ++ f) = some .zSbcR) o.code)).trans
      (congrArg (fun o => (Instr.zSbcR o, bs)) (op8_low 19#5 o))
  | zAndR o =>
    exact (decode_base ((by decide +kernel : ∀ f : BitVec 3, baseTag (20#5 ++ f) = some .zAndR) o.code)).trans
      (congrArg (fun o => (Instr.zAndR o, bs)) (op8_low 20#5 o))
  | zXorR o =>
    exact (decode_base ((by decide +kernel : ∀ f : BitVec 3, baseTag (21#5 ++ f) = some .zXorR) o.code)).trans
      (congrArg (fun o => (Instr.zXorR o, bs)) (op8_low 21#5 o))
  | zOrR o =>
    exact (decode_base ((by decide +kernel : ∀ f : BitVec 3, baseTag (22#5 ++ f) = some .zOrR) o.code)).trans
      (congrArg (fun o => (Instr.zOrR o, bs)) (op8_low 22#5 o))
  | zCpR o =>
    exact (decode_base ((by decide +kernel : ∀ f : BitVec 3, baseTag (23#5 ++ f) = some .zCpR) o.code)).trans
      (congrArg (fun o => (Instr.zCpR o, bs)) (op8_low 23#5 o))
  | zAddN n => exact decode_base (t := .zAddN) rfl
  | zAdcN n => exact decode_base (t := .zAdcN) rfl
  | zSubN n => exact decode_base (t := .zSubN) rfl
  | zSbcN n => exact decode_base (t := .zSbcN) rfl
  | zAndN n => exact decode_base (t := .zAndN) rfl
  | zXorN n => exact decode_base (t := .zXorN) rfl
  | zOrN n => exact decode_base (t := .zOrN) rfl
  | zCpN n => exact decode_base (t := .zCpN) rfl
  | zRetCc cnd =>
    exact (decode_base ((by decide +kernel : ∀ f : BitVec 3, baseTag (3#2 ++ f ++ 0#3) = some .zRetCc) cnd.code)).trans
      (congrArg (fun cnd => (Instr.zRetCc cnd, bs)) (cond_mid 3#2 cnd 0#3))
  | zPop q =>
    exact (decode_base ((by decide +kernel : ∀ f : BitVec 2, baseTag (3#2 ++ f ++ 1#4) = some .zPop) q.code)).trans
      (congrArg (fun q => (Instr.zPop q, bs)) (pairQ_mid 3#2 q 1#4))
  | zJpCc cnd nn =>
    exact (decode_base ((by decide +kernel : ∀ f : BitVec 3, baseTag (3#2 ++ f ++ 2#3) = some .zJpCc) cnd.code)).trans
      (congrArg₂ (fun cnd nn => (Instr.zJpCc cnd nn, bs)) (cond_mid 3#2 cnd 2#3) (wordLe_leBytes nn bs))
  | zJp nn => exact (decode_base (t := .zJp) rfl).trans (congrArg (fun nn => (Instr.zJp nn, bs)) (wordLe_leBytes nn bs))
  | zCallCc cnd nn =>
    exact (decode_base ((by decide +kernel : ∀ f : BitVec 3, baseTag (3#2 ++ f ++ 4#3) = some .zCallCc) cnd.code)).trans
      (congrArg₂ (fun cnd nn => (Instr.zCallCc cnd nn, bs)) (cond_mid 3#2 cnd 4#3) (wordLe_leBytes nn bs))
  | zPush q =>
    exact (decode_base ((by decide +kernel : ∀ f : BitVec 2, baseTag (3#2 ++ f ++ 5#4) = some .zPush) q.code)).trans
      (congrArg (fun q => (Instr.zPush q, bs)) (pairQ_mid 3#2 q 5#4))
  | zRst t =>
    exact (decode_base ((by decide +kernel : ∀ f : BitVec 3, baseTag (3#2 ++ f ++ 7#3) = some .zRst) t)).trans
      (congrArg (fun t => (Instr.zRst t, bs)) (mid3 3#2 t 7#3))
  | zRet => exact decode_base (t := .zRet) rfl
  | zCbPrefix op => exact decode_cbPrefix h
  | zCall nn => exact (decode_base (t := .zCall) rfl).trans (congrArg (fun nn => (Instr.zCall nn, bs)) (wordLe_leBytes nn bs))
  | zOutNA n => exact decode_base (t := .zOutNA) rfl
  | zExx => exact decode_base (t := .zExx) rfl
  | zInAN n => exact decode_base (t := .zInAN) rfl
  | zDdPrefix op => exact decode_xxPrefix (x := .ix) h
  | zExSpHl => exact decode_base (t := .zExSpHl) rfl
  | zJpHl => exact decode_base (t := .zJpHl) rfl
  | zExDeHl => exact decode_base (t := .zExDeHl) rfl
  | zEdPrefix op => exact decode_edPrefix h
  | zDi => exact decode_base (t := .zDi) rfl
  | zLdSpHl => exact decode_base (t := .zLdSpHl) rfl
  | zEi => exact decode_base (t := .zEi) rfl
  | zFdPrefix op => exact decode_xxPrefix (x := .iy) h
  | zRlc o =>
    exact (decode_cb ((by decide +kernel : ∀ f : BitVec 3, tagZ80 pageCb (0#5 ++ f) = some .zRlc) o.code)).trans
      (congrArg (fun o => (Instr.zRlc o, bs)) (op8_low 0#5 o))
  | zRrc o =>
    exact (decode_cb ((by decide +kernel : ∀ f : BitVec 3, tagZ80 pageCb (1#5 ++ f) = some .zRrc) o.code)).trans
      (congrArg (fun o => (Instr.zRrc o, bs)) (op8_low 1#5 o))
  | zRl o =>
    exact (decode_cb ((by decide +kernel : ∀ f : BitVec 3, tagZ80 pageCb (2#5 ++ f) = some .zRl) o.code)).trans
      (congrArg (fun o => (Instr.zRl o, bs)) (op8_low 2#5 o))
  | zRr o =>
    exact (decode_cb ((by decide +kernel : ∀ f : BitVec 3, tagZ80 pageCb (3#5 ++ f) = some .zRr) o.code)).trans
      (congrArg (fun o => (Instr.zRr o, bs)) (op8_low 3#5 o))
  | zSla o =>
    exact (decode_cb ((by decide +kernel : ∀ f : BitVec 3, tagZ80 pageCb (4#5 ++ f) = some .zSla) o.code)).trans
      (congrArg (fun o => (Instr.zSla o, bs)) (op8_low 4#5 o))
  | zSra o =>
    exact (decode_cb ((by decide +kernel : ∀ f : BitVec 3, tagZ80 pageCb (5#5 ++ f) = some .zSra) o.code)).trans
      (congrArg (fun o => (Instr.zSra o, bs)) (op8_low 5#5 o))
  | zSrl o =>
    exact (decode_cb ((by decide +kernel : ∀ f : BitVec 3, tagZ80 pageCb (7#5 ++ f) = some .zSrl) o.code)).trans
      (congrArg (fun o => (Instr.zSrl o, bs)) (op8_low 7#5 o))
  | zBit b o =>
    exact (decode_cb ((by decide +kernel : ∀ f g : BitVec 3, tagZ80 pageCb (1#2 ++ f ++ g) = some .zBit) b o.code)).trans
      (congrArg₂ (fun b o => (Instr.zBit b o, bs)) (mid3 1#2 b o.code) (op8_low (1#2 ++ b) o))
  | zRes b o =>
    exact (decode_cb ((by decide +kernel : ∀ f g : BitVec 3, tagZ80 pageCb (2#2 ++ f ++ g) = some .zRes) b o.code)).trans
      (congrArg₂ (fun b o => (Instr.zRes b o, bs)) (mid3 2#2 b o.code) (op8_low (2#2 ++ b) o))
  | zSet b o =>
    exact (decode_cb ((by decide +kernel : ∀ f g : BitVec 3, tagZ80 pageCb (3#2 ++ f ++ g) = some .zSet) b o.code)).trans
      (congrArg₂ (fun b o => (Instr.zSet b o, bs)) (mid3 3#2 b o.code) (op8_low (3#2 ++ b) o))
  | zInRC r =>
    exact (decode_ed ((by decide +kernel : ∀ f : BitVec 3, f ≠ 6#3 → tagZ80 pageEd (1#2 ++ f ++ 0#3)
      = some .zInRC) r.code (reg_code_ne r))).trans
      (congrArg (fun r => (Instr.zInRC r, bs)) (reg_mid 1#2 r 0#3))
  | zOutCR r =>
    exact (decode_ed ((by decide +kernel : ∀ f : BitVec 3, f ≠ 6#3 → tagZ80 pageEd (1#2 ++ f ++ 1#3)
      = some .zOutCR) r.code (reg_code_ne r))).trans
      (congrArg (fun r => (Instr.zOutCR r, bs)) (reg_mid 1#2 r 1#3))
  | zSbcHl p =>
    exact (decode_ed ((by decide +kernel : ∀ f : BitVec 2, tagZ80 pageEd (1#2 ++ f ++ 2#4) = some .zSbcHl) p.code)).trans
      (congrArg (fun p => (Instr.zSbcHl p, bs)) (pair_mid 1#2 p 2#4))
  | zAdcHl p =>
    exact (decode_ed ((by decide +kernel : ∀ f : BitVec 2, tagZ80 pageEd (1#2 ++ f ++ 10#4) = some .zAdcHl) p.code)).trans
      (congrArg (fun p => (Instr.zAdcHl p, bs)) (pair_mid 1#2 p 10#4))
  | zLdNnPair p nn =>
    exact (decode_ed ((by decide +kernel : ∀ f : BitVec 2, tagZ80 pageEd (1#2 ++ f ++ 3#4) = some .zLdNnPair) p.code)).trans
      (congrArg₂ (fun p nn => (Instr.zLdNnPair p nn, bs)) (pair_mid 1#2 p 3#4) (wordLe_leBytes nn bs))
  | zLdPairNn p nn =>
    exact (decode_ed ((by decide +kernel : ∀ f : BitVec 2, tagZ80 pageEd (1#2 ++ f ++ 11#4) = some .zLdPairNn) p.code)).trans
      (congrArg₂ (fun p nn => (Instr.zLdPairNn p nn, bs)) (pair_mid 1#2 p 11#4) (wordLe_leBytes nn bs))
  | zNeg => exact decode_ed (t := .zNeg) rfl
  | zRetn => exact decode_ed (t := .zRetn) rfl
  | zReti => exact decode_ed (t := .zReti) rfl
  | zIm0 => exact decode_ed (t := .zIm0) rfl
  | zIm1 => exact decode_ed (t := .zIm1) rfl
  | zIm2 => exact decode_ed (t := .zIm2) rfl
  | zLdIA => exact decode_ed (t := .zLdIA) rfl
  | zLdRfA => exact decode_ed (t := .zLdRfA) rfl
  | zLdAI => exact decode_ed (t := .zLdAI) rfl
  | zLdARf => exact decode_ed (t := .zLdARf) rfl
  | zRrd => exact decode_ed (t := .zRrd) rfl
  | zRld => exact decode_ed (t := .zRld) rfl
  | zLdi => exact decode_ed (t := .zLdi) rfl
  | zCpi => exact decode_ed (t := .zCpi) rfl
  | zIni => exact decode_ed (t := .zIni) rfl
  | zOuti => exact decode_ed (t := .zOuti) rfl
  | zLdd => exact decode_ed (t := .zLdd) rfl
  | zCpd => exact decode_ed (t := .zCpd) rfl
  | zInd => exact decode_ed (t := .zInd) rfl
  | zOutd => exact decode_ed (t := .zOutd) rfl
  | zLdir => exact decode_ed (t := .zLdir) rfl
  | zCpir => exact decode_ed (t := .zCpir) rfl
  | zInir => exact decode_ed (t := .zInir) rfl
  | zOtir => exact decode_ed (t := .zOtir) rfl
  | zLddr => exact decode_ed (t := .zLddr) rfl
  | zCpdr => exact decode_ed (t := .zCpdr) rfl
  | zIndr => exact decode_ed (t := .zIndr) rfl
  | zOtdr => exact decode_ed (t := .zOtdr) rfl
  | zAddXx x p =>
    exact (decode_xx ((by decide +kernel : ∀ f : BitVec 2, xxTag (0#2 ++ f ++ 9#4) = some .zAddXx) p.code)).trans
      (congrArg (fun p => (Instr.zAddXx x p, bs)) (pairX_mid 0#2 p 9#4))
  | zLdXxImm x nn =>
    exact (decode_xx (t := .zLdXxImm) rfl).trans
      (congrArg (fun nn => (Instr.zLdXxImm x nn, bs)) (wordLe_leBytes nn bs))
  | zLdNnXx x nn =>
    exact (decode_xx (t := .zLdNnXx) rfl).trans
      (congrArg (fun nn => (Instr.zLdNnXx x nn, bs)) (wordLe_leBytes nn bs))
  | zIncXx x => exact decode_xx (t := .zIncXx) rfl
  | zLdXxNn x nn =>
    exact (decode_xx (t := .zLdXxNn) rfl).trans
      (congrArg (fun nn => (Instr.zLdXxNn x nn, bs)) (wordLe_leBytes nn bs))
  | zDecXx x => exact decode_xx (t := .zDecXx) rfl
  | zIncXd x d => exact decode_xx (t := .zIncXd) rfl
  | zDecXd x d => exact decode_xx (t := .zDecXd) rfl
  | zLdXdImm x d n => exact decode_xx (t := .zLdXdImm) rfl
  | zLdRXd x r d =>
    exact (decode_xx ((by decide +kernel : ∀ f : BitVec 3, f ≠ 6#3 → xxTag (1#2 ++ f ++ 6#3)
      = some .zLdRXd) r.code (reg_code_ne r))).trans
      (congrArg (fun r => (Instr.zLdRXd x r d, bs)) (reg_mid 1#2 r 6#3))
  | zLdXdR x r d =>
    exact (decode_xx ((by decide +kernel : ∀ f : BitVec 3, f ≠ 6#3 → xxTag (14#5 ++ f)
      = some .zLdXdR) r.code (reg_code_ne r))).trans
      (congrArg (fun r => (Instr.zLdXdR x r d, bs)) (reg_low 14#5 r))
  | zAddXd x d => exact decode_xx (t := .zAddXd) rfl
  | zAdcXd x d => exact decode_xx (t := .zAdcXd) rfl
  | zSubXd x d => exact decode_xx (t := .zSubXd) rfl
  | zSbcXd x d => exact decode_xx (t := .zSbcXd) rfl
  | zAndXd x d => exact decode_xx (t := .zAndXd) rfl
  | zXorXd x d => exact decode_xx (t := .zXorXd) rfl
  | zOrXd x d => exact decode_xx (t := .zOrXd) rfl
  | zCpXd x d => exact decode_xx (t := .zCpXd) rfl
  | zPopXx x => exact decode_xx (t := .zPopXx) rfl
  | zExSpXx x => exact decode_xx (t := .zExSpXx) rfl
  | zPushXx x => exact decode_xx (t := .zPushXx) rfl
  | zJpXx x => exact decode_xx (t := .zJpXx) rfl
  | zLdSpXx x => exact decode_xx (t := .zLdSpXx) rfl
  | zDdcbPrefix x d op => exact decode_ddcbPrefix h
  | zRlcXd x d => exact decode_xxcb (t := .zRlcXd) rfl
  | zRrcXd x d => exact decode_xxcb (t := .zRrcXd) rfl
  | zRlXd x d => exact decode_xxcb (t := .zRlXd) rfl
  | zRrXd x d => exact decode_xxcb (t := .zRrXd) rfl
  | zSlaXd x d => exact decode_xxcb (t := .zSlaXd) rfl
  | zSraXd x d => exact decode_xxcb (t := .zSraXd) rfl
  | zSrlXd x d => exact decode_xxcb (t := .zSrlXd) rfl
  | zBitXd x d b =>
    exact (decode_xxcb ((by decide +kernel : ∀ f : BitVec 3, tagZ80 pageXxcb (1#2 ++ f ++ 6#3) = some .zBitXd) b)).trans
      (congrArg (fun b => (Instr.zBitXd x d b, bs)) (mid3 1#2 b 6#3))
  | zResXd x d b =>
    exact (decode_xxcb ((by decide +kernel : ∀ f : BitVec 3, tagZ80 pageXxcb (2#2 ++ f ++ 6#3) = some .zResXd) b)).trans
      (congrArg (fun b => (Instr.zResXd x d b, bs)) (mid3 2#2 b 6#3))
  | zSetXd x d b =>
    exact (decode_xxcb ((by decide +kernel : ∀ f : BitVec 3, tagZ80 pageXxcb (3#2 ++ f ++ 6#3) = some .zSetXd) b)).trans
      (congrArg (fun b => (Instr.zSetXd x d b, bs)) (mid3 3#2 b 6#3))
  | _ => exact absurd hi.symm Bool.false_ne_true

end Sys2Proof.Laws
end

section
/-! M68K instructions that complete (42 to 45), by the shapes they share: an operand read, a destination updated or written, an
address, or registers only. -/

namespace Sys2Proof.Laws

open Sys2Proof.Machine

/-! ### What a read leaves -/

/-- A read of a place changes nothing but how far the oracle's stream is (20 R131). -/
theorem readPlace_eq (s : State) (p : Place) : ∃ k, (s.readPlace p).2 = s.mapBus fun b => { b with draws := k } := by
  cases p with
  | rom off =>
    rw [State.readPlace]
    split
    · exact ⟨s.bus.draws, rfl⟩
    · exact ⟨_, rfl⟩
  | wram off => exact ⟨s.bus.draws, rfl⟩
  | zram off => exact ⟨s.bus.draws, rfl⟩
  | _ => exact ⟨_, rfl⟩

theorem readPlaces_eq (s : State) (ps : List Place) : ∃ k, (s.readPlaces ps).2 = s.mapBus fun b => { b with draws := k } := by
  induction ps generalizing s with
  | nil => exact ⟨s.bus.draws, rfl⟩
  | cons p r ih =>
    obtain ⟨j, hj⟩ := readPlace_eq s p
    obtain ⟨k, hk⟩ := ih (s.readPlace p).2
    exact ⟨k, hk.trans (by rw [hj]; rfl)⟩

theorem plainRead_eq (s : State) (ps : List Place) : ∃ k, (s.plainRead ps).2 = s.mapBus fun b => { b with draws := k } :=
  readPlaces_eq s ps

/-- A load changes nothing but how far the oracle's stream is. -/
theorem loadAt_eq {s t : State} {sz : Size} {a : Long} {v : BitVec sz.bits} (h : s.loadAt sz a = some (v, t)) :
    ∃ k, t = s.mapBus fun b => { b with draws := k } := by
  rw [State.loadAt, Option.map_eq_some_iff] at h
  obtain ⟨ps, -, h⟩ := h
  cases h
  exact plainRead_eq s ps

/-- Where an access goes does not depend on the oracle's stream. -/
theorem placesHere_draws (s : State) (sz : Size) (a : Long) (k : Nat) :
    (s.mapBus fun b => { b with draws := k }).placesHere sz a = s.placesHere sz a := rfl

/-- A byte access has one place. -/
theorem placesHere_byte {s : State} {a : Long} {ps : List Place} (h : s.placesHere .b a = some ps) : ∃ p, ps = [p] := by
  obtain ⟨-, hr, -⟩ := placesHere_some h
  rw [route68k] at hr
  split at hr
  · cases hr
  · rename_i qs hq
    have e : qs = ps := by
      split at hr
      · cases hr; rfl
      · cases hr
    subst e
    simp only [places68k, bytes68k, Size.bytes, List.range_one, List.map_cons, List.map_nil, List.mapM_cons, List.mapM_nil,
      Option.filter_eq_some_iff] at hq
    obtain ⟨p, -, hp⟩ := Option.bind_eq_some_iff.1 hq.1
    exact ⟨p, (Option.some.inj hp).symm⟩

/-! ### One law for each shape -/

/-- An instruction whose rule updates its destination, `k` words after its operation word. -/
theorem updateCompletes {i : Instr} {sz : Size} {ea : Ea} {k : Nat} {rule : Op (List Nat)} {data : List Nat}
    {f : BitVec sz.bits → M68k → BitVec sz.bits × Ccr} (hx : ∀ s, exec i s = run68k i rule s)
    (hr : ∀ {s t : State}, Gives (updateEa sz ea f) (s.past k, []) [] (t, []) → Gives rule (s.past 1, []) data (t, [])) :
    UpdateCompletes i sz ea k f data :=
  fun s _ _ _ _ _ hs hl hv hw => next68k (hx s) hs (hr (gives_updateEa hl hv hw))

/-- As `updateCompletes`, with the destination's words first. -/
theorem updateCompletes_first {i : Instr} {sz : Size} {ea : Ea} {f : BitVec sz.bits → M68k → BitVec sz.bits × Ccr}
    (hx : ∀ s, exec i s = run68k i (updateEa sz ea f) s) : UpdateCompletes i sz ea 1 f [] :=
  updateCompletes hx id

/-- As `updateCompletes`, with words of the instruction before those of the destination. -/
theorem updateCompletes_skip {i : Instr} {sz : Size} {ea : Ea} {k : Nat} {f : BitVec sz.bits → M68k → BitVec sz.bits × Ccr}
    (hx : ∀ s, exec i s = run68k i (do skipWords k; updateEa sz ea f) s) : UpdateCompletes i sz ea (1 + k) f [] :=
  updateCompletes hx fun {s _} h => gives_bind (gives_skipWords k _) (by rw [past_past]; exact h)

/-- An instruction whose rule reads its source, and then writes registers. -/
theorem sourceCompletes {i : Instr} {sz : Size} {ea : Ea} {rule : BitVec sz.bits → Op (List Nat)}
    {f : BitVec sz.bits → M68k → M68k} {data : BitVec sz.bits → M68k → List Nat}
    (hx : ∀ s, exec i s = run68k i (readEa sz ea >>= rule) s)
    (hr : ∀ v t, Gives (rule v) (t, []) (data v t.m68k) (t.mapM68k (f v), [])) : SourceCompletes i sz ea 1 f data :=
  fun s _ _ _ _ hs hl hv => next68k (hx s) hs (gives_bind (gives_readEa hl hv) (hr _ _))

/-- As `sourceCompletes`, with words of the instruction before those of the source. -/
theorem sourceCompletes_skip {i : Instr} {sz : Size} {ea : Ea} {k : Nat} {rule : BitVec sz.bits → Op (List Nat)}
    {f : BitVec sz.bits → M68k → M68k} {data : BitVec sz.bits → M68k → List Nat}
    (hx : ∀ s, exec i s = run68k i (do skipWords k; readEa sz ea >>= rule) s)
    (hr : ∀ v t, Gives (rule v) (t, []) (data v t.m68k) (t.mapM68k (f v), [])) : SourceCompletes i sz ea (1 + k) f data :=
  fun s _ _ _ _ hs hl hv => next68k (hx s) hs
    (gives_bind (gives_skipWords k _) (gives_bind (gives_readEa (by rw [past_past]; exact hl) hv) (hr _ _)))

/-- An instruction whose rule writes its destination, and then registers. -/
theorem writeCompletes {i : Instr} {sz : Size} {ea : Ea} {rule : Loc → Op (List Nat)} {value : M68k → BitVec sz.bits}
    {after : M68k → M68k} {data : M68k → List Nat} (hx : ∀ s, exec i s = run68k i (resolve sz ea >>= rule) s)
    (hr : ∀ loc s t, s.writeAt sz loc (value s.m68k) = some t → Gives (rule loc) (s, []) (data s.m68k) (t.mapM68k after, [])) :
    WriteCompletes i sz ea value after data :=
  fun s _ _ _ hs hl hw => next68k (hx s) hs (gives_bind (gives_resolve _ hl) (hr _ _ _ hw))

/-- An instruction whose rule writes registers only. -/
theorem registerCompletes {i : Instr} {rule : Op (List Nat)} {f : M68k → M68k} {data : M68k → List Nat}
    (hx : ∀ s, exec i s = run68k i rule s)
    (hr : ∀ s : State, Gives rule (s.past 1, []) (data s.m68k) ((s.past 1).mapM68k f, [])) : RegisterCompletes i f data :=
  fun s hs => next68k (hx s) hs (hr s)

/-- As `registerCompletes`, after the privilege check. -/
theorem supervisorCompletes {i : Instr} {rule : Op (List Nat)} {f : M68k → M68k}
    (hx : ∀ s, exec i s = run68k i (do privileged; rule) s)
    (hr : ∀ s : State, Gives rule (s.past 1, []) [] ((s.past 1).mapM68k f, [])) : SupervisorCompletes i f :=
  fun s hs hp => next68k (hx s) hs (gives_bind (gives_privileged _ hp) (hr s))

/-- An instruction whose rule takes the address of its operand, and then writes registers. -/
theorem addressCompletes {i : Instr} {ea : Ea} {rule : Long → Op (List Nat)} {f : Long → M68k → M68k}
    (hx : ∀ s, exec i s = run68k i (resolveAddress .l ea >>= rule) s)
    (hr : ∀ a t, Gives (rule a) (t, []) [] (t.mapM68k (f a), [])) : AddressCompletes i ea f :=
  fun s _ _ hs hl => next68k (hx s) hs (gives_bind (gives_resolveAddress _ hl) (hr _ _))

/-- Registers written, and no cycles data. -/
theorem gives_setM68k_done (f : M68k → M68k) (s : State) :
    Gives (do setM68k f; pure []) (s, []) ([] : List Nat) (s.mapM68k f, []) :=
  gives_bind (gives_setM68k _ _) (gives_pure _ _)

/-- As `gives_setM68k_done`, for two writes that come to one. -/
theorem gives_setM68k_twice_done {f g k : M68k → M68k} {s : State} (h : g (f s.m68k) = k s.m68k) :
    Gives (do setM68k f; setM68k g; pure []) (s, []) ([] : List Nat) (s.mapM68k k, []) :=
  gives_bind (gives_setM68k _ _) (gives_to (gives_setM68k_done _ _) rfl (point_congr68k (f := fun m => g (f m)) h))

/-! ### Moves -/

theorem gives_moveOp {sz : Size} {src dst : Ea} {s s1 s2 s3 s4 : State} {ls ld : Loc} {v : BitVec sz.bits}
    (hls : s.locate sz src = some (ls, s1)) (hld : s1.locate sz dst = some (ld, s2)) (hr : s2.readAt sz ls = some (v, s3))
    (hw : s3.writeAt sz ld v = some s4) : Gives (moveOp sz src dst) (s, []) [] (s4.logicCcr v, []) :=
  gives_bind (gives_resolve _ hls) (gives_bind (gives_resolve _ hld) (gives_bind (gives_readLoc hr) (gives_bind (gives_writeLoc hw)
    (gives_bind (gives_getCcr _) (gives_bind (gives_setCcr _ _) (gives_pure _ _))))))

/-- Settles O1: the rule of MOVE, access by access. -/
theorem moveCompletes : Obligations.MoveCompletes := by
  intro sz mk h s src dst ls s1 ld s2 v s3 s4 hs hls hld hr hw
  simp only [List.mem_cons, Prod.mk.injEq, List.not_mem_nil, or_false] at h
  obtain ⟨rfl, rfl⟩ | ⟨rfl, rfl⟩ | ⟨rfl, rfl⟩ := h
  · exact next68k rfl hs (gives_moveOp hls hld hr hw)
  · exact next68k rfl hs (gives_moveOp hls hld hr hw)
  · exact next68k rfl hs (gives_moveOp hls hld hr hw)

theorem gives_readEaLong_set {sz : Size} {ea : Ea} {loc : Loc} {v : BitVec sz.bits} {s s1 t : State} (f : Long → M68k → M68k)
    (hl : s.locate sz ea = some (loc, s1)) (hv : s1.readAt sz loc = some (v, t)) :
    Gives (do let v ← readEaLong sz ea; setM68k (f v); pure []) (s, []) ([] : List Nat)
      (t.mapM68k (f (v.signExtend 32)), []) :=
  gives_bind (gives_bind (gives_readEa hl hv) (gives_pure _ _)) (gives_setM68k_done _ _)

/-- Settles O2: each writes one address register from its source or its address. -/
theorem addressRegisterWritesComplete : Obligations.AddressRegisterWritesComplete :=
  ⟨fun _ _ => sourceCompletes (fun _ => rfl) fun _ _ => gives_setM68k_done _ _,
   fun _ _ => sourceCompletes (fun _ => rfl) fun _ _ => gives_setM68k_done _ _,
   fun _ _ n _ _ _ _ _ hs hl hv => next68k rfl hs (gives_readEaLong_set (fun v m => m.setA n (m.areg n + v)) hl hv),
   fun _ _ n _ _ _ _ _ hs hl hv => next68k rfl hs (gives_readEaLong_set (fun v m => m.setA n (m.areg n - v)) hl hv),
   fun _ _ => addressCompletes (fun _ => rfl) fun _ _ => gives_setM68k_done _ _⟩

/-! ### Arithmetic and logic -/

/-- The `<ea>,Dn` form (43 R370). -/
theorem eaToDnCompletes {mk : Size → Ea → Reg → Instr} {f : (n : Nat) → Alu n}
    (hx : ∀ sz ea n s, exec (mk sz ea n) s = run68k (mk sz ea n) (eaToDn sz ea n (f sz.bits)) s) : EaToDnCompletes mk f :=
  fun s sz ea n _ _ _ _ hs hl hv => next68k (hx sz ea n s) hs
    (gives_to (gives_eaToDn n (f sz.bits) hl hv) rfl (point_congr68k rfl))

/-- Settles O3: both directions are the shared rules of 43 R370. -/
theorem registerAndLocationArithmeticCompletes : Obligations.RegisterAndLocationArithmeticCompletes :=
  ⟨⟨eaToDnCompletes fun _ _ _ _ => rfl, eaToDnCompletes fun _ _ _ _ => rfl, eaToDnCompletes fun _ _ _ _ => rfl,
      eaToDnCompletes fun _ _ _ _ => rfl⟩,
   fun _ _ _ => ⟨updateCompletes_first fun _ => rfl, updateCompletes_first fun _ => rfl, updateCompletes_first fun _ => rfl,
      updateCompletes_first fun _ => rfl, updateCompletes_first fun _ => rfl⟩⟩

/-- Settles O4: the immediate words are passed, then the destination is updated. -/
theorem immediateToLocationCompletes : Obligations.ImmediateToLocationCompletes :=
  fun _ _ _ => ⟨updateCompletes_skip fun _ => rfl, updateCompletes_skip fun _ => rfl, updateCompletes_skip fun _ => rfl,
    updateCompletes_skip fun _ => rfl, updateCompletes_skip fun _ => rfl⟩

/-- ADDQ and SUBQ on every operand but an address register update it (43 R374). -/
theorem quickToEa_of_ne_an {sz : Size} {q : BitVec 3} {ea : Ea} {onAn : Long → Long → Long} {f : Alu sz.bits} (h : ea.kind ≠ .an) :
    quickToEa sz q ea onAn f = updateEa sz ea fun d m => f (BitVec.ofNat sz.bits (quickValue q)) d m.ccr := by
  cases ea with
  | an n => exact absurd rfl h
  | _ => rfl

/-- Settles O5: an address register is written whole, every other operand is updated. -/
theorem quickCompletes : Obligations.QuickCompletes :=
  ⟨fun _ _ _ => registerCompletes (fun _ => rfl) fun _ => gives_setM68k_done _ _,
   fun _ _ _ => registerCompletes (fun _ => rfl) fun _ => gives_setM68k_done _ _,
   fun _ q ea h => updateCompletes_first fun s => congrArg (run68k (.addq _ q ea) · s) (quickToEa_of_ne_an h),
   fun _ q ea h => updateCompletes_first fun s => congrArg (run68k (.subq _ q ea) · s) (quickToEa_of_ne_an h)⟩

theorem gives_extended_regs {sz : Size} (y x : Reg) (f : Alu sz.bits) (s : State) :
    Gives (extended sz false y x f) (s, []) [] (s.mapM68k fun m =>
      (m.setDPart x sz (f ((m.dreg y).setWidth sz.bits) ((m.dreg x).setWidth sz.bits) m.ccr).1).setCcr
        (f ((m.dreg y).setWidth sz.bits) ((m.dreg x).setWidth sz.bits) m.ccr).2, []) :=
  gives_bind (gives_m68kRegs _) (gives_bind (gives_setM68k_to _ rfl) (gives_pure _ _))

theorem gives_extended_mem {sz : Size} {y x : Reg} {f : Alu sz.bits} {s s1 s2 s3 s4 s5 : State} {ls ld : Loc} {v d : BitVec sz.bits}
    (hls : s.locate sz (.pre y) = some (ls, s1)) (hv : s1.readAt sz ls = some (v, s2))
    (hld : s2.locate sz (.pre x) = some (ld, s3)) (hd : s3.readAt sz ld = some (d, s4))
    (hw : s4.writeAt sz ld (f v d s4.m68k.ccr).1 = some s5) :
    Gives (extended sz true y x f) (s, []) [] (s5.withCcr (f v d s4.m68k.ccr).2, []) :=
  gives_bind (gives_readEa hls hv) (gives_bind (gives_resolve _ hld) (gives_bind (gives_readLoc hd) (gives_bind (gives_m68kRegs _)
    (gives_bind (gives_writeLoc hw) (gives_bind (gives_setCcr _ _) (gives_pure _ _))))))

/-- Settles O6: ADDX and SUBX share one rule, on registers and on memory. -/
theorem extendedArithmeticCompletes : Obligations.ExtendedArithmeticCompletes := by
  rintro mk f (⟨rfl, rfl⟩ | ⟨rfl, rfl⟩)
  · exact ⟨fun _ _ _ => registerCompletes (fun _ => rfl) fun _ => gives_extended_regs _ _ aluAddX _,
      fun _ _ _ _ _ _ _ _ _ _ _ _ _ hs hls hv hld hd hw =>
        next68k rfl hs (gives_extended_mem (f := aluAddX) hls hv hld hd hw)⟩
  · exact ⟨fun _ _ _ => registerCompletes (fun _ => rfl) fun _ => gives_extended_regs _ _ aluSubX _,
      fun _ _ _ _ _ _ _ _ _ _ _ _ _ hs hls hv hld hd hw =>
        next68k rfl hs (gives_extended_mem (f := aluSubX) hls hv hld hd hw)⟩

/-- Settles O7: three updates, and three writes of a destination that is not read. -/
theorem negationAndWriteOnlyComplete : Obligations.NegationAndWriteOnlyComplete := by
  refine ⟨fun _ _ => ⟨updateCompletes_first fun _ => rfl, updateCompletes_first fun _ => rfl, updateCompletes_first fun _ => rfl⟩,
    fun _ _ => writeCompletes (fun _ => rfl) fun loc s t h => ?_, fun _ _ => writeCompletes (fun _ => rfl) fun loc s t h => ?_,
    fun _ => writeCompletes (fun _ => rfl) fun loc s t h => ?_⟩
  · exact gives_bind (gives_writeLoc h) (gives_bind (gives_getCcr _) (gives_bind (gives_setM68k_to _ rfl) (gives_pure _ _)))
  · exact gives_bind (gives_getCcr _) (gives_bind (gives_writeLoc h) (gives_pure _ _))
  · exact gives_bind (gives_m68kRegs _) (gives_bind (gives_writeLoc h) (gives_pure _ _))

theorem gives_compareOp {n : Nat} (a b : BitVec n) (s : State) :
    Gives (compareOp a b) (s, []) [] (s.mapM68k fun m => m.setCcr (flagsCmp a b (b - a) m.ccr), []) :=
  gives_bind (gives_getCcr _) (gives_bind (gives_setM68k_to _ rfl) (gives_pure _ _))

/-- Settles O8: each reads its operands and writes the flags of the comparison. -/
theorem comparesComplete : Obligations.ComparesComplete := by
  refine ⟨fun sz ea n => sourceCompletes (fun _ => rfl) fun v t => ?_, fun sz ea n s loc s1 v s2 hs hl hv => ?_,
    fun sz imm ea => sourceCompletes_skip (fun _ => rfl) fun v t => gives_compareOp _ _ _,
    fun s sz y x ls s1 v s2 ld s3 d s4 hs hls hv hld hd => ?_, fun sz ea => sourceCompletes (fun _ => rfl) fun v t => ?_⟩
  · exact gives_bind (gives_m68kRegs _) (gives_to (gives_compareOp _ _ _) rfl (point_congr68k rfl))
  · exact next68k rfl hs (gives_bind (gives_bind (gives_readEa hl hv) (gives_pure _ _))
      (gives_bind (gives_m68kRegs _) (gives_to (gives_compareOp _ _ _) rfl (point_congr68k rfl))))
  · exact next68k rfl hs (gives_bind (gives_readEa hls hv) (gives_bind (gives_readEa hld hd) (gives_compareOp _ _ _)))
  · exact gives_bind (gives_getCcr _) (gives_bind (gives_setM68k_to _ rfl) (gives_pure _ _))

/-- Rotating a long by 16 exchanges its halves. -/
theorem rotateLeft_16_eq_halves (v : Long) : v.rotateLeft 16 = v.extractLsb' 0 16 ++ v.extractLsb' 16 16 := by
  refine BitVec.eq_of_getLsbD_eq fun i hi => ?_
  rw [BitVec.getLsbD_rotateLeft]
  refine Eq.trans ?_ (BitVec.getLsbD_append (x := v.extractLsb' 0 16) (y := v.extractLsb' 16 16)).symm
  by_cases h : i < 16
  · simp [h]
  · have : i - 16 < 16 := by omega
    simp [h, hi, this]

/-- Settles O9: registers only. -/
theorem registerMovesComplete : Obligations.RegisterMovesComplete := by
  refine ⟨fun n d => registerCompletes (fun _ => rfl) fun s => gives_setM68k_done _ _,
    fun n => registerCompletes (fun s => show exec (.swap n) s = execSwap n s from rfl) fun s => ?_,
    fun n => registerCompletes (fun s => show exec (.extW n) s = execExtW n s from rfl) fun s => ?_,
    fun n => registerCompletes (fun s => show exec (.extL n) s = execExtL n s from rfl) fun s => ?_,
    fun x y => registerCompletes (fun _ => rfl) fun s => gives_setM68k_done _ _,
    fun x y => registerCompletes (fun _ => rfl) fun s => gives_setM68k_done _ _,
    fun x y => registerCompletes (fun _ => rfl) fun s => gives_setM68k_done _ _⟩
  · exact gives_bind (gives_m68kRegs _) (gives_to (gives_setM68k_done _ _) rfl
      (point_congr68k (by simp only [rotateLeft_16_eq_halves])))
  · exact gives_bind (gives_m68kRegs _) (gives_bind (gives_setM68k_to _ rfl) (gives_pure _ _))
  · exact gives_bind (gives_m68kRegs _) (gives_to (gives_setM68k_done _ _) rfl (point_congr68k rfl))

/-! ### Stack frames and transfers of several registers -/

/-- A branch of a rule whose condition holds. -/
theorem gives_if_pos {α : Type} {c : Prop} [Decidable c] {x y : Op α} {a : α} {p q : Point} (hc : c) (h : Gives x p a q) :
    Gives (if c then x else y) p a q := by
  rw [if_pos hc]
  exact h

/-- A branch of a rule whose condition fails. -/
theorem gives_if_neg {α : Type} {c : Prop} [Decidable c] {x y : Op α} {a : α} {p q : Point} (hc : ¬c) (h : Gives y p a q) :
    Gives (if c then x else y) p a q := by
  rw [if_neg hc]
  exact h

/-- A rule that refuses, whatever the state, refuses its instruction. -/
theorem refused68k {x : Host.Outcome State Fault Refusal} {i : Instr} {rule : Op (List Nat)} {r : Refusal} {s : State}
    (hx : x = run68k i rule s) (h : ∀ c, ∃ d, rule c = .error (.refused r) d) : x = .refused r := by
  obtain ⟨d, hd⟩ := h { s.start68k with st := s.start68k.st.past 1 }
  have e : (do setM68k fun m => m.skip 1; let data ← rule; spend68k (i.cost68k data)) s.start68k
      = .error (.refused r) d := by
    show EStateM.bind (setM68k _) _ s.start68k = _
    simp only [EStateM.bind, setM68k, Op.modify]
    show (rule >>= _) _ = _
    simp only [bind, EStateM.bind]
    exact hd ▸ rfl
  rw [hx, run68k, e]
  rfl

/-- A write of an address register other than A7 keeps the stack pointer. -/
theorem setA_sp {m : M68k} {n : Reg} {v : Long} (h : n ≠ 7#3) : (m.setA n v).sp = m.sp := by simp [M68k.sp, areg_setA, h]

/-- Settles O10: stack transfers, and the refusals of A7. -/
theorem framesComplete : Obligations.FramesComplete := by
  refine ⟨fun s ea a s1 t hs hl hp => ?_, fun s n d t hs hn hp => ?_, fun s n v t hs hn hv => ?_, fun s d => ?_, fun s => ?_⟩
  · exact next68k rfl hs (gives_bind (gives_resolveAddress _ hl) (gives_bind (gives_push68k hp) (gives_pure _ _)))
  · exact next68k rfl hs (gives_bind (gives_skipWords 1 _) (gives_if_neg hn (gives_bind (gives_m68kRegs _)
      (gives_bind (gives_push68k (by rw [past_past]; exact hp)) (gives_setM68k_twice_done (by simp [setA_sp hn]))))))
  · exact next68k rfl hs (gives_if_neg hn (gives_bind (gives_setM68k _ _) (gives_bind (gives_m68kRegs _)
      (gives_bind (gives_load68k (by simpa [State.past] using hv)) (gives_setM68k_twice_done (by simp [setA_sp hn]))))))
  · exact refused68k (show exec (.link 7#3 d) s = execLink 7#3 d s from rfl) fun c => ⟨_, rfl⟩
  · exact refused68k (show exec (.unlk 7#3) s = execUnlk 7#3 s from rfl) fun c => ⟨_, rfl⟩

end Sys2Proof.Laws
end

section
/-! M68K instructions that complete, the others: transfers of several registers, SR, returns, multiplication and division, bits,
jumps, traps (42 to 45, 60). -/

namespace Sys2Proof.Laws

open Sys2Proof.Machine

/-! ### MOVEM and MOVEP -/

theorem gives_movemStoreDown {sz : Size} {base : Reg} {a0 : Long} {l : List (BitVec 4)} {s t : State} {a b : Long}
    (h : s.movemDownAt sz base a0 l a = some (b, t)) : Gives (movemStoreDown sz base a0 l a) (s, []) b (t, []) := by
  induction l generalizing s a with
  | nil => cases h; exact gives_pure _ _
  | cons i r ih =>
    simp only [State.movemDownAt] at h
    split at h
    · cases h
    · exact gives_bind (gives_m68kRegs _) (gives_bind (gives_store68k ‹_›) (ih h))

theorem gives_movemStoreUp {sz : Size} {l : List (BitVec 4)} {s t : State} {a : Long} (h : s.movemUpAt sz l a = some t) :
    Gives (movemStoreUp sz l a) (s, []) () (t, []) := by
  induction l generalizing s a with
  | nil => cases h; exact gives_pure _ _
  | cons i r ih =>
    simp only [State.movemUpAt] at h
    split at h
    · cases h
    · exact gives_bind (gives_m68kRegs _) (gives_bind (gives_store68k ‹_›) (ih h))

theorem gives_movemLoadUp {sz : Size} {l : List (BitVec 4)} {s t : State} {a b : Long}
    (h : s.movemLoadAt sz l a = some (b, t)) : Gives (movemLoadUp sz l a) (s, []) b (t, []) := by
  induction l generalizing s a with
  | nil => cases h; exact gives_pure _ _
  | cons i r ih =>
    simp only [State.movemLoadAt] at h
    split at h
    · cases h
    · exact gives_bind (gives_load68k ‹_›) (gives_bind (gives_setM68k _ _) (ih h))

/-- MOVEP's value from its bytes, above what was read before. -/
def movepValue (v : Long) (bs : List Byte) : Long := bs.foldl (fun v b => (v <<< 8) ||| b.setWidth 32) v

theorem gives_movepRead {k : Nat} {s t : State} {a v : Long} {bs : List Byte} (h : s.movepLoadAt k a = some (bs, t)) :
    Gives (movepRead k a v) (s, []) (movepValue v bs) (t, []) := by
  induction k generalizing s a v bs with
  | zero => cases h; exact gives_pure _ _
  | succ k ih =>
    simp only [State.movepLoadAt] at h
    split at h
    · cases h
    · rename_i hl
      simp only [Option.map_eq_some_iff, Prod.exists, Prod.mk.injEq] at h
      obtain ⟨cs, u, hr, rfl, rfl⟩ := h
      exact gives_bind (gives_load68k hl) (ih hr)

theorem movepLoadAt_length {k : Nat} {s t : State} {a : Long} {bs : List Byte} (h : s.movepLoadAt k a = some (bs, t)) :
    bs.length = k := by
  induction k generalizing s a bs with
  | zero => cases h; rfl
  | succ k ih =>
    simp only [State.movepLoadAt] at h
    split at h
    · cases h
    · simp only [Option.map_eq_some_iff, Prod.exists, Prod.mk.injEq] at h
      obtain ⟨cs, u, hr, rfl, rfl⟩ := h
      simp [ih hr]

/-- A byte appended below a value is that value shifted, with the byte in its low bits. -/
theorem append_byte_eq {n : Nat} (v : BitVec n) (b : Byte) :
    (v ++ b).setWidth 32 = (v.setWidth 32 <<< 8 ||| b.setWidth 32 : Long) := by
  refine BitVec.eq_of_getLsbD_eq fun i hi => ?_
  simp only [BitVec.getLsbD_setWidth, BitVec.getLsbD_append, BitVec.getLsbD_or, BitVec.getLsbD_shiftLeft, hi, decide_true,
    Bool.true_and]
  by_cases h8 : i < 8
  · simp [h8]
  · have : i - 8 < 32 := by omega
    simp [h8, this, BitVec.getLsbD_of_ge b i (by omega)]

/-- MOVEP's bytes are those of a word or a long, the highest first (42 R336). -/
theorem movepValue_eq {sz : Size} {bs : List Byte} (hsz : sz ≠ .b) (h : bs.length = sz.bytes) :
    movepValue 0 bs = ofBigEndian bs := by
  cases sz with
  | b => exact absurd rfl hsz
  | w =>
    obtain ⟨a, b, rfl⟩ := List.length_eq_two.1 h
    rw [ofBigEndian, append_byte_eq a b]
    simp [movepValue]
  | l =>
    match bs, h with
    | [a, b, c, d], _ =>
      have e : a ++ b ++ c ++ d = (a ++ b ++ c ++ d : Long).setWidth 32 := (BitVec.setWidth_eq _).symm
      rw [ofBigEndian, e, append_byte_eq (a ++ b ++ c) d, append_byte_eq (a ++ b) c,
        append_byte_eq a b]
      simp [movepValue]

/-- How many bytes MOVEP moves. -/
theorem movepCount_eq {sz : Size} (h : sz ≠ .b) : movepCount sz = sz.bytes := by
  cases sz with
  | b => exact absurd rfl h
  | _ => rfl

/-- The bytes that MOVEP stores, the highest of the `k` first. -/
def movepBytes (v : Long) : Nat → List Byte
  | 0 => []
  | k + 1 => (v >>> (8 * k)).setWidth 8 :: movepBytes v k

theorem gives_movepWrite {k : Nat} {s t : State} {a v : Long} (h : s.movepStoreAt (movepBytes v k) a = some t) :
    Gives (movepWrite k a v) (s, []) () (t, []) := by
  induction k generalizing s a with
  | zero => cases h; exact gives_pure _ _
  | succ k ih =>
    simp only [movepBytes, State.movepStoreAt] at h
    split at h
    · cases h
    · exact gives_bind (gives_store68k ‹_›) (ih h)

/-- The low byte of a value shifted right. -/
theorem setWidth_ushiftRight_eq (v : Long) (k : Nat) : (v >>> k).setWidth 8 = v.extractLsb' k 8 :=
  BitVec.eq_of_toNat_eq (by simp)

theorem movepBytes_eq {sz : Size} (v : Long) (h : sz ≠ .b) : movepBytes v (movepCount sz) = bigEndian sz v := by
  cases sz with
  | b => exact absurd rfl h
  | w => simp [movepBytes, movepCount, bigEndian, ← setWidth_ushiftRight_eq]
  | l => simp [movepBytes, movepCount, bigEndian, ← setWidth_ushiftRight_eq]

/-- Every form of MOVEM's stores but the predecrement one (42 R334). -/
theorem exec_movemStore_of_ne_pre {sz : Size} {mask : Word} {ea : Ea} (s : State) (h : ea.kind ≠ .pre) :
    exec (.movemStore sz mask ea) s = run68k (.movemStore sz mask ea) (do
      skipWords 1
      let a ← resolveAddress sz ea
      movemStoreUp sz (maskBits mask) a
      pure []) s := by
  cases ea with
  | pre n => exact absurd rfl h
  | _ => rfl

/-- Every form of MOVEM's loads but the postincrement one (42 R335). -/
theorem exec_movemLoad_of_ne_post {sz : Size} {mask : Word} {ea : Ea} (s : State) (h : ea.kind ≠ .post) :
    exec (.movemLoad sz mask ea) s = run68k (.movemLoad sz mask ea) (do
      skipWords 1
      let a ← resolveAddress sz ea
      let _ ← movemLoadUp sz (maskBits mask) a
      pure []) s := by
  cases ea with
  | post n => exact absurd rfl h
  | _ => rfl

/-- Settles O11: the transfers by induction on the registers or bytes moved. -/
theorem movemAndMovepComplete : Obligations.MovemAndMovepComplete := by
  refine ⟨⟨fun s sz mask n a t hs hm => ?_, fun s sz mask ea a s1 t hs he hl hm => ?_,
    fun s sz mask n a t hs hm => ?_, fun s sz mask ea a b s1 t hs he hl hm => ?_⟩,
    fun s sz x y d bs t hs hb hm => ?_, fun s sz x y d t hs hb hm => ?_⟩
  · exact next68k rfl hs (gives_bind (gives_skipWords 1 _) (gives_bind (gives_m68kRegs _)
      (gives_bind (gives_movemStoreDown (by rw [past_past]; exact hm)) (gives_setM68k_done _ _))))
  · exact next68k (exec_movemStore_of_ne_pre s he) hs (gives_bind (gives_skipWords 1 _)
      (gives_bind (gives_resolveAddress _ (by rw [past_past]; exact hl)) (gives_bind (gives_movemStoreUp hm) (gives_pure _ _))))
  · exact next68k rfl hs (gives_bind (gives_skipWords 1 _) (gives_bind (gives_m68kRegs _)
      (gives_bind (gives_movemLoadUp (by rw [past_past]; exact hm)) (gives_setM68k_done _ _))))
  · exact next68k (exec_movemLoad_of_ne_post s he) hs (gives_bind (gives_skipWords 1 _)
      (gives_bind (gives_resolveAddress _ (by rw [past_past]; exact hl)) (gives_bind (gives_movemLoadUp hm) (gives_pure _ _))))
  · rw [← movepValue_eq hb (movepLoadAt_length hm)]
    exact next68k rfl hs (gives_bind (gives_skipWords 1 _) (gives_bind (gives_m68kRegs _)
      (gives_bind (gives_movepRead (by rw [past_past, movepCount_eq hb]; exact hm)) (gives_setM68k_done _ _))))
  · exact next68k rfl hs (gives_bind (gives_skipWords 1 _) (gives_bind (gives_m68kRegs _)
      (gives_bind (gives_movepWrite (by rw [past_past, movepBytes_eq _ hb]; exact hm)) (gives_pure _ _))))

/-! ### SR, CCR and the system instructions -/

/-- A write of registers after a word of the instruction is passed. -/
theorem gives_skip_setM68k_done {f g k : M68k → M68k} {s : State} (h : g (f (s.m68k.skip 1)) = k s.m68k) :
    Gives (do skipWords 1; setM68k f; setM68k g; pure []) (s, []) ([] : List Nat) (s.mapM68k k, []) :=
  gives_bind (gives_skipWords 1 _) (gives_to (gives_setM68k_twice_done (k := fun m => g (f m)) rfl) rfl
    (point_congr68k (f := fun m => g (f (m.skip 1))) h))

theorem gives_immToCcr (imm : Word) (f : BitVec 5 → BitVec 5 → BitVec 5) (s : State) :
    Gives (immToCcr imm f) (s, []) []
      (s.mapM68k fun m => (m.skip 1).setCcr (Ccr.ofBits (f m.ccr.bits (imm.setWidth 5))), []) :=
  gives_bind (gives_skipWords 1 _) (gives_bind (gives_getCcr _) (gives_setM68k_done _ _))

theorem gives_immToSr {imm : Word} {f : Word → Word → Word} {s : State} (h : s.m68k.super = true) :
    Gives (immToSr imm f) (s, []) [] (s.mapM68k fun m => (m.skip 1).writeSr (f m.getSr imm), []) :=
  gives_bind (gives_privileged _ h) (gives_bind (gives_skipWords 1 _) (gives_setM68k_done _ _))

/-- Settles O12: flags or SR written, after the privilege check where there is one. -/
theorem statusRegisterInstructionsComplete : Obligations.StatusRegisterInstructionsComplete := by
  refine ⟨⟨fun imm => registerCompletes (fun _ => rfl) fun s => gives_immToCcr _ (· ||| ·) _,
      fun imm => registerCompletes (fun _ => rfl) fun s => gives_immToCcr _ (· &&& ·) _,
      fun imm => registerCompletes (fun _ => rfl) fun s => gives_immToCcr _ (· ^^^ ·) _,
      fun ea => sourceCompletes (fun _ => rfl) fun v t => gives_setM68k_done _ _⟩,
    fun imm s hs hp => next68k rfl hs (gives_immToSr (f := (· ||| ·)) hp),
    fun imm s hs hp => next68k rfl hs (gives_immToSr (f := (· &&& ·)) hp),
    fun imm s hs hp => next68k rfl hs (gives_immToSr (f := (· ^^^ ·)) hp),
    fun s ea loc s1 v s2 hs hp hl hv => next68k rfl hs (gives_bind (gives_privileged _ hp)
      (gives_bind (gives_readEa hl hv) (gives_setM68k_done _ _))),
    fun n => supervisorCompletes (fun _ => rfl) fun s => gives_setM68k_done _ _,
    fun n => supervisorCompletes (fun _ => rfl) fun s => gives_setM68k_done _ _,
    fun imm => supervisorCompletes (fun _ => rfl) fun s => gives_skip_setM68k_done rfl,
    fun s hs hp => next68k rfl hs (gives_bind (gives_privileged _ hp) (gives_bind (gives_modify _ _) (gives_pure _ _)))⟩

theorem gives_jump_done (a : Long) (s : State) :
    Gives (do jump a; pure []) (s, []) ([] : List Nat) (s.mapM68k fun m => { m with pc := a }, []) :=
  gives_setM68k_done _ _

/-- Settles O13: the pops, then PC and SR. -/
theorem returnsComplete : Obligations.ReturnsComplete :=
  ⟨fun _ _ _ hs ha => next68k rfl hs (gives_bind (gives_pop68k ha) (gives_jump_done _ _)),
   fun _ _ _ _ _ hs hc ha => next68k rfl hs (gives_bind (gives_pop68k hc) (gives_bind (gives_setCcr _ _)
     (gives_bind (gives_pop68k ha) (gives_jump_done _ _)))),
   fun _ _ _ _ _ hs hp hw ha => next68k rfl hs (gives_bind (gives_privileged _ hp)
     (gives_bind (gives_bind (gives_pop68k hw) (gives_bind (gives_pop68k ha) (gives_bind (gives_setM68k _ _) (gives_setM68k _ _))))
       (gives_pure _ _)))⟩

/-! ### Bits -/

theorem gives_bitTest {ea : Ea} {loc : Loc} {v : BitVec (bitOpSize ea).bits} {s s1 t : State} (k : Long)
    (hl : s.locate (bitOpSize ea) ea = some (loc, s1)) (hv : s1.readAt (bitOpSize ea) loc = some (v, t)) :
    Gives (bitTest ea k) (s, []) []
      (t.mapM68k fun m => m.setCcr { m.ccr with z := !v.getLsbD (k.toNat % (bitOpSize ea).bits) }, []) :=
  gives_bind (gives_readEa hl hv) (gives_bind (gives_getCcr _) (gives_bind (gives_setM68k_to _ rfl) (gives_pure _ _)))

/-- The number of a static bit operation is its low byte (44 R438). -/
theorem staticBit_toNat (k : Word) : (staticBit k).toNat = (k.setWidth 8).toNat :=
  BitVec.toNat_setWidth_of_le (by decide)

theorem bitUpdate_eq (ea : Ea) (k : Long) (change : BitChange) :
    bitUpdate ea k change = updateEa (bitOpSize ea) ea fun d m =>
      (change d (BitVec.twoPow _ (k.toNat % (bitOpSize ea).bits)),
        { m.ccr with z := !d.getLsbD (k.toNat % (bitOpSize ea).bits) }) := rfl

/-- Reading an operand leaves the data registers as they are. -/
theorem readEa_dreg {sz : Size} {ea : Ea} {loc : Loc} {v : BitVec sz.bits} {s s1 t : State} (hl : s.locate sz ea = some (loc, s1))
    (hv : s1.readAt sz loc = some (v, t)) (n : Reg) : t.m68k.dreg n = s.m68k.dreg n := by
  rw [readAt_m68k hv, locate_dreg hl]

/-- BCHG, BCLR and BSET with the bit number of a register (44 R438). -/
theorem bitRegCompletes {i : Instr} {ea : Ea} {n : Reg} {change : BitChange} {s s1 s2 s3 : State} {loc : Loc}
    {d : BitVec (bitOpSize ea).bits} (hx : exec i s = run68k i (do let m ← m68kRegs; bitUpdate ea (m.dreg n) change) s)
    (hs : s.ready68k) (hl : (s.past 1).locate (bitOpSize ea) ea = some (loc, s1)) (hv : s1.readAt (bitOpSize ea) loc = some (d, s2))
    (hw : s2.writeAt (bitOpSize ea) loc (change d (BitVec.twoPow _ ((s.m68k.dreg n).toNat % (bitOpSize ea).bits))) = some s3) :
    exec i s = .next ((s3.withCcr
      { s2.m68k.ccr with z := !d.getLsbD ((s.m68k.dreg n).toNat % (bitOpSize ea).bits) }).ended68k i []) :=
  next68k hx hs (gives_bind (gives_m68kRegs _) (gives_updateEa hl hv hw))

/-- A data register as an operand. -/
theorem locate_dn (s : State) (sz : Size) (n : Reg) :
    s.locate sz (.dn n) = some (.dreg n, s.mapM68k fun m => m.spend (.ea .dn sz)) := rfl

theorem readAt_dreg (s : State) (sz : Size) (n : Reg) :
    s.readAt sz (.dreg n) = some ((s.m68k.dreg n).setWidth sz.bits, s) := rfl

theorem writeAt_dreg (s : State) (sz : Size) (n : Reg) (v : BitVec sz.bits) :
    s.writeAt sz (.dreg n) v = some (s.mapM68k fun m => m.setDPart n sz v) := rfl

theorem tasRegCompletes (n : Reg) : RegisterCompletes (.tas (.dn n))
    (fun m => ((m.setDPart n .b ((m.dreg n).setWidth 8 ||| 0x80#8)).setCcr (flagsLogic ((m.dreg n).setWidth 8) m.ccr)).spend
      (.ea .dn .b)) fun _ => [] := by
  refine registerCompletes (fun s => show exec (.tas (.dn n)) s = execTas (.dn n) s from rfl) fun s => ?_
  refine gives_bind (gives_resolve [] (locate_dn _ _ n)) ?_
  refine gives_bind (gives_readLoc (readAt_dreg _ _ n)) ?_
  refine gives_bind (gives_writeLoc (writeAt_dreg _ _ n _)) ?_
  refine gives_bind (gives_getCcr _) ?_
  refine gives_bind (gives_setCcr _ _) ?_
  refine gives_to (gives_pure _ _) rfl ?_
  simp only [State.withCcr, mapM68k_mapM68k]
  refine point_congr68k ?_
  simp only [mapM68k_self, spend_dreg, setDPart_ccr, spend_ccr]
  generalize (s.past 1).m68k = m
  rfl

/-- The byte that TAS writes, as its access computes it (20 R128). -/
theorem tas_byte (b : Byte) : (b ||| 0x80#8).setWidth 32 = (b.setWidth 32 ||| 0x80#32 : Long) := by
  rw [BitVec.setWidth_or]
  rfl

/-- TAS of a byte that M68K reaches itself is its load and its store there (20 R128). -/
theorem gives_tas68k_of_store {s s2 t : State} {a : Long} {v : Byte} (hv : s.loadAt .b a = some (v, s2))
    (hw : s2.storeAt .b a (v ||| 0x80#8) = some t) : Gives (tas68k a) (s, []) v (t, []) := by
  rw [State.loadAt, Option.map_eq_some_iff] at hv
  obtain ⟨ps, hp, hv⟩ := hv
  obtain ⟨p, rfl⟩ := placesHere_byte hp
  obtain ⟨rfl, rfl⟩ := Prod.mk.injEq .. ▸ hv
  have hp2 : (s.plainRead [p]).2.placesHere .b a = some [p] := by
    obtain ⟨k, hk⟩ := plainRead_eq s [p]
    rw [hk, placesHere_draws, hp]
  simp only [State.storeAt, hp2] at hw
  split at hw
  · cases hw
  · rename_i hh
    injection hw with hw
    subst hw
    have hl : (s.plainRead [p]).2.launch = s.launch := by
      obtain ⟨k, hk⟩ := plainRead_eq s [p]
      rw [hk]
      rfl
    refine gives_to (gives_tas68k hp (by simpa [hl] using hh)) rfl ?_
    show (_, _) = ((s.plainRead [p]).2.plainWrite (a.setWidth 24) .b _ [p], [])
    congr 2
    show (s.readPlace p).1.setWidth 32 ||| 0x80#32 = BitVec.setWidth 32 (((s.readPlace p).1.setWidth 32).setWidth 8 ||| 0x80#8)
    rw [BitVec.setWidth_setWidth_of_le _ (by decide), BitVec.setWidth_eq, tas_byte]

/-- BCHG, BCLR and BSET with a bit number of their own (44 R438). -/
theorem bitImmCompletes {i : Instr} {ea : Ea} {k : Word} {change : BitChange}
    (hx : ∀ s, exec i s = run68k i (do skipWords 1; bitUpdate ea (staticBit k) change) s) :
    UpdateCompletes i (bitOpSize ea) ea 2 (fun d m => (change d (BitVec.twoPow _ ((k.setWidth 8).toNat % (bitOpSize ea).bits)),
      { m.ccr with z := !d.getLsbD ((k.setWidth 8).toNat % (bitOpSize ea).bits) })) [] := by
  simp only [bitUpdate_eq, staticBit_toNat] at hx
  exact updateCompletes_skip (k := 1) hx

/-- Settles O17: the bit operations read or update one operand; TAS is one operation or one access. -/
theorem bitOperationsAndTasComplete : Obligations.BitOperationsAndTasComplete := by
  refine ⟨fun ea k n => ?_, tasRegCompletes, fun s ea a s1 v s2 t hs hl hv hw => ?_⟩
  · refine ⟨fun s loc s1 v s2 hs hl hv => ?_, fun s loc s1 v s2 hs hl hv => ?_, bitImmCompletes (change := bitFlip) fun _ => rfl,
      bitImmCompletes (change := bitClear) fun _ => rfl, bitImmCompletes (change := bitSet) fun _ => rfl, ?_⟩
    · rw [← staticBit_toNat]
      exact next68k rfl hs (gives_bind (gives_skipWords 1 _) (gives_bitTest _ (by rw [past_past]; exact hl) hv))
    · have e : s2.m68k.dreg n = (s.past 1).m68k.dreg n := readEa_dreg hl hv n
      exact next68k rfl hs (gives_bind (gives_m68kRegs _) (gives_to (gives_bitTest _ hl hv) rfl (point_congr68k (by rw [← e]))))
    · rintro mk g (⟨rfl, rfl⟩ | ⟨rfl, rfl⟩ | ⟨rfl, rfl⟩) s loc s1 d s2 s3 hs hl hv hw
      · exact bitRegCompletes (change := bitFlip) rfl hs hl hv hw
      · exact bitRegCompletes (change := bitClear) rfl hs hl hv hw
      · exact bitRegCompletes (change := bitSet) rfl hs hl hv hw
  · exact next68k (show exec (.tas ea) s = execTas ea s from rfl) hs (gives_bind (gives_resolve _ hl)
      (gives_bind (gives_tas68k_of_store hv hw) (gives_bind (gives_getCcr _) (gives_bind (gives_setCcr _ _) (gives_pure _ _)))))

end Sys2Proof.Laws
end

section
/-! Multiplication, division and CHK, jumps, traps and the privilege check (43 section 4, 45, 60). -/

namespace Sys2Proof.Laws

open Sys2Proof.Machine

variable {α : Type} {s t : State}

/-! ### Branches of a rule -/

/-- A branch of a rule that ends its instruction, where its condition holds. -/
theorem ends_if_pos {c : Prop} [Decidable c] {x y : Op α} {p : Point} (hc : c) (h : Ends x p t) :
    Ends (if c then x else y) p t := by
  rw [if_pos hc]
  exact h

/-- A branch of a rule that ends its instruction, where its condition fails. -/
theorem ends_if_neg {c : Prop} [Decidable c] {x y : Op α} {p : Point} (hc : ¬c) (h : Ends y p t) :
    Ends (if c then x else y) p t := by
  rw [if_neg hc]
  exact h

/-! ### Multiplication -/

theorem gives_setProduct (n : Reg) (v : Long) (p : Point) :
    Gives (setProduct n v) p () (p.1.mapM68k fun m => (m.setD n v).setCcr (flagsLogic v m.ccr), p.2) := gives_setM68k _ _

/-- The product of two words, unsigned. -/
theorem ofNat_mul_eq (a b : Word) : BitVec.ofNat 32 (a.toNat * b.toNat) = a.setWidth 32 * b.setWidth 32 := by
  apply BitVec.eq_of_toNat_eq
  have ha : a.toNat < 2 ^ 32 := Nat.lt_trans a.isLt (by decide)
  have hb : b.toNat < 2 ^ 32 := Nat.lt_trans b.isLt (by decide)
  rw [BitVec.toNat_ofNat, BitVec.toNat_mul, BitVec.toNat_setWidth, BitVec.toNat_setWidth, Nat.mod_eq_of_lt ha, Nat.mod_eq_of_lt hb]

/-- The product of two words, signed. -/
theorem ofInt_mul_eq (a b : Word) : BitVec.ofInt 32 (a.toInt * b.toInt) = a.signExtend 32 * b.signExtend 32 := by
  apply BitVec.eq_of_toInt_eq
  rw [BitVec.toInt_ofInt, BitVec.toInt_mul, BitVec.toInt_signExtend_of_le (by decide), BitVec.toInt_signExtend_of_le (by decide)]

theorem muluCompletes (ea : Ea) (n : Reg) : SourceCompletes (.mulu ea n) .w ea 1
    (fun v m => (m.setD n (((m.dreg n).setWidth 16).setWidth 32 * v.setWidth 32)).setCcr
      (flagsLogic (((m.dreg n).setWidth 16).setWidth 32 * v.setWidth 32 : Long) m.ccr)) fun v _ => [v.toNat] := by
  refine sourceCompletes (fun s => show exec (.mulu ea n) s = execMulu ea n s from rfl) fun v t => ?_
  refine gives_bind (gives_m68kRegs _) (gives_bind (gives_setProduct _ _ _) (gives_pure_eq rfl ?_))
  rw [ofNat_mul_eq]
  exact point_congr68k rfl

theorem mulsCompletes (ea : Ea) (n : Reg) : SourceCompletes (.muls ea n) .w ea 1
    (fun v m => (m.setD n (((m.dreg n).setWidth 16).signExtend 32 * v.signExtend 32)).setCcr
      (flagsLogic (((m.dreg n).setWidth 16).signExtend 32 * v.signExtend 32 : Long) m.ccr)) fun v _ => [v.toNat] := by
  refine sourceCompletes (fun s => show exec (.muls ea n) s = execMuls ea n s from rfl) fun v t => ?_
  refine gives_bind (gives_m68kRegs _) (gives_bind (gives_setProduct _ _ _) (gives_pure_eq rfl ?_))
  rw [ofInt_mul_eq]
  exact point_congr68k rfl

/-! ### Division -/

/-- N and Z free, V 1, C 0, and nothing else (43 R391). -/
theorem gives_divideOverflow (s : State) : ∃ fn fz, Gives divideOverflow (s, []) ()
    (s.mapM68k fun m => { m.setCcr { x := m.ccr.x, n := fn, z := fz, v := true, c := false } with draws := m.draws + 2 }, []) :=
  ⟨_, _, gives_bind (gives_draw68k _) (gives_bind (gives_draw68k _) (gives_bind (gives_getCcr _) (gives_setM68k_to _ rfl)))⟩

/-- The quotient and the remainder of naturals are the only ones. -/
theorem div_mod_of_eq {a b q r : Nat} (h : a = q * b + r) (hr : r < b) : a / b = q ∧ a % b = r := by
  subst h
  have hb : 0 < b := Nat.lt_of_le_of_lt (Nat.zero_le r) hr
  rw [Nat.mul_comm q b, Nat.mul_add_div hb, Nat.mul_add_mod, Nat.div_eq_of_lt hr, Nat.mod_eq_of_lt hr]
  exact ⟨rfl, rfl⟩

/-- The quotient of integers toward zero, and its remainder, are the only ones. -/
theorem tdiv_of_eq {a b q r : Int} (h : a = q * b + r) (hr : r.natAbs < b.natAbs) (hs : r ≠ 0 → (r < 0 ↔ a < 0)) :
    a.tdiv b = q := by
  have hb : b ≠ 0 := by omega
  have ha : r + b * q = a := by rw [h, Int.mul_comm b q, Int.add_comm]
  rcases lt_or_ge a 0 with h0 | h0
  · exact ((Int.tdiv_tmod_unique' (Int.le_of_lt h0) hb).2 ⟨ha, by omega, by omega⟩).1
  · exact ((Int.tdiv_tmod_unique h0 hb).2 ⟨ha, by omega, by omega⟩).1

/-- The zero test of a quotient that fits. -/
theorem ofNat_16_eq_zero {q : Nat} (h : q < 65536) : (BitVec.ofNat 16 q = 0#16) ↔ q = 0 := by
  rw [← BitVec.toNat_inj, BitVec.toNat_ofNat, Nat.mod_eq_of_lt h]
  rfl

/-- A quotient that fits, as a signed word. -/
theorem toInt_ofInt_16 {q : Int} (h : -32768 ≤ q ∧ q ≤ 32767) : (BitVec.ofInt 16 q).toInt = q := by
  rw [BitVec.toInt_ofInt]
  exact Int.bmod_eq_of_le (by omega) (by omega)

theorem ofInt_16_eq_zero {q : Int} (h : -32768 ≤ q ∧ q ≤ 32767) : (BitVec.ofInt 16 q = 0#16) ↔ q = 0 := by
  rw [← BitVec.toInt_inj, toInt_ofInt_16 h]
  rfl

theorem msb_ofInt_16 {q : Int} (h : -32768 ≤ q ∧ q ≤ 32767) : (BitVec.ofInt 16 q).msb = decide (q < 0) := by
  rw [BitVec.msb_eq_toInt, toInt_ofInt_16 h]


theorem gives_divideResult (n : Reg) (q r : Word) (s : State) : Gives (divideResult n q r) (s, []) ()
    (s.mapM68k fun m => (m.setD n (r ++ q)).setCcr { x := m.ccr.x, n := q.msb, z := q = 0#16, v := false, c := false }, []) :=
  gives_setM68k _ _

theorem divuCompletes {s s1 s2 : State} {ea : Ea} {n : Reg} {loc : Loc} {v : Word} {q r : Nat} (hs : s.ready68k)
    (hl : (s.past 1).locate .w ea = some (loc, s1)) (hv : s1.readAt .w loc = some (v, s2)) (h0 : v ≠ 0)
    (h : (s2.m68k.dreg n).toNat = q * v.toNat + r) (hr : r < v.toNat) :
    (q < 65536 → exec (.divu ea n) s = .next ((s2.mapM68k fun m =>
      (m.setD n (BitVec.ofNat 16 r ++ BitVec.ofNat 16 q)).setCcr
        { x := m.ccr.x, n := (BitVec.ofNat 16 q).msb, z := q = 0, v := false, c := false }).ended68k (.divu ea n)
      [(s2.m68k.dreg n).toNat, v.toNat, 0])) ∧
    (65536 ≤ q → ∃ fn fz, exec (.divu ea n) s = .next ((s2.mapM68k fun m =>
      { m.setCcr { x := m.ccr.x, n := fn, z := fz, v := true, c := false } with draws := m.draws + 2 }).ended68k (.divu ea n)
      [(s2.m68k.dreg n).toNat, v.toNat, 1])) := by
  obtain ⟨rfl, rfl⟩ := div_mod_of_eq h hr
  obtain ⟨fn, fz, ho⟩ := gives_divideOverflow s2
  refine ⟨fun hfit => ?_, fun hbig => ⟨fn, fz, ?_⟩⟩
  · have hq : ¬ 0xFFFF < (s2.m68k.dreg n).toNat / v.toNat := by omega
    have hd := gives_divideResult n (BitVec.ofNat 16 ((s2.m68k.dreg n).toNat / v.toNat)) (BitVec.ofNat 16 ((s2.m68k.dreg n).toNat % v.toNat)) s2
    simp only [ofNat_16_eq_zero hfit] at hd
    refine next68k (show exec (.divu ea n) s = execDivu ea n s from rfl) hs (gives_bind (gives_readEa hl hv)
      (gives_if_neg h0 (gives_bind (gives_m68kRegs _) (gives_if_neg hq (gives_bind hd (gives_pure_eq ?_ rfl))))))
    rw [if_neg hq]
  · have hq : 0xFFFF < (s2.m68k.dreg n).toNat / v.toNat := by omega
    refine next68k (show exec (.divu ea n) s = execDivu ea n s from rfl) hs (gives_bind (gives_readEa hl hv)
      (gives_if_neg h0 (gives_bind (gives_m68kRegs _) (gives_if_pos hq (gives_bind ho (gives_pure_eq ?_ rfl))))))
    rw [if_pos hq]

theorem divsCompletes {s s1 s2 : State} {ea : Ea} {n : Reg} {loc : Loc} {v : Word} {q r : Int} (hs : s.ready68k)
    (hl : (s.past 1).locate .w ea = some (loc, s1)) (hv : s1.readAt .w loc = some (v, s2)) (h0 : v ≠ 0)
    (h : (s2.m68k.dreg n).toInt = q * v.toInt + r) (hr : r.natAbs < v.toInt.natAbs)
    (hn : r ≠ 0 → (r < 0 ↔ (s2.m68k.dreg n).toInt < 0)) :
    (-32768 ≤ q ∧ q ≤ 32767 → exec (.divs ea n) s = .next ((s2.mapM68k fun m =>
      (m.setD n (BitVec.ofInt 16 r ++ BitVec.ofInt 16 q)).setCcr
        { x := m.ccr.x, n := q < 0, z := q = 0, v := false, c := false }).ended68k (.divs ea n)
      [(s2.m68k.dreg n).toNat, v.toNat, 0])) ∧
    (¬(-32768 ≤ q ∧ q ≤ 32767) → ∃ fn fz, exec (.divs ea n) s = .next ((s2.mapM68k fun m =>
      { m.setCcr { x := m.ccr.x, n := fn, z := fz, v := true, c := false } with draws := m.draws + 2 }).ended68k (.divs ea n)
      [(s2.m68k.dreg n).toNat, v.toNat, 1])) := by
  have hq := tdiv_of_eq h hr hn
  obtain rfl : (s2.m68k.dreg n).toInt - q * v.toInt = r := by omega
  subst hq
  obtain ⟨fn, fz, ho⟩ := gives_divideOverflow s2
  refine ⟨fun hfit => ?_, fun hbig => ⟨fn, fz, ?_⟩⟩
  · have hq : ¬((s2.m68k.dreg n).toInt.tdiv v.toInt < -32768 ∨ 32767 < (s2.m68k.dreg n).toInt.tdiv v.toInt) := by omega
    have hd := gives_divideResult n (BitVec.ofInt 16 ((s2.m68k.dreg n).toInt.tdiv v.toInt))
      (BitVec.ofInt 16 ((s2.m68k.dreg n).toInt - (s2.m68k.dreg n).toInt.tdiv v.toInt * v.toInt)) s2
    simp only [ofInt_16_eq_zero hfit, msb_ofInt_16 hfit] at hd
    refine next68k (show exec (.divs ea n) s = execDivs ea n s from rfl) hs (gives_bind (gives_readEa hl hv)
      (gives_if_neg h0 (gives_bind (gives_m68kRegs _) (gives_if_neg hq (gives_bind hd (gives_pure_eq ?_ rfl))))))
    rw [if_neg hq]
  · have hq : (s2.m68k.dreg n).toInt.tdiv v.toInt < -32768 ∨ 32767 < (s2.m68k.dreg n).toInt.tdiv v.toInt := by omega
    refine next68k (show exec (.divs ea n) s = execDivs ea n s from rfl) hs (gives_bind (gives_readEa hl hv)
      (gives_if_neg h0 (gives_bind (gives_m68kRegs _) (gives_if_pos hq (gives_bind ho (gives_pure_eq ?_ rfl))))))
    rw [if_pos hq]

/-- Settles O14: products exact, quotients by uniqueness of division. -/
theorem multipliesAndDividesComplete : Obligations.MultipliesAndDividesComplete :=
  ⟨⟨muluCompletes, mulsCompletes⟩, fun _ _ _ _ _ _ _ _ _ hs hl hv h0 h hr => divuCompletes hs hl hv h0 h hr,
    fun _ _ _ _ _ _ _ _ _ hs hl hv h0 h hr hn => divsCompletes hs hl hv h0 h hr hn⟩

/-! ### Exceptions of an instruction -/

/-- The state with `k` flags drawn (log 7). -/
def drawn68k (k : Nat) (s : State) : State := s.mapM68k fun m => { m with draws := m.draws + k }

/-- A free flag has some value, and the next draw is another (log 7). -/
theorem gives_draw68k_next (k : Nat) (s : State) : ∃ b, Gives draw68k (drawn68k k s, []) b (drawn68k (k + 1) s, []) :=
  ⟨_, gives_draw68k _⟩

theorem gives_draw68k_first (s : State) : ∃ b, Gives draw68k (s, []) b (drawn68k 1 s, []) := ⟨_, gives_draw68k _⟩

theorem gives_setCcr_drawn (f : Ccr) (k : Nat) (s : State) : Gives (setCcr f) (drawn68k k s, []) ()
    (s.mapM68k fun m => { m.setCcr f with draws := m.draws + k }, []) := gives_setCcr _ _

theorem ends_zeroDivide (s : State) : ∃ fn fz fv, ∀ t, (s.mapM68k fun m =>
      { m.setCcr { x := m.ccr.x, n := fn, z := fz, v := fv, c := false } with draws := m.draws + 3 }).enterAt 5 s.m68k.pc = some t →
    Ends zeroDivide (s, []) t := by
  obtain ⟨fn, hn⟩ := gives_draw68k_first s
  obtain ⟨fz, hz⟩ := gives_draw68k_next 1 s
  obtain ⟨fv, hv⟩ := gives_draw68k_next 2 s
  refine ⟨fn, fz, fv, fun t h => ends_bind hn (ends_bind hz (ends_bind hv (ends_bind (gives_m68kRegs _)
    (ends_bind (gives_setCcr_drawn _ 3 s) (ends_raise68k _ _ ?_)))))⟩
  exact h

theorem chkOutOfBounds {s s1 s2 : State} {ea : Ea} {n : Reg} {loc : Loc} {v : Word} (hs : s.ready68k)
    (hl : (s.past 1).locate .w ea = some (loc, s1)) (hv : s1.readAt .w loc = some (v, s2))
    (h : ((s2.m68k.dreg n).setWidth 16).toInt < 0 ∨ v.toInt < ((s2.m68k.dreg n).setWidth 16).toInt) : ∃ fz fv fc, ∀ t,
      (s2.mapM68k fun m =>
        { m.setCcr { x := m.ccr.x, n := ((s2.m68k.dreg n).setWidth 16).toInt < 0, z := fz, v := fv, c := fc } with
          draws := m.draws + 3 }).enterAt 6 s2.m68k.pc = some t → exec (.chk ea n) s = .next t := by
  obtain ⟨fz, hz⟩ := gives_draw68k_first s2
  obtain ⟨fv, hf⟩ := gives_draw68k_next 1 s2
  obtain ⟨fc, hc⟩ := gives_draw68k_next 2 s2
  refine ⟨fz, fv, fc, fun t ht => ?_⟩
  refine ended68k (show exec (.chk ea n) s = execChk ea n s from rfl) hs (ends_bind (gives_readEa hl hv)
    (ends_bind hz (ends_bind hf (ends_bind hc (ends_bind (gives_m68kRegs _) ?_)))))
  by_cases hneg : ((s2.m68k.dreg n).setWidth 16).toInt < 0
  · simp only [hneg, decide_true] at ht
    exact ends_if_pos hneg (ends_bind (gives_setCcr_drawn _ 3 s2) (ends_first (ends_raise68k _ _ ht)))
  · simp only [hneg, decide_false] at ht
    exact ends_if_neg hneg (ends_if_pos (h.resolve_left hneg)
      (ends_bind (gives_setCcr_drawn _ 3 s2) (ends_first (ends_raise68k _ _ ht))))

theorem chkInBounds {s s1 s2 : State} {ea : Ea} {n : Reg} {loc : Loc} {v : Word} (hs : s.ready68k)
    (hl : (s.past 1).locate .w ea = some (loc, s1)) (hv : s1.readAt .w loc = some (v, s2))
    (h : 0 ≤ ((s2.m68k.dreg n).setWidth 16).toInt ∧ ((s2.m68k.dreg n).setWidth 16).toInt ≤ v.toInt) : ∃ fn fz fv fc,
      exec (.chk ea n) s = .next ((s2.mapM68k fun m =>
        { m.setCcr { x := m.ccr.x, n := fn, z := fz, v := fv, c := fc } with draws := m.draws + 4 }).ended68k (.chk ea n) []) := by
  obtain ⟨fz, hz⟩ := gives_draw68k_first s2
  obtain ⟨fv, hf⟩ := gives_draw68k_next 1 s2
  obtain ⟨fc, hc⟩ := gives_draw68k_next 2 s2
  obtain ⟨fn, hn⟩ := gives_draw68k_next 3 s2
  obtain ⟨h0, hb⟩ := h
  exact ⟨fn, fz, fv, fc, next68k (show exec (.chk ea n) s = execChk ea n s from rfl) hs (gives_bind (gives_readEa hl hv)
    (gives_bind hz (gives_bind hf (gives_bind hc (gives_bind (gives_m68kRegs _) (gives_if_neg (Int.not_lt.2 h0)
      (gives_if_neg (Int.not_lt.2 hb) (gives_bind hn (gives_bind (gives_setCcr_drawn _ 4 s2) (gives_pure _ _))))))))))⟩

/-- Settles O15: both divisions share `zeroDivide`; CHK by its comparison. -/
theorem divideByZeroAndChk : Obligations.DivideByZeroAndChk := by
  refine ⟨fun i s ea n loc s1 s2 hi hs hl hv => ?_, fun s ea n loc s1 v s2 hs hl hv =>
    ⟨chkOutOfBounds hs hl hv, chkInBounds hs hl hv⟩⟩
  obtain ⟨fn, fz, fv, he⟩ := ends_zeroDivide s2
  refine ⟨fn, fz, fv, fun t ht => ?_⟩
  obtain rfl | rfl := hi
  · exact ended68k (show exec (.divu ea n) s = execDivu ea n s from rfl) hs
      (ends_bind (gives_readEa hl hv) (ends_if_pos rfl (ends_first (he t ht))))
  · exact ended68k (show exec (.divs ea n) s = execDivs ea n s from rfl) hs
      (ends_bind (gives_readEa hl hv) (ends_if_pos rfl (ends_first (he t ht))))

/-! ### Jumps -/

/-- The displacement of a branch, its word passed (45 R471). -/
theorem gives_branchDisp (d : Disp) (s : State) (l : List Long) :
    Gives (branchDisp d) (s, l) (dispValue d) (s.past (dispWords d), l) := by
  cases d with
  | short b => exact gives_pure_eq rfl (by simp [State.past, M68k.skip, dispWords, State.mapM68k])
  | word w => exact gives_bind (gives_skipWords 1 _) (gives_pure _ _)

theorem bccCompletes (cnd : Cond) (disp : Disp) : RegisterCompletes (.bcc cnd disp)
    (fun m => if m.ccr.holds cnd then { m with pc := m.pc + dispValue disp } else m.skip (dispWords disp))
    fun m => [(m.ccr.holds cnd).toNat, dispWords disp] := by
  refine registerCompletes (fun s => show exec (.bcc cnd disp) s = execBcc cnd disp s from rfl) fun s => ?_
  refine gives_bind (gives_m68kRegs _) (gives_bind (gives_branchDisp _ _ _) (gives_bind (gives_getCcr _) ?_))
  by_cases h : s.m68k.ccr.holds cnd = true
  · refine gives_if_pos h (gives_bind (gives_setM68k _ _) (gives_pure_eq rfl ?_))
    rw [State.past, mapM68k_mapM68k]
    exact point_congr68k (if_pos h).symm
  · refine gives_if_neg h (gives_pure_eq rfl ?_)
    exact point_congr68k (if_neg h).symm

theorem dbccCompletes (cnd : Cond) (n : Reg) (d : Word) : RegisterCompletes (.dbcc cnd n d)
    (fun m =>
      if m.ccr.holds cnd then m.skip 1
      else if (m.dreg n).setWidth 16 = 0#16 then (m.setDPart n .w 0xFFFF#16).skip 1
      else { m.setDPart n .w ((m.dreg n).setWidth 16 - 1#16) with pc := m.pc + d.signExtend 32 })
    fun m => if m.ccr.holds cnd then [0] else if (m.dreg n).setWidth 16 = 0#16 then [1] else [2] := by
  refine registerCompletes (fun s => show exec (.dbcc cnd n d) s = execDbcc cnd n d s from rfl) fun s => ?_
  refine gives_bind (gives_m68kRegs _) (gives_bind (gives_skipWords 1 _) (gives_bind (gives_getCcr _) ?_))
  by_cases h : s.m68k.ccr.holds cnd = true
  · exact gives_if_pos h (gives_pure_eq (if_pos h).symm (point_congr68k (if_pos h).symm))
  · refine gives_if_neg h (gives_bind (gives_m68kRegs _) (gives_bind (gives_setM68k _ _) ?_))
    by_cases h0 : (s.m68k.dreg n).setWidth 16 = 0#16
    · have hk : (s.m68k.dreg n).setWidth 16 - 1#16 = 0xFFFF#16 := by rw [h0]; rfl
      refine gives_if_pos hk (gives_pure_eq ((if_neg h).trans (if_pos h0)).symm ?_)
      rw [State.past, mapM68k_mapM68k]
      refine point_congr68k (Eq.trans ?_ ((if_neg h).trans (if_pos h0)).symm)
      rw [← hk]
      rfl
    · have hk : ¬(s.m68k.dreg n).setWidth 16 - 1#16 = 0xFFFF#16 := by bv_omega
      refine gives_if_neg hk (gives_bind (gives_setM68k _ _) (gives_pure_eq ((if_neg h).trans (if_neg h0)).symm ?_))
      rw [State.past, mapM68k_mapM68k, mapM68k_mapM68k]
      exact point_congr68k ((if_neg h).trans (if_neg h0)).symm

theorem braCompletes (disp : Disp) :
    RegisterCompletes (.bra disp) (fun m => { m with pc := m.pc + dispValue disp }) fun _ => [1, dispWords disp] := by
  refine registerCompletes (fun s => show exec (.bra disp) s = execBra disp s from rfl) fun s => ?_
  exact gives_bind (gives_m68kRegs _) (gives_bind (gives_branchDisp _ _ _) (gives_bind (gives_setM68k _ _)
    (gives_pure_eq rfl rfl)))

/-- PC past the operation word and the words of a displacement. -/
theorem past_dispWords_pc (s : State) (k : Nat) :
    (s.past (1 + k)).m68k.pc = s.m68k.pc + 2#32 + BitVec.ofNat 32 (2 * k) := by
  show s.m68k.pc + BitVec.ofNat 32 (2 * (1 + k)) = _
  rw [Nat.mul_add, BitVec.ofNat_add, ← BitVec.add_assoc]

/-- Settles O18: a displacement counts from the address after the operation word; calls push the address after the whole
instruction. -/
theorem jumpsAndCallsComplete : Obligations.JumpsAndCallsComplete := by
  refine ⟨⟨bccCompletes, braCompletes, dbccCompletes, fun ea => addressCompletes (fun _ => rfl) fun a t => gives_jump_done a t,
    registerCompletes (fun _ => rfl) fun s => gives_pure _ _, fun s hs hv => ?_⟩, fun s disp t hs hp => ?_,
    fun s ea a s1 t hs hl hp => ?_⟩
  · exact next68k (show exec .trapv s = execTrapv s from rfl) hs (gives_bind (gives_m68kRegs _)
      (gives_if_neg (by simpa [State.past] using hv) (gives_pure _ _)))
  · refine next68k (show exec (.bsr disp) s = execBsr disp s from rfl) hs (gives_bind (gives_m68kRegs _)
      (gives_bind (gives_branchDisp _ _ _) (gives_bind (gives_m68kRegs _) (gives_bind (gives_push68k (t := t) ?_)
        (gives_jump_done _ _)))))
    rw [past_past, past_dispWords_pc]
    exact hp
  · exact next68k (show exec (.jsr ea) s = execJsr ea s from rfl) hs (gives_bind (gives_resolveAddress _ hl)
      (gives_bind (gives_m68kRegs _) (gives_bind (gives_push68k hp) (gives_jump_done _ _))))

/-! ### Traps and the privilege check -/

/-- The address of the instruction, from PC past its operation word. -/
theorem past_one_pc (s : State) : (s.past 1).m68k.pc - 2#32 = s.m68k.pc := by
  show s.m68k.pc + 2#32 - 2#32 = s.m68k.pc
  exact BitVec.add_sub_cancel _ _

/-- The policy on an instruction with no meaning (60 R714). -/
theorem illegalPolicyCompletes {i : Instr} {vector : Nat} {s : State}
    (hx : exec i s = run68k i (do illegalPolicy vector; pure []) s) (hs : s.ready68k) :
    (s.launch.policy = .trap → ∀ t, (s.past 1).enterAt vector s.m68k.pc = some t → exec i s = .next t) ∧
    (s.launch.policy = .ignore → exec i s = .next ((s.past 1).ended68k i [])) ∧
    (s.launch.policy = .crash → exec i s = .next ((s.past 1).halt68k .crashed)) := by
  have hl : (s.past 1).launch = s.launch := rfl
  refine ⟨fun h t ht => ended68k hx hs (ends_first (ends_bind (gives_state _) ?_)),
    fun h => next68k hx hs (gives_bind (a := ()) (gives_bind (gives_state _) ?_) (gives_pure _ _)),
    fun h => ended68k hx hs (ends_first (ends_bind (gives_state _) ?_))⟩
  · simp only [hl, h]
    refine ends_raise68k _ _ ?_
    rw [past_one_pc]
    exact ht
  · simp only [hl, h]
    exact gives_pure _ _
  · simp only [hl, h]
    exact ends_bind (gives_modify _ _) (ends_stop _)

/-- Settles O19: each trap raises its vector; the others follow the policy. -/
theorem trapsAndPolicy : Obligations.TrapsAndPolicy := by
  refine ⟨fun s v t hs ht => ?_, fun s t hs hv ht => ?_, fun s i vector hs hi => ?_⟩
  · exact ended68k (show exec (.trap v) s = execTrap v s from rfl) hs (ends_bind (gives_m68kRegs _) (ends_raise68k _ _ ht))
  · exact ended68k (show exec .trapv s = execTrapv s from rfl) hs (ends_bind (gives_m68kRegs _)
      (ends_if_pos (by simpa [State.past] using hv) (ends_first (ends_raise68k _ _ ht))))
  · obtain ⟨⟨w, rfl⟩, rfl⟩ | ⟨⟨w, rfl⟩, rfl⟩ | ⟨⟨w, rfl⟩, rfl⟩ := hi
    · exact illegalPolicyCompletes rfl hs
    · exact illegalPolicyCompletes rfl hs
    · exact illegalPolicyCompletes rfl hs

/-- Settles O20: every privileged rule begins with the check. -/
theorem privilegeViolation : Obligations.PrivilegeViolation := by
  intro s i t hs hu hi ht
  have check {f : Unit → Op (List Nat)} : Ends (privileged >>= f) (s.past 1, []) t :=
    ends_first (ends_privileged hu (by rw [past_one_pc]; exact ht))
  obtain ⟨w, rfl⟩ | ⟨w, rfl⟩ | ⟨w, rfl⟩ | ⟨ea, rfl⟩ | ⟨d, n, rfl⟩ | ⟨w, rfl⟩ | rfl | rfl := hi
  · exact ended68k rfl hs check
  · exact ended68k rfl hs check
  · exact ended68k rfl hs check
  · exact ended68k rfl hs check
  · exact ended68k rfl hs check
  · exact ended68k rfl hs check
  · exact ended68k rfl hs check
  · exact ended68k rfl hs check

end Sys2Proof.Laws
end

section
/-! Shifts and rotates (44 section 2): the register and memory forms, and what the steps of each add up to. -/

namespace Sys2Proof.Laws

open Sys2Proof.Machine

/-! ### The instructions -/

/-- The count of a register form does not depend on PC. -/
theorem shiftCount_skip (cnt : ShiftCount) (m : M68k) (k : Nat) : shiftCount cnt (m.skip k) = shiftCount cnt m := by
  cases cnt <;> rfl

theorem shiftRegCompletes {mk : Size → ShiftCount → Reg → Instr} {step : (n : Nat) → Shift n → Shift n} {useV rox : Bool}
    (hx : ∀ sz cnt y s, exec (mk sz cnt y) s = run68k (mk sz cnt y) (shiftReg sz cnt y (step sz.bits) useV rox) s) :
    ShiftRegCompletes mk step useV rox := by
  intro sz cnt y
  refine registerCompletes (hx sz cnt y) fun s => ?_
  exact gives_bind (gives_m68kRegs _) (gives_bind (gives_setM68k_to _ rfl)
    (gives_pure_eq (congrArg (fun k => [k]) (shiftCount_skip cnt s.m68k 1)) rfl))

theorem shiftMemCompletes {i : Instr} {ea : Ea} {step : Shift 16 → Shift 16} {useV rox : Bool}
    (hx : ∀ s, exec i s = run68k i (shiftMem ea step useV rox) s) :
    UpdateCompletes i .w ea 1 (fun d m => shiftResult step useV rox 1 d m.ccr) [1] :=
  updateCompletes hx fun h => gives_bind h (gives_pure _ _)

/-! ### Bits of one step -/

variable {n : Nat}

theorem getLsbD_bitOf (b : Bool) (i : Nat) : (bitOf n b).getLsbD i = (decide (i < n ∧ i = 0) && b) := by
  cases b with
  | false => simp [bitOf]
  | true =>
    rw [bitOf, if_pos rfl, BitVec.getLsbD_one, Bool.and_true, ← Bool.decide_and]
    exact decide_eq_decide.2 (by omega)

theorem getLsbD_shiftInLow (v : BitVec n) (b : Bool) {i : Nat} (h : i < n) :
    (shiftInLow v b).getLsbD i = if i = 0 then b else v.getLsbD (i - 1) := by
  simp only [shiftInLow, BitVec.getLsbD_or, BitVec.getLsbD_shiftLeft, getLsbD_bitOf, h, true_and, decide_true, Bool.true_and]
  by_cases hi : i = 0
  · simp [hi]
  · have : ¬ i < 1 := by omega
    simp [hi, this]

theorem getLsbD_shiftInHigh (v : BitVec n) (b : Bool) {i : Nat} (h : i < n) :
    (shiftInHigh v b).getLsbD i = if i = n - 1 then b else v.getLsbD (i + 1) := by
  simp only [shiftInHigh, BitVec.getLsbD_or, BitVec.getLsbD_ushiftRight, BitVec.getLsbD_shiftLeft, getLsbD_bitOf, h,
    decide_true, Bool.true_and, Nat.add_comm 1 i]
  by_cases hi : i = n - 1
  · subst hi
    have : n - 1 + 1 = n := by omega
    simp [this]
    omega
  · have : i < n - 1 := by omega
    simp [hi, this]

/-! ### Rotations by steps of one -/

/-- A sum below twice the modulus. -/
theorem add_mod_eq {i : Nat} (r : Nat) (h : i < n) :
    (i + r) % n = if i + r % n < n then i + r % n else i + r % n - n := by
  have hr : r % n < n := Nat.mod_lt _ (by omega)
  rw [Nat.add_mod, Nat.mod_eq_of_lt h]
  split
  · exact Nat.mod_eq_of_lt ‹_›
  · rw [Nat.mod_eq_sub_mod (by omega), Nat.mod_eq_of_lt (by omega)]

/-- A rotation to the left moves bit `i` to bit `i + r`. -/
theorem getLsbD_rotateLeft_add (x : BitVec n) (r : Nat) {i : Nat} (h : i < n) :
    (x.rotateLeft r).getLsbD ((i + r) % n) = x.getLsbD i := by
  rw [add_mod_eq r h, BitVec.getLsbD_rotateLeft]
  have hr : r % n < n := Nat.mod_lt _ (by omega)
  split
  · have h1 : ¬ i + r % n < r % n := by omega
    simp [*]
  · have h1 : i + r % n - n < r % n := by omega
    have h2 : n - r % n + (i + r % n - n) = i := by omega
    simp [h1, h2]

/-- Such bits make a rotation to the left. -/
theorem eq_rotateLeft {x y : BitVec n} {r : Nat} (h : ∀ i < n, y.getLsbD ((i + r) % n) = x.getLsbD i) : y = x.rotateLeft r := by
  refine BitVec.eq_of_getLsbD_eq fun j hj => ?_
  have hr : r % n < n := Nat.mod_lt _ (by omega)
  obtain ⟨i, hi, e⟩ : ∃ i < n, (i + r) % n = j := by
    by_cases hj' : r % n ≤ j
    · exact ⟨j - r % n, by omega, by rw [add_mod_eq r (by omega), if_pos (by omega)]; omega⟩
    · exact ⟨j + n - r % n, by omega, by rw [add_mod_eq r (by omega), if_neg (by omega)]; omega⟩
  rw [← e, h i hi, getLsbD_rotateLeft_add _ _ hi]

theorem rotateLeft_zero (x : BitVec n) : x.rotateLeft 0 = x :=
  (eq_rotateLeft fun i hi => by rw [Nat.add_zero, Nat.mod_eq_of_lt hi]).symm

theorem rotateLeft_rotateLeft_one (x : BitVec n) (r : Nat) : (x.rotateLeft r).rotateLeft 1 = x.rotateLeft (r + 1) := by
  refine eq_rotateLeft fun i hi => ?_
  rw [← getLsbD_rotateLeft_add x r hi, ← getLsbD_rotateLeft_add (x.rotateLeft r) 1 (Nat.mod_lt _ (by omega)), Nat.mod_add_mod,
    Nat.add_assoc]

/-- A rotation to the right takes bit `i` from bit `i + r`. -/
theorem getLsbD_rotateRight_mod (x : BitVec n) (r : Nat) {i : Nat} (h : i < n) :
    (x.rotateRight r).getLsbD i = x.getLsbD ((i + r) % n) := by
  rw [add_mod_eq r h, BitVec.getLsbD_rotateRight]
  have hr : r % n < n := Nat.mod_lt _ (by omega)
  split
  · have h1 : i < n - r % n := by omega
    simp [h1, Nat.add_comm]
  · have h1 : ¬ i < n - r % n := by omega
    have h2 : i - (n - r % n) = i + r % n - n := by omega
    simp [h1, h2, h]

theorem rotateRight_zero (x : BitVec n) : x.rotateRight 0 = x :=
  BitVec.eq_of_getLsbD_eq fun i hi => by rw [getLsbD_rotateRight_mod _ _ hi, Nat.add_zero, Nat.mod_eq_of_lt hi]

theorem rotateRight_rotateRight_one (x : BitVec n) (r : Nat) : (x.rotateRight r).rotateRight 1 = x.rotateRight (r + 1) := by
  refine BitVec.eq_of_getLsbD_eq fun i hi => ?_
  rw [getLsbD_rotateRight_mod _ _ hi, getLsbD_rotateRight_mod _ _ (Nat.mod_lt _ (by omega)), getLsbD_rotateRight_mod _ _ hi,
    Nat.mod_add_mod, Nat.add_assoc, Nat.add_comm 1]

/-- The bit after the one before the last is the last, after which the first comes. -/
theorem add_one_mod {i : Nat} (h : i < n) : (i + 1) % n = if i = n - 1 then 0 else i + 1 := by
  split
  · rw [show i + 1 = n by omega, Nat.mod_self]
  · exact Nat.mod_eq_of_lt (by omega)

theorem shiftInLow_msb (v : BitVec n) : shiftInLow v v.msb = v.rotateLeft 1 := by
  refine eq_rotateLeft fun i hi => ?_
  rw [getLsbD_shiftInLow _ _ (Nat.mod_lt _ (by omega)), add_one_mod hi]
  by_cases h : i = n - 1
  · simp [h, BitVec.msb_eq_getLsbD_last]
  · simp [h]

theorem shiftInHigh_lsb (v : BitVec n) : shiftInHigh v (v.getLsbD 0) = v.rotateRight 1 := by
  refine BitVec.eq_of_getLsbD_eq fun i hi => ?_
  rw [getLsbD_shiftInHigh _ _ hi, getLsbD_rotateRight_mod _ _ hi, add_one_mod hi]
  split <;> rfl

/-- A step of ROXL rotates X above the operand. -/
theorem cons_shiftInLow (v : BitVec n) (x : Bool) (h : 0 < n) :
    BitVec.cons v.msb (shiftInLow v x) = (BitVec.cons x v).rotateLeft 1 := by
  refine eq_rotateLeft fun i hi => ?_
  rw [add_one_mod hi, BitVec.getLsbD_cons, BitVec.getLsbD_cons]
  by_cases hl : i = n
  · simp [hl, getLsbD_shiftInLow _ _ h, show ¬ 0 = n by omega]
  · have hi' : ¬ i = n + 1 - 1 := by omega
    by_cases hm : i + 1 = n
    · have : i = n - 1 := by omega
      simp [hm, hl, BitVec.msb_eq_getLsbD_last, ← this]
    · rw [if_neg hi', if_neg hm, if_neg hl, getLsbD_shiftInLow _ _ (by omega), if_neg (by omega)]
      rfl

/-- A step of ROXR rotates X above the operand. -/
theorem cons_shiftInHigh (v : BitVec n) (x : Bool) (h : 0 < n) :
    BitVec.cons (v.getLsbD 0) (shiftInHigh v x) = (BitVec.cons x v).rotateRight 1 := by
  refine BitVec.eq_of_getLsbD_eq fun i hi => ?_
  rw [getLsbD_rotateRight_mod _ _ hi, add_one_mod hi, BitVec.getLsbD_cons, BitVec.getLsbD_cons]
  by_cases hl : i = n
  · simp [hl, show ¬ 0 = n by omega]
  · rw [if_neg hl, getLsbD_shiftInHigh _ _ (by omega), if_neg (show ¬ i = n + 1 - 1 by omega)]
    by_cases hm : i = n - 1
    · rw [if_pos hm, if_pos (by omega)]
    · rw [if_neg hm, if_neg (by omega)]

/-! ### What the steps add up to -/

/-- The last step of a repetition stands last too. -/
theorem times_succ (step : Shift n → Shift n) (c : Nat) (s : Shift n) :
    Shift.times step (c + 1) s = step (Shift.times step c s) := by
  induction c generalizing s with
  | zero => rfl
  | succ c ih => exact ih (step s)

/-- The operand, X and the bit last moved out after `c` steps. -/
def AfterSteps (step : Shift n → Shift n) (c : Nat) (v : BitVec n) (x : Bool) (w : BitVec n) (x' out : Bool) : Prop :=
  (Shift.times step c (Shift.begin v x)).v = w ∧ (Shift.times step c (Shift.begin v x)).x = x' ∧
    (Shift.times step c (Shift.begin v x)).out = out

/-- One more step. -/
theorem afterSteps_succ {step : Shift n → Shift n} {c : Nat} {v w w' : BitVec n} {x x' x'' out out' : Bool}
    (h : AfterSteps step c v x w x' out)
    (hs : ∀ s : Shift n, s.v = w → s.x = x' → (step s).v = w' ∧ (step s).x = x'' ∧ (step s).out = out') :
    AfterSteps step (c + 1) v x w' x'' out' := by
  obtain ⟨hv, hx, -⟩ := h
  rw [AfterSteps, times_succ]
  exact hs _ hv hx

/-- The result and the flags of a shift, from its steps. -/
theorem shiftIs_of_afterSteps {step : Shift n → Shift n} {c : Nat} {v w : BitVec n} {old : Ccr} {x out sign carry useV rox : Bool}
    (h : AfterSteps step c v old.x w x out) (hs : sign = (useV && (Shift.times step c (Shift.begin v old.x)).changed))
    (hc : carry = if c = 0 then rox && old.x else out) : ShiftIs (shiftResult step useV rox c v old) w x sign carry := by
  obtain ⟨rfl, rfl, rfl⟩ := h
  subst hc hs
  rfl

theorem shiftInLow_false (v : BitVec n) : shiftInLow v false = v <<< 1 := by simp [shiftInLow, bitOf]

theorem shiftInHigh_false (v : BitVec n) : shiftInHigh v false = v >>> 1 := by simp [shiftInHigh, bitOf]

theorem shiftInHigh_msb (v : BitVec n) : shiftInHigh v v.msb = v.sshiftRight 1 := by
  refine BitVec.eq_of_getLsbD_eq fun i hi => ?_
  rw [getLsbD_shiftInHigh _ _ hi, BitVec.getLsbD_sshiftRight]
  by_cases h : i = n - 1
  · simp [h, show ¬ 1 + (n - 1) < n by omega, show ¬ n ≤ n - 1 by omega]
  · simp [h, show i + 1 < n by omega, show ¬ n ≤ i by omega, Nat.add_comm 1]

/-- The bit that the last of `c` steps to the left moves out. -/
theorem msb_shiftLeft_eq (v : BitVec n) (c : Nat) :
    (v <<< c).msb = if c + 1 ≤ n then v.getLsbD (n - (c + 1)) else false := by
  rw [BitVec.msb_shiftLeft, BitVec.getMsbD]
  by_cases h : c + 1 ≤ n
  · simp [h, show c < n by omega, show n - 1 - c = n - (c + 1) by omega]
  · simp [h, show ¬ c < n by omega]

theorem afterSteps_stepLsl (c : Nat) (v : BitVec n) (x : Bool) :
    AfterSteps stepLsl c v x (v <<< c) (if c = 0 then x else if c ≤ n then v.getLsbD (n - c) else false)
      (if c = 0 then false else if c ≤ n then v.getLsbD (n - c) else false) := by
  induction c with
  | zero => exact ⟨by simp [Shift.times, Shift.begin], rfl, rfl⟩
  | succ c ih =>
    refine afterSteps_succ ih fun s hv _ => ?_
    simp only [stepLsl, Shift.left, Shift.toX, hv, shiftInLow_false, ← BitVec.shiftLeft_add, msb_shiftLeft_eq]
    simp

theorem afterSteps_stepLsr (c : Nat) (v : BitVec n) (x : Bool) :
    AfterSteps stepLsr c v x (v >>> c) (if c = 0 then x else v.getLsbD (c - 1)) (if c = 0 then false else v.getLsbD (c - 1)) := by
  induction c with
  | zero => exact ⟨by simp [Shift.times, Shift.begin], rfl, rfl⟩
  | succ c ih =>
    refine afterSteps_succ ih fun s hv _ => ?_
    simp only [stepLsr, Shift.right, Shift.toX, hv, shiftInHigh_false, ← BitVec.shiftRight_add]
    simp

theorem afterSteps_stepAsr (c : Nat) (v : BitVec n) (x : Bool) (h : 0 < n) :
    AfterSteps stepAsr c v x (v.sshiftRight c) (if c = 0 then x else if c ≤ n then v.getLsbD (c - 1) else v.msb)
      (if c = 0 then false else if c ≤ n then v.getLsbD (c - 1) else v.msb) := by
  induction c with
  | zero => exact ⟨by simp [Shift.times, Shift.begin], rfl, rfl⟩
  | succ c ih =>
    refine afterSteps_succ ih fun s hv _ => ?_
    simp only [stepAsr, Shift.right, Shift.toX, hv, shiftInHigh_msb, ← BitVec.sshiftRight_add, BitVec.getLsbD_sshiftRight]
    simp [show ¬ n ≤ 0 by omega]

theorem afterSteps_stepRol (c : Nat) (v : BitVec n) (x : Bool) (h : 0 < n) :
    AfterSteps stepRol c v x (v.rotateLeft c) x (if c = 0 then false else (v.rotateLeft c).getLsbD 0) := by
  induction c with
  | zero => exact ⟨(rotateLeft_zero v).symm, rfl, rfl⟩
  | succ c ih =>
    refine afterSteps_succ ih fun s hv hx => ?_
    have e : (v.rotateLeft c).msb = (v.rotateLeft (c + 1)).getLsbD 0 := by
      rw [← rotateLeft_rotateLeft_one, ← shiftInLow_msb, getLsbD_shiftInLow _ _ h, if_pos rfl]
    refine ⟨?_, hx, ?_⟩
    · show shiftInLow s.v s.v.msb = _
      rw [hv, shiftInLow_msb, rotateLeft_rotateLeft_one]
    · rw [if_neg (by omega), ← e, ← hv]
      rfl

theorem afterSteps_stepRor (c : Nat) (v : BitVec n) (x : Bool) (h : 0 < n) :
    AfterSteps stepRor c v x (v.rotateRight c) x (if c = 0 then false else (v.rotateRight c).msb) := by
  induction c with
  | zero => exact ⟨(rotateRight_zero v).symm, rfl, rfl⟩
  | succ c ih =>
    refine afterSteps_succ ih fun s hv hx => ?_
    have e : (v.rotateRight c).getLsbD 0 = (v.rotateRight (c + 1)).msb := by
      rw [← rotateRight_rotateRight_one, ← shiftInHigh_lsb, BitVec.msb_eq_getLsbD_last, getLsbD_shiftInHigh _ _ (by omega), if_pos rfl]
    refine ⟨?_, hx, ?_⟩
    · show shiftInHigh s.v (s.v.getLsbD 0) = _
      rw [hv, shiftInHigh_lsb, rotateRight_rotateRight_one]
    · rw [if_neg (by omega), ← e, ← hv]
      rfl

/-- X above the operand, taken apart again. -/
theorem cons_parts {y : BitVec (n + 1)} {x : Bool} {v : BitVec n} (h : BitVec.cons x v = y) : v = y.setWidth n ∧ x = y.msb := by
  subst h
  exact ⟨BitVec.setWidth_cons.symm, BitVec.msb_cons.symm⟩

theorem cons_setWidth_msb (y : BitVec (n + 1)) : BitVec.cons y.msb (y.setWidth n) = y := BitVec.cons_msb_setWidth y

theorem afterSteps_stepRoxl (c : Nat) (v : BitVec n) (x : Bool) (h : 0 < n) :
    AfterSteps stepRoxl c v x (((BitVec.cons x v).rotateLeft c).setWidth n) ((BitVec.cons x v).rotateLeft c).msb
      (if c = 0 then false else ((BitVec.cons x v).rotateLeft c).msb) := by
  induction c with
  | zero => exact ⟨by rw [rotateLeft_zero, BitVec.setWidth_cons]; rfl, by rw [rotateLeft_zero, BitVec.msb_cons]; rfl, rfl⟩
  | succ c ih =>
    refine afterSteps_succ ih fun s hv hx => ?_
    have e : BitVec.cons s.v.msb (shiftInLow s.v s.x) = (BitVec.cons x v).rotateLeft (c + 1) := by
      rw [cons_shiftInLow _ _ h, hv, hx, cons_setWidth_msb, rotateLeft_rotateLeft_one]
    obtain ⟨h1, h2⟩ := cons_parts e
    exact ⟨h1, h2, by rw [if_neg (by omega)]; exact h2⟩

theorem afterSteps_stepRoxr (c : Nat) (v : BitVec n) (x : Bool) (h : 0 < n) :
    AfterSteps stepRoxr c v x (((BitVec.cons x v).rotateRight c).setWidth n) ((BitVec.cons x v).rotateRight c).msb
      (if c = 0 then false else ((BitVec.cons x v).rotateRight c).msb) := by
  induction c with
  | zero => exact ⟨by rw [rotateRight_zero, BitVec.setWidth_cons]; rfl, by rw [rotateRight_zero, BitVec.msb_cons]; rfl, rfl⟩
  | succ c ih =>
    refine afterSteps_succ ih fun s hv hx => ?_
    have e : BitVec.cons (s.v.getLsbD 0) (shiftInHigh s.v s.x) = (BitVec.cons x v).rotateRight (c + 1) := by
      rw [cons_shiftInHigh _ _ h, hv, hx, cons_setWidth_msb, rotateRight_rotateRight_one]
    obtain ⟨h1, h2⟩ := cons_parts e
    exact ⟨h1, h2, by rw [if_neg (by omega)]; exact h2⟩

/-- The sign differs from one step to the next just when it differs from the first. -/
theorem changed_stepAsl (c : Nat) (v : BitVec n) (x : Bool) :
    (Shift.times stepAsl c (Shift.begin v x)).changed = (List.range (c + 1)).any fun j => (v <<< j).msb != v.msb := by
  induction c with
  | zero => simp [Shift.times, Shift.begin, BitVec.msb]
  | succ c ih =>
    obtain ⟨hv, -, -⟩ := afterSteps_stepLsl c v x
    rw [times_succ, List.range_succ, List.any_append, ← ih]
    have hv : (Shift.times stepAsl c (Shift.begin v x)).v = v <<< c := hv
    simp only [stepAsl, Shift.left, Shift.toX, hv, shiftInLow_false, ← BitVec.shiftLeft_add]
    cases hch : (Shift.times stepAsl c (Shift.begin v x)).changed with
    | true => rfl
    | false =>
      rw [ih, List.any_eq_false] at hch
      have hc := hch c (by simp)
      have : (v <<< c).msb = v.msb := by simpa using hc
      simp [this]

/-- Settles O16: the rules apply the step as often as the count, and each step is a shift or a rotation by one. -/
theorem shiftsComplete : Obligations.ShiftsComplete := by
  refine ⟨⟨shiftRegCompletes fun _ _ _ _ => rfl, shiftRegCompletes fun _ _ _ _ => rfl, shiftRegCompletes fun _ _ _ _ => rfl,
      shiftRegCompletes fun _ _ _ _ => rfl, shiftRegCompletes fun _ _ _ _ => rfl, shiftRegCompletes fun _ _ _ _ => rfl,
      shiftRegCompletes fun _ _ _ _ => rfl, shiftRegCompletes fun _ _ _ _ => rfl⟩,
    fun ea => ⟨shiftMemCompletes fun _ => rfl, shiftMemCompletes fun _ => rfl, shiftMemCompletes fun _ => rfl,
      shiftMemCompletes fun _ => rfl, shiftMemCompletes fun _ => rfl, shiftMemCompletes fun _ => rfl, shiftMemCompletes fun _ => rfl,
      shiftMemCompletes fun _ => rfl⟩, fun n c v old h => ⟨?_, ?_, ?_, ?_, ?_, ?_, ?_, ?_⟩⟩
  · exact shiftIs_of_afterSteps (afterSteps_stepLsl c v old.x) (changed_stepAsl c v old.x).symm (by split <;> simp [*])
  · exact shiftIs_of_afterSteps (afterSteps_stepLsl c v old.x) rfl (by split <;> simp [*])
  · exact shiftIs_of_afterSteps (afterSteps_stepAsr c v old.x h) rfl (by split <;> simp [*])
  · exact shiftIs_of_afterSteps (afterSteps_stepLsr c v old.x) rfl (by split <;> simp [*])
  · exact shiftIs_of_afterSteps (afterSteps_stepRol c v old.x h) rfl (by split <;> simp [*])
  · exact shiftIs_of_afterSteps (afterSteps_stepRor c v old.x h) rfl (by split <;> simp [*])
  · exact shiftIs_of_afterSteps (afterSteps_stepRoxl c v old.x h) rfl (by split <;> simp [*])
  · exact shiftIs_of_afterSteps (afterSteps_stepRoxr c v old.x h) rfl (by split <;> simp [*])

end Sys2Proof.Laws
end

section
/-! Z80 instructions that complete (46 to 48), by the shapes they share: registers only, one byte read, written, or updated. -/

namespace Sys2Proof.Laws

open Sys2Proof.Machine

/-! ### One law for each shape -/

/-- A Z80 instruction whose rule writes registers only. -/
theorem zRegisterCompletes_of {i : Instr} {rule : Word → Op (List Nat)} {f : Word → Z80 → Z80} {data : Z80 → List Nat}
    (hx : ∀ s, exec i s = runZ80 i rule s)
    (hr : ∀ s : State, Gives (rule s.z80.pc) (s.pastZ80 i, []) (data s.z80) ((s.pastZ80 i).mapZ80 (f s.z80.pc), [])) :
    ZRegisterCompletes i f data :=
  fun s hs => nextZ80 (hx s) hs (hr s)

/-- As `zRegisterCompletes_of`, for a rule that names no cycles data. -/
theorem zRegisterCompletes {i : Instr} {rule : Word → Op (List Nat)} {f : Word → Z80 → Z80} (hx : ∀ s, exec i s = runZ80 i rule s)
    (hr : ∀ (ipc : Word) (t : State), Gives (rule ipc) (t, []) [] (t.mapZ80 (f ipc), [])) : ZRegisterCompletes i f fun _ => [] :=
  zRegisterCompletes_of hx fun _ => hr _ _

/-- A Z80 instruction whose rule reads one byte, and then writes registers. -/
theorem zLoadCompletes {i : Instr} {addr : Z80 → Word} {rule : Word → Op (List Nat)} {f : Byte → Z80 → Z80}
    (hx : ∀ s, exec i s = runZ80 i rule s) (ha : ∀ z k, addr (Z80.begin z k) = addr z)
    (hr : ∀ (ipc : Word) (t : State) (v : Byte), t.peek (addr t.z80) = some v → Gives (rule ipc) (t, []) [] (t.mapZ80 (f v), [])) :
    ZLoadCompletes i addr f :=
  fun s v hs hp => nextZ80 (hx s) hs (hr _ (s.pastZ80 i) v ((congrArg s.peek (ha s.z80 _)).trans hp))

/-- A Z80 instruction whose rule writes one byte. -/
theorem zStoreCompletes {i : Instr} {addr : Z80 → Word} {value : Z80 → Byte} {rule : Word → Op (List Nat)} {f : Z80 → Z80}
    (hx : ∀ s, exec i s = runZ80 i rule s) (ha : ∀ z k, addr (Z80.begin z k) = addr z) (hv : ∀ z k, value (Z80.begin z k) = value z)
    (hr : ∀ (ipc : Word) (t u : State), (t.mapZ80 f).poke (addr t.z80) (value t.z80) = some u → Gives (rule ipc) (t, []) [] (u, [])) :
    ZStoreCompletes i addr value f :=
  fun s t hs hp => nextZ80 (hx s) hs (hr _ (s.pastZ80 i) t (by
    rw [show (s.pastZ80 i).z80 = s.z80.begin (encodeZ80 i).length from rfl, ha, hv]
    exact hp))

/-- A Z80 instruction whose rule reads one byte and writes it back. -/
theorem zUpdateCompletes {i : Instr} {addr : Z80 → Word} {value : Byte → Z80 → Byte} {rule : Word → Op (List Nat)} {f : Byte → Z80 → Z80}
    (hx : ∀ s, exec i s = runZ80 i rule s) (ha : ∀ z k, addr (Z80.begin z k) = addr z)
    (hv : ∀ v z k, value v (Z80.begin z k) = value v z)
    (hr : ∀ (ipc : Word) (t : State) (v : Byte) (u : State), t.peek (addr t.z80) = some v →
      (t.mapZ80 (f v)).poke (addr t.z80) (value v t.z80) = some u → Gives (rule ipc) (t, []) [] (u, [])) :
    ZUpdateCompletes i addr value f :=
  fun s v t hs hp hw => nextZ80 (hx s) hs (hr _ (s.pastZ80 i) v t ((congrArg s.peek (ha s.z80 _)).trans hp) (by
    rw [show (s.pastZ80 i).z80 = s.z80.begin (encodeZ80 i).length from rfl, ha, hv]
    exact hw))

/-- Registers written, and no cycles data. -/
theorem gives_setZ80_done (f : Z80 → Z80) (s : State) (l : List Long) :
    Gives (do setZ80 f; pure []) (s, l) ([] : List Nat) (s.mapZ80 f, l) :=
  gives_bind (gives_setZ80 _ _) (gives_pure _ _)

/-- Registers and then flags written, and no cycles data. -/
theorem gives_setZ80_setFlags_done (f : Z80 → Z80) (g : ZFlags) (s : State) (l : List Long) :
    Gives (do setZ80 f; setFlags g; pure []) (s, l) ([] : List Nat) (s.mapZ80 fun z => (f z).flagged g, l) :=
  gives_bind (gives_setZ80 _ _) (gives_bind (gives_setFlags _ _) (gives_pure _ _))

/-- As `gives_setZ80_setFlags_done`, given by what the registers become. -/
theorem gives_setZ80_setFlags_to {f k : Z80 → Z80} {g : ZFlags} (s : State) (l : List Long) (h : (f s.z80).flagged g = k s.z80) :
    Gives (do setZ80 f; setFlags g; pure []) (s, l) ([] : List Nat) (s.mapZ80 k, l) :=
  gives_to (gives_setZ80_setFlags_done f g s l) rfl (point_congrZ80 (f := fun z => (f z).flagged g) h)

/-- `(IX+d)` does not depend on PC. -/
theorem atXd_begin (x : Idx) (d : Byte) (z : Z80) (k : Nat) : atXd x d (z.begin k) = atXd x d z := by cases x <;> rfl

theorem bcDe_begin (p : BcDe) (z : Z80) (k : Nat) : (z.begin k).bcDe p = z.bcDe p := by cases p <;> rfl

theorem gives_readHl {s : State} {v : Byte} (h : s.peek s.z80.hl = some v) : Gives (readOp8 .hl) (s, []) v (s, []) := gives_readOp8 h

theorem gives_readXd_at {s : State} {x : Idx} {d v : Byte} (h : s.peek (atXd x d s.z80) = some v) :
    Gives (readXd x d) (s, []) v (s.mapZ80 (keepD d), []) := gives_readXd h

/-- The address `(IX+d)`, and the displacement kept. -/
theorem gives_xxd_at (x : Idx) (d : Byte) (s : State) (l : List Long) :
    Gives (xxd x d) (s, l) (atXd x d s.z80) (s.mapZ80 (keepD d), l) :=
  gives_to (gives_xxd x d s l) (by cases x <;> rfl) rfl

theorem pastZ80_idx (s : State) (i : Instr) (x : Idx) : (s.pastZ80 i).z80.idx x = s.z80.idx x := begin_idx _ _ _

theorem pastZ80_pair (s : State) (i : Instr) (p : ZPair) : (s.pastZ80 i).z80.pair p = s.z80.pair p := by cases p <;> rfl

theorem pastZ80_pairQ (s : State) (i : Instr) (q : ZPairQ) : (s.pastZ80 i).z80.pairQ q = s.z80.pairQ q := by cases q <;> rfl

theorem keepD_reg (d : Byte) (z : Z80) (r : ZReg) : (keepD d z).reg r = z.reg r := by cases r <;> rfl

/-! ### Loads, stores and exchanges -/

theorem zLdXdRCompletes (x : Idx) (r : ZReg) (d : Byte) : ZStoreCompletes (.zLdXdR x r d) (atXd x d) (fun z => z.reg r) (keepD d) := by
  refine zStoreCompletes (fun s => show exec (.zLdXdR x r d) s = execZLdXdR x r d s from rfl) (atXd_begin x d) (fun z k => begin_reg z k r) fun _ t u h => ?_
  refine gives_bind (gives_xxd_at x d _ _) (gives_bind (gives_z80Regs _) (gives_bind (gives_storeZ80 (t := u) ?_) (gives_pure _ _)))
  rw [mapZ80_self, keepD_reg]
  exact h

theorem zLdNnACompletes (nn : Word) : ZStoreCompletes (.zLdNnA nn) (fun _ => nn) (fun z => z.a) id := by
  refine zStoreCompletes (fun s => show exec (.zLdNnA nn) s = execZLdNnA nn s from rfl) (fun _ _ => rfl) (fun _ _ => rfl) fun _ t u h => ?_
  exact gives_bind (gives_z80Regs _) (gives_bind (gives_storeZ80 h) (gives_pure _ _))

/-- Settles O21: one register, or one byte of ZRAM. -/
theorem z80ByteLoadsAndStoresComplete : Obligations.Z80ByteLoadsAndStoresComplete :=
  ⟨⟨fun _ _ => zRegisterCompletes (fun _ => rfl) fun _ _ => gives_setZ80_done _ _ _,
    fun _ _ => zRegisterCompletes (fun _ => rfl) fun _ _ => gives_setZ80_done _ _ _,
    fun _ => zLoadCompletes (fun _ => rfl) (fun _ _ => rfl) fun _ _ _ h => gives_bind (gives_readHl h) (gives_setZ80_done _ _ _),
    fun x _ d => zLoadCompletes (fun _ => rfl) (atXd_begin x d) fun _ _ _ h =>
      gives_bind (gives_readXd_at h) (gives_setZ80_done _ _ _),
    fun p => zLoadCompletes (fun _ => rfl) (bcDe_begin p) fun _ _ _ h =>
      gives_bind (gives_z80Regs _) (gives_bind (gives_loadZ80 h) (gives_setZ80_done _ _ _)),
    fun _ => zLoadCompletes (fun _ => rfl) (fun _ _ => rfl) fun _ _ _ h =>
      gives_bind (gives_loadZ80 h) (gives_setZ80_done _ _ _)⟩,
   fun r => zStoreCompletes (fun s => show exec (.zLdHlR r) s = execZLdHlR r s from rfl) (fun _ _ => rfl) (fun z k => begin_reg z k r) fun _ _ _ h =>
      gives_bind (gives_z80Regs _) (gives_bind (gives_writeOp8 (o := .hl) h) (gives_pure _ _)),
    zLdXdRCompletes,
    fun n => zStoreCompletes (fun s => show exec (.zLdHlImm n) s = execZLdHlImm n s from rfl) (fun _ _ => rfl) (fun _ _ => rfl) fun _ _ _ h =>
      gives_bind (gives_writeOp8 (o := .hl) h) (gives_pure _ _),
    fun x d n => zStoreCompletes (fun s => show exec (.zLdXdImm x d n) s = execZLdXdImm x d n s from rfl) (atXd_begin x d) (fun _ _ => rfl) fun _ _ _ h =>
      gives_bind (gives_xxd_at x d _ _) (gives_bind (gives_storeZ80 h) (gives_pure _ _)),
    fun p => zStoreCompletes (fun s => show exec (.zLdIndA p) s = execZLdIndA p s from rfl) (bcDe_begin p) (fun _ _ => rfl) fun _ _ _ h =>
      gives_bind (gives_z80Regs _) (gives_bind (gives_storeZ80 h) (gives_pure _ _)),
    zLdNnACompletes⟩

/-- EX (SP): both bytes are read, then both are written (46 R533). -/
theorem gives_exchangeTop {s t1 t2 : State} {v w : Word} (h : s.peek16 s.z80.sp = some v)
    (h1 : s.poke (s.z80.sp + 1#16) (w.extractLsb' 8 8) = some t1) (h2 : t1.poke s.z80.sp (w.extractLsb' 0 8) = some t2) :
    Gives (exchangeTop w) (s, []) v (t2, []) := by
  rw [State.peek16] at h
  split at h
  · rename_i lo hi hlo hhi
    cases h
    exact gives_bind (gives_z80Regs _) (gives_bind (gives_loadZ80 hlo) (gives_bind (gives_loadZ80 hhi)
      (gives_bind (gives_storeZ80 h1) (gives_bind (gives_storeZ80 h2) (gives_pure _ _)))))
  · cases h

/-- A byte is its bit 7 and its bits 6:0. -/
theorem getLsbD_append_bit (a : BitVec 1) (b : BitVec 7) : (a ++ b : Byte).getLsbD 7 = a.getLsbD 0 := by
  exact (BitVec.getLsbD_append (x := a) (y := b)).trans (by simp)

theorem highByte_append (a b : Byte) : (a ++ b : Word).extractLsb' 8 8 = a := by
  rw [BitVec.extractLsb'_append_eq_of_le (Nat.le_refl 8), Nat.sub_self, BitVec.extractLsb'_eq_self]

theorem lowByte_append (a b : Byte) : (a ++ b : Word).extractLsb' 0 8 = b := by
  rw [BitVec.extractLsb'_append_eq_of_add_le (Nat.le_refl 8), BitVec.extractLsb'_eq_self]

/-- EX DE,HL by registers and by pairs (46 R530). -/
theorem exDeHl_eq (z : Z80) : { z with d := z.h, e := z.l, h := z.d, l := z.e } = (z.setDe z.hl).setHl z.de := by
  simp only [Z80.setDe, Z80.setHl, Z80.hl, Z80.de, highByte_append, lowByte_append]

/-- LD A,R: bit 7 as last written, the others free (46 R535). -/
theorem zLdARfCompletes (s : State) (hs : s.readyZ80) : ∃ v : Byte, v.getLsbD 7 = s.z80.r.getLsbD 7 ∧
    exec .zLdARf s = .next (((s.pastZ80 .zLdARf).mapZ80 fun z =>
      { z with a := v, draws := z.draws + 1 }.flagged (szFlags v false z.iff2 false z.flags.c)).endedZ80 .zLdARf []) := by
  refine ⟨s.z80.r.extractLsb' 7 1 ++ (s.pastZ80 .zLdARf).z80.freeByte.1.extractLsb' 0 7, ?_, ?_⟩
  · rw [getLsbD_append_bit]
    simp
  · exact nextZ80 (show exec .zLdARf s = execZLdARf s from rfl) hs
      (gives_bind (gives_z80Regs _) (gives_bind (gives_drawZ80 _)
        (gives_to (gives_setZ80_setFlags_done _ _ _ _) rfl (point_congrZ80 (s := s.pastZ80 .zLdARf) (f := fun z => _) rfl))))

/-- Settles O22: exchanges of registers, EX (SP), and the loads of I and R. -/
theorem z80ExchangesAndSpecialLoadsComplete : Obligations.Z80ExchangesAndSpecialLoadsComplete := by
  refine ⟨⟨zRegisterCompletes (fun _ => rfl) fun ipc t => gives_to (gives_setZ80_done _ _ _) rfl (point_congrZ80 (exDeHl_eq _)),
      zRegisterCompletes (fun _ => rfl) fun _ _ => gives_setZ80_done _ _ _,
      zRegisterCompletes (fun _ => rfl) fun _ _ => gives_setZ80_done _ _ _,
      fun i get set s v t1 t2 hi hs hv h1 h2 => ?_⟩,
    zRegisterCompletes (fun s => show exec .zLdAI s = execZLdAI s from rfl) fun ipc t =>
      gives_bind (gives_z80Regs _) (gives_setZ80_setFlags_to _ _ rfl),
    zRegisterCompletes (fun _ => rfl) fun _ _ => gives_setZ80_done _ _ _,
    zRegisterCompletes (fun _ => rfl) fun _ _ => gives_setZ80_done _ _ _, zLdARfCompletes⟩
  · obtain ⟨rfl, rfl, rfl⟩ | ⟨x, rfl, rfl, rfl⟩ := hi
    · have h := gives_exchangeTop (s := s.pastZ80 .zExSpHl) (w := s.z80.hl) hv h1 h2
      exact nextZ80 (show exec .zExSpHl s = execZExSpHl s from rfl) hs
        (gives_bind (gives_z80Regs _) (gives_bind h (gives_setZ80_done _ _ _)))
    · have h := gives_exchangeTop (s := s.pastZ80 (.zExSpXx x)) (w := s.z80.idx x) hv h1 h2
      exact nextZ80 (show exec (.zExSpXx x) s = execZExSpXx x s from rfl) hs
        (gives_bind (gives_z80Regs _) (gives_bind (by rw [pastZ80_idx]; exact h) (gives_setZ80_done _ _ _)))

end Sys2Proof.Laws
end

section
/-! Z80 instructions that complete, the others: 16-bit loads and the stack, blocks, arithmetic, rotates and bits, jumps and calls,
control (46 to 48). -/

namespace Sys2Proof.Laws

open Sys2Proof.Machine

variable {s t u : State}

/-! ### 16-bit loads and the stack -/

/-- Settles O23: pairs loaded, stored, pushed and popped. -/
theorem z80PairLoadsAndStackComplete : Obligations.Z80PairLoadsAndStackComplete := by
  refine ⟨⟨fun _ _ => zRegisterCompletes (fun _ => rfl) fun _ _ => gives_setZ80_done _ _ _,
      fun _ _ => zRegisterCompletes (fun _ => rfl) fun _ _ => gives_setZ80_done _ _ _, fun i set s nn v hi hs hv => ?_,
      fun i s nn v t hi hs hv => ?_, zRegisterCompletes (fun _ => rfl) fun _ _ => gives_setZ80_done _ _ _,
      fun _ => zRegisterCompletes (fun _ => rfl) fun _ _ => gives_setZ80_done _ _ _⟩,
    fun s q t hs hp => ?_, fun s x t hs hp => ?_, fun s q v t hs hp => ?_, fun s x v t hs hp => ?_⟩
  · obtain ⟨rfl, rfl⟩ | ⟨x, rfl, rfl⟩ | ⟨p, rfl, rfl⟩ := hi
    · exact nextZ80 (show exec (.zLdHlNn nn) s = execZLdHlNn nn s from rfl) hs (gives_bind (gives_load16Z80 hv) (gives_setZ80_done _ _ _))
    · exact nextZ80 (show exec (.zLdXxNn x nn) s = execZLdXxNn x nn s from rfl) hs (gives_bind (gives_load16Z80 hv) (gives_setZ80_done _ _ _))
    · exact nextZ80 (show exec (.zLdPairNn p nn) s = execZLdPairNn p nn s from rfl) hs (gives_bind (gives_load16Z80 hv) (gives_setZ80_done _ _ _))
  · obtain ⟨rfl, rfl⟩ | ⟨x, rfl, rfl⟩ | ⟨p, rfl, rfl⟩ := hi
    · exact nextZ80 (show exec (.zLdNnHl nn) s = execZLdNnHl nn s from rfl) hs (gives_bind (gives_z80Regs _) (gives_bind (gives_store16Z80 hv) (gives_pure _ _)))
    · exact nextZ80 (show exec (.zLdNnXx x nn) s = execZLdNnXx x nn s from rfl) hs (gives_bind (gives_z80Regs _) (gives_bind (gives_store16Z80 (by rw [pastZ80_idx]; exact hv)) (gives_pure _ _)))
    · exact nextZ80 (show exec (.zLdNnPair p nn) s = execZLdNnPair p nn s from rfl) hs (gives_bind (gives_z80Regs _) (gives_bind (gives_store16Z80 (by rw [pastZ80_pair]; exact hv)) (gives_pure _ _)))
  · exact nextZ80 (show exec (.zPush q) s = execZPush q s from rfl) hs (gives_bind (gives_z80Regs _) (gives_bind (gives_pushZ80 (by rw [pastZ80_pairQ]; exact hp)) (gives_pure _ _)))
  · exact nextZ80 (show exec (.zPushXx x) s = execZPushXx x s from rfl) hs (gives_bind (gives_z80Regs _) (gives_bind (gives_pushZ80 (by rw [pastZ80_idx]; exact hp)) (gives_pure _ _)))
  · exact nextZ80 (show exec (.zPop q) s = execZPop q s from rfl) hs (gives_bind (gives_popZ80 hp) (gives_setZ80_done _ _ _))
  · exact nextZ80 (show exec (.zPopXx x) s = execZPopXx x s from rfl) hs (gives_bind (gives_popZ80 hp) (gives_setZ80_done _ _ _))

/-! ### Blocks -/

/-- The registers after a branch back to the instruction's own address, or not. -/
theorem gives_repeatIf (ipc : Word) (more : Bool) (s : State) (l : List Long) :
    Gives (repeatIf ipc more) (s, l) [more.toNat] (s.mapZ80 fun z => if more then { z with pc := ipc } else z, l) := by
  cases more with
  | true => exact gives_bind (gives_setZ80 (fun z => { z with pc := ipc }) _) (gives_pure [1] _)
  | false => exact gives_pure [0] _

/-- A store of Z80 leaves its registers as they are. -/
theorem poke_z80 {a : Word} {v : Byte} (h : s.poke a v = some t) : t.z80 = s.z80 := by
  rw [State.poke] at h
  split at h
  · split at h
    · injection h with h
      subst h
      rfl
    · cases h
  · cases h

/-- The registers after one iteration of LDI or LDD (46 R546). -/
def transferred (down : Bool) (z : Z80) : Z80 :=
  (((z.setDe (blockStep down z.de)).setHl (blockStep down z.hl)).setBc (z.bc - 1#16)).flagged
    { z.flags with h := false, n := false, p := decide (z.bc - 1#16 ≠ 0#16) }

theorem gives_blockTransfer {v : Byte} (down : Bool) (hr : s.peek s.z80.hl = some v) (hw : s.poke s.z80.de v = some t) :
    Gives (blockTransfer down) (s, []) () (t.mapZ80 (transferred down), []) := by
  refine gives_bind (gives_z80Regs _) (gives_bind (gives_loadZ80 hr) (gives_bind (gives_storeZ80 hw)
    (gives_bind (gives_setZ80 _ _) (gives_bind (gives_z80Regs _) (gives_to (gives_setFlags _ _) rfl ?_)))))
  rw [mapZ80_mapZ80]
  refine point_congrZ80 ?_
  simp only [mapZ80_self, poke_z80 hw, setBc_flags, setHl_flags, setDe_flags, setBc_bc]
  rfl

/-- The registers after one iteration of CPI or CPD (46 R550). -/
def compared (down : Bool) (v : Byte) (z : Z80) : Z80 :=
  ((z.setHl (blockStep down z.hl)).setBc (z.bc - 1#16)).flagged
    (szFlags (z.a - v) (decide (lowNibble z.a < lowNibble v)) (decide (z.bc - 1#16 ≠ 0#16)) true z.flags.c)

theorem gives_blockCompare {v : Byte} (down : Bool) (hr : s.peek s.z80.hl = some v) :
    Gives (blockCompare down) (s, []) (s.z80.a - v) (s.mapZ80 (compared down v), []) := by
  refine gives_bind (gives_z80Regs _) (gives_bind (gives_loadZ80 hr) (gives_bind (gives_setZ80 _ _)
    (gives_bind (gives_z80Regs _) (gives_bind (gives_setFlags _ _) (gives_pure_eq rfl ?_)))))
  rw [mapZ80_mapZ80]
  refine point_congrZ80 ?_
  simp only [mapZ80_self, setBc_flags, setHl_flags, setBc_bc]
  rfl

/-- A repeating block instruction, from one iteration. -/
theorem gives_repeat {α : Type} {x : Op α} {a : α} {more : α → Z80 → Bool} {ipc : Word} (h : Gives x (s, []) a (t, [])) :
    Gives (do let r ← x; let z ← z80Regs; repeatIf ipc (more r z)) (s, []) [(more a t.z80).toNat]
      (t.mapZ80 fun z => if more a z then { z with pc := ipc } else z, []) :=
  gives_bind h (gives_bind (gives_z80Regs _) (gives_to (gives_repeatIf _ _ _ _) rfl (point_congrZ80 rfl)))

/-- BC after one iteration. -/
theorem transferred_bc (down : Bool) (z : Z80) : (transferred down z).bc = z.bc - 1#16 := by simp [transferred]

theorem compared_bc (down : Bool) (v : Byte) (z : Z80) : (compared down v z).bc = z.bc - 1#16 := by simp [compared]

theorem gives_blockTransferRepeat {v : Byte} (down : Bool) (ipc : Word) (hr : s.peek s.z80.hl = some v)
    (hw : s.poke s.z80.de v = some t) :
    Gives (blockTransferRepeat down ipc) (s, []) [(decide (s.z80.bc - 1#16 ≠ 0#16)).toNat]
      (t.mapZ80 fun z => if decide (z.bc - 1#16 ≠ 0#16) then { transferred down z with pc := ipc } else transferred down z, []) := by
  refine gives_to (gives_repeat (more := fun _ z => decide (z.bc ≠ 0#16)) (gives_blockTransfer down hr hw)) ?_ ?_
  · rw [mapZ80_self, transferred_bc, poke_z80 hw]
  · rw [mapZ80_mapZ80]
    simp only [transferred_bc]

theorem gives_blockCompareRepeat {v : Byte} (down : Bool) (ipc : Word) (hr : s.peek s.z80.hl = some v) :
    Gives (blockCompareRepeat down ipc) (s, []) [(decide (s.z80.bc - 1#16 ≠ 0#16) && decide (s.z80.a ≠ v)).toNat]
      (s.mapZ80 fun z => if decide (z.bc - 1#16 ≠ 0#16) && decide (z.a ≠ v) then { compared down v z with pc := ipc }
        else compared down v z, []) := by
  have e : (s.z80.a - v = 0#8) = (s.z80.a = v) := propext sub_eq_zero
  refine gives_to (gives_repeat (more := fun r z => decide (z.bc ≠ 0#16) && decide (r ≠ 0#8)) (gives_blockCompare down hr)) ?_ ?_
  · simp only [mapZ80_self, compared_bc, ne_eq, e]
  · rw [mapZ80_mapZ80]
    refine point_congrZ80 ?_
    simp only [compared_bc, ne_eq, e]

/-- Settles O24: one iteration, and for the repeating forms the branch back. -/
theorem z80BlocksComplete : Obligations.Z80BlocksComplete := by
  refine ⟨fun i down again s v t hi hs hr hw => ?_, fun i down again s v hi hs hr => ?_⟩
  · simp only [List.mem_cons, Prod.mk.injEq, List.not_mem_nil, or_false] at hi
    obtain ⟨rfl, rfl, rfl⟩ | ⟨rfl, rfl, rfl⟩ | ⟨rfl, rfl, rfl⟩ | ⟨rfl, rfl, rfl⟩ := hi
    · exact nextZ80 (show exec .zLdi s = execZLdi s from rfl) hs (gives_bind (gives_blockTransfer false hr hw) (gives_pure _ _))
    · exact nextZ80 (show exec .zLdd s = execZLdd s from rfl) hs (gives_bind (gives_blockTransfer true hr hw) (gives_pure _ _))
    · exact nextZ80 (show exec .zLdir s = execZLdir s from rfl) hs (gives_blockTransferRepeat false _ hr hw)
    · exact nextZ80 (show exec .zLddr s = execZLddr s from rfl) hs (gives_blockTransferRepeat true _ hr hw)
  · simp only [List.mem_cons, Prod.mk.injEq, List.not_mem_nil, or_false] at hi
    obtain ⟨rfl, rfl, rfl⟩ | ⟨rfl, rfl, rfl⟩ | ⟨rfl, rfl, rfl⟩ | ⟨rfl, rfl, rfl⟩ := hi
    · exact nextZ80 (show exec .zCpi s = execZCpi s from rfl) hs (gives_bind (gives_blockCompare false hr) (gives_pure _ _))
    · exact nextZ80 (show exec .zCpd s = execZCpd s from rfl) hs (gives_bind (gives_blockCompare true hr) (gives_pure _ _))
    · exact nextZ80 (show exec .zCpir s = execZCpir s from rfl) hs (gives_blockCompareRepeat false _ hr)
    · exact nextZ80 (show exec .zCpdr s = execZCpdr s from rfl) hs (gives_blockCompareRepeat true _ hr)

end Sys2Proof.Laws
end

section
/-! Z80 arithmetic, rotates, bits, jumps, calls and control that complete (47, 48). -/

namespace Sys2Proof.Laws

open Sys2Proof.Machine

variable {s t u : State}

/-! ### A register, (HL) or (IX+d), updated -/

/-- An instruction that updates a register, `(HL)` or `(IX+d)`, from what it computes of the byte. -/
theorem zOperandCompletes {mk : ZOp8 → Instr} {mkXd : Idx → Byte → Instr} {value : Byte → Z80 → Byte} {f : Byte → Z80 → Z80}
    {F : Byte → Op Byte} (hx : ∀ o s, exec (mk o) s = runZ80 (mk o) (fun _ => do updateOp8 o F; pure []) s)
    (hxd : ∀ x d s, exec (mkXd x d) s = runZ80 (mkXd x d) (fun _ => do updateXd x d F; pure []) s)
    (hF : ∀ v (t : State), Gives (F v) (t, []) (value v t.z80) (t.mapZ80 (f v), []))
    (hl : ∀ v z, (f v z).hl = z.hl) (hv : ∀ v z k, value v (Z80.begin z k) = value v z)
    (hd : ∀ v z d, value v (keepD d z) = value v z) : ZOperandCompletes mk mkXd value f := by
  refine ⟨fun r => zRegisterCompletes (hx (.reg r)) fun _ t => ?_, zUpdateCompletes (hx .hl) (fun _ _ => rfl) hv fun _ t v u hr hw => ?_,
    fun x d => zUpdateCompletes (hxd x d) (atXd_begin x d) hv fun _ t v u hr hw => ?_⟩
  · exact gives_bind (gives_updateOp8 (o := .reg r) rfl (hF _ _) rfl) (gives_pure_eq rfl (point_congrZ80 rfl))
  · refine gives_bind (gives_updateOp8 (o := .hl) hr (hF _ _) ?_) (gives_pure _ _)
    show (t.mapZ80 (f v)).poke (f v t.z80).hl _ = some u
    rw [hl]
    exact hw
  · refine gives_bind (gives_updateXd hr (hF _ _) ?_) (gives_pure _ _)
    show (t.mapZ80 fun z => f v (keepD d z)).poke _ (value v (keepD d t.z80)) = some u
    rw [hd]
    exact hw

/-! ### 8-bit arithmetic -/

theorem gives_accumulate (f : Alu8) (v : Byte) (s : State) (l : List Long) : Gives (accumulate f v) (s, l) []
    (s.mapZ80 fun z => { z with a := (f z.a v z.flags.c).1 }.flagged (f z.a v z.flags.c).2, l) :=
  gives_bind (gives_z80Regs _) (gives_setZ80_setFlags_to _ _ rfl)

theorem aluCompletes {mkR : ZOp8 → Instr} {mkN : Byte → Instr} {mkXd : Idx → Byte → Instr} {f : Alu8}
    (hr : ∀ o s, exec (mkR o) s = runZ80 (mkR o) (fun _ => do let v ← readOp8 o; accumulate f v) s)
    (hn : ∀ n s, exec (mkN n) s = runZ80 (mkN n) (fun _ => accumulate f n) s)
    (hxd : ∀ x d s, exec (mkXd x d) s = runZ80 (mkXd x d) (fun _ => do let v ← readXd x d; accumulate f v) s) :
    AluCompletes mkR mkN mkXd f := by
  refine ⟨fun r => zRegisterCompletes (hr (.reg r)) fun _ t => ?_, zLoadCompletes (hr .hl) (fun _ _ => rfl) fun _ t v h => ?_,
    fun n => zRegisterCompletes (hn n) fun _ t => gives_accumulate _ _ _ _,
    fun x d => zLoadCompletes (hxd x d) (atXd_begin x d) fun _ t v h => ?_⟩
  · exact gives_bind (gives_readOp8 (o := .reg r) rfl) (gives_to (gives_accumulate _ _ _ _) rfl (point_congrZ80 rfl))
  · exact gives_bind (gives_readHl h) (gives_accumulate _ _ _ _)
  · exact gives_bind (gives_readXd_at h) (gives_accumulate _ _ _ _)

theorem gives_incValue (v : Byte) (s : State) : Gives (incValue v) (s, []) (v + 1#8) (s.mapZ80 fun z =>
    z.flagged (szFlags (v + 1#8) (decide (lowNibble v = 15)) (decide (v = 0x7F#8)) false z.flags.c), []) :=
  gives_bind (gives_getFlags _) (gives_bind (gives_setFlags _ _) (gives_pure_eq rfl (point_congrZ80 rfl)))

theorem gives_decValue (v : Byte) (s : State) : Gives (decValue v) (s, []) (v - 1#8) (s.mapZ80 fun z =>
    z.flagged (szFlags (v - 1#8) (decide (lowNibble v = 0)) (decide (v = 0x80#8)) true z.flags.c), []) :=
  gives_bind (gives_getFlags _) (gives_bind (gives_setFlags _ _) (gives_pure_eq rfl (point_congrZ80 rfl)))

/-- Settles O25: the eight operations share one rule, and INC and DEC another. -/
theorem z80ByteArithmeticCompletes : Obligations.Z80ByteArithmeticCompletes :=
  ⟨⟨aluCompletes (f := alu8Add) (fun _ _ => rfl) (fun _ _ => rfl) fun _ _ _ => rfl,
    aluCompletes (f := alu8Adc) (fun _ _ => rfl) (fun _ _ => rfl) fun _ _ _ => rfl,
    aluCompletes (f := alu8Sub) (fun _ _ => rfl) (fun _ _ => rfl) fun _ _ _ => rfl,
    aluCompletes (f := alu8Sbc) (fun _ _ => rfl) (fun _ _ => rfl) fun _ _ _ => rfl,
    aluCompletes (f := alu8And) (fun _ _ => rfl) (fun _ _ => rfl) fun _ _ _ => rfl,
    aluCompletes (f := alu8Or) (fun _ _ => rfl) (fun _ _ => rfl) fun _ _ _ => rfl,
    aluCompletes (f := alu8Xor) (fun _ _ => rfl) (fun _ _ => rfl) fun _ _ _ => rfl,
    aluCompletes (f := alu8Cp) (fun _ _ => rfl) (fun _ _ => rfl) fun _ _ _ => rfl⟩,
   zOperandCompletes (fun _ _ => rfl) (fun _ _ _ => rfl) gives_incValue (fun _ _ => rfl) (fun _ _ _ => rfl) fun _ _ _ => rfl,
   zOperandCompletes (fun _ _ => rfl) (fun _ _ _ => rfl) gives_decValue (fun _ _ => rfl) (fun _ _ _ => rfl) fun _ _ _ => rfl⟩

/-! ### The accumulator -/

/-- A rotation to the left that takes in `b`. -/
theorem shiftInLow_eq_append (v : Byte) (b : Bool) : shiftInLow v b = v.extractLsb' 0 7 ++ BitVec.ofBool b := by
  refine BitVec.eq_of_getLsbD_eq fun i hi => ?_
  rw [getLsbD_shiftInLow _ _ hi]
  refine Eq.trans ?_ (BitVec.getLsbD_append (x := v.extractLsb' 0 7) (y := BitVec.ofBool b)).symm
  by_cases h : i = 0
  · simp [h]
  · simp [h, show i - 1 < 7 by omega]

/-- A rotation to the right that takes in `b`. -/
theorem shiftInHigh_eq_append (v : Byte) (b : Bool) : shiftInHigh v b = BitVec.ofBool b ++ v.extractLsb' 1 7 := by
  refine BitVec.eq_of_getLsbD_eq fun i hi => ?_
  rw [getLsbD_shiftInHigh _ _ hi]
  refine Eq.trans ?_ (BitVec.getLsbD_append (x := BitVec.ofBool b) (y := v.extractLsb' 1 7)).symm
  by_cases h : i = 7
  · simp [h]
  · simp [h, show i < 7 by omega, Nat.add_comm]

theorem gives_rotateA (k : Rot) (s : State) (l : List Long) : Gives (rotateA k) (s, l) []
    (s.mapZ80 fun z => { z with a := (k.apply z.a z.flags.c).1 }.flagged
      { z.flags with c := (k.apply z.a z.flags.c).2, h := false, n := false }, l) :=
  gives_bind (gives_z80Regs _) (gives_setZ80_setFlags_to _ _ rfl)

/-- An accumulator rotate, by its result and the bit moved out. -/
theorem rotateACompletes {i : Instr} {k : Rot} {res : Byte → Bool → Byte} {out : Byte → Bool}
    (hx : ∀ s, exec i s = runZ80 i (fun _ => rotateA k) s) (hk : ∀ v c, k.apply v c = (res v c, out v)) :
    ZRegisterCompletes i (fun _ z => { z with a := res z.a z.flags.c }.flagged { z.flags with c := out z.a, h := false, n := false })
      (fun _ => []) :=
  zRegisterCompletes hx fun _ t => gives_to (gives_rotateA k t []) rfl (point_congrZ80 (by rw [hk]))

/-- A store of Z80 does not depend on its registers. -/
theorem poke_mapZ80 (s : State) (f : Z80 → Z80) (a : Word) (v : Byte) :
    (s.mapZ80 f).poke a v = (s.poke a v).map fun t => t.mapZ80 f := by
  simp only [State.poke, mapZ80_launch]
  cases Sys2Proof.Machine.placeZ80 s.launch a with
  | none => rfl
  | some p =>
    cases p with
    | zram off =>
      by_cases hl : s.launch.localZ80 a = true
      · simp only [hl, if_true]
        rfl
      · simp only [hl]
        rfl
    | _ => rfl

/-- RLD and RRD (47 R602, R603). -/
theorem rotateDigitCompletes {i : Instr} {mem acc : Byte → Byte → Byte} (hx : ∀ s, exec i s = runZ80 i (fun _ => rotateDigit mem acc) s) :
    ZUpdateCompletes i Z80.hl (fun v z => mem v z.a) fun v z =>
      { z with a := acc v z.a }.flagged (szFlags (acc v z.a) false (parity (acc v z.a)) false z.flags.c) := by
  refine zUpdateCompletes hx (fun _ _ => rfl) (fun _ _ _ => rfl) fun _ t v u hr hw => ?_
  rw [poke_mapZ80, Option.map_eq_some_iff] at hw
  obtain ⟨w, hw', rfl⟩ := hw
  refine gives_bind (gives_z80Regs _) (gives_bind (gives_loadZ80 hr) (gives_bind (gives_storeZ80 hw') (gives_bind (gives_setZ80 _ _)
    (gives_bind (gives_z80Regs _) (gives_bind (gives_setFlags _ _) (gives_pure_eq rfl ?_))))))
  rw [mapZ80_mapZ80]
  exact point_congrZ80 rfl

theorem sub8_zero_left (a : Byte) : (sub8 0#8 a false).1 = 0#8 - a := by simp [sub8, bitOf]

theorem zNegCompletes : ZRegisterCompletes .zNeg (fun _ z => { z with a := 0#8 - z.a }.flagged (sub8 0#8 z.a false).2) (fun _ => []) := by
  refine zRegisterCompletes (fun s => show exec .zNeg s = execZNeg s from rfl) fun _ t => gives_bind (gives_z80Regs _) (gives_setZ80_setFlags_to _ _ ?_)
  rw [sub8_zero_left]

/-- Settles O26: flags and A, and the digits of (HL). -/
theorem z80AccumulatorComplete : Obligations.Z80AccumulatorComplete :=
  ⟨⟨zRegisterCompletes (fun s => show exec .zCpl s = execZCpl s from rfl) fun _ _ => gives_bind (gives_getFlags _) (gives_setZ80_setFlags_to _ _ rfl), zNegCompletes,
    zRegisterCompletes (fun s => show exec .zCcf s = execZCcf s from rfl) fun _ _ => gives_bind (gives_getFlags _) (gives_bind (gives_setFlags _ _)
      (gives_pure_eq rfl (point_congrZ80 rfl))),
    zRegisterCompletes (fun s => show exec .zScf s = execZScf s from rfl) fun _ _ => gives_bind (gives_getFlags _) (gives_bind (gives_setFlags _ _)
      (gives_pure_eq rfl (point_congrZ80 rfl)))⟩,
   rotateACompletes (k := .rlc) (res := fun v _ => v.rotateLeft 1) (fun _ => rfl) fun v _ => congrArg (·, v.msb) (shiftInLow_msb v),
   rotateACompletes (k := .rl) (fun _ => rfl) fun v c => congrArg (·, v.msb) (shiftInLow_eq_append v c),
   rotateACompletes (k := .rrc) (res := fun v _ => v.rotateRight 1) (fun _ => rfl) fun v _ =>
     congrArg (·, v.getLsbD 0) (shiftInHigh_lsb v),
   rotateACompletes (k := .rr) (fun _ => rfl) fun v c => congrArg (·, v.getLsbD 0) (shiftInHigh_eq_append v c),
   rotateDigitCompletes (fun s => show exec .zRld s = execZRld s from rfl), rotateDigitCompletes (fun s => show exec .zRrd s = execZRrd s from rfl)⟩

/-! ### 16-bit arithmetic -/

/-- Settles O27: pairs and their flags. -/
theorem z80PairArithmeticCompletes : Obligations.Z80PairArithmeticCompletes :=
  ⟨fun p => zRegisterCompletes (fun s => show exec (.zAddHl p) s = execZAddHl p s from rfl) fun _ _ => gives_bind (gives_z80Regs _) (gives_setZ80_setFlags_to _ _ rfl),
   fun x p => zRegisterCompletes (fun s => show exec (.zAddXx x p) s = execZAddXx x p s from rfl) fun _ _ => gives_bind (gives_z80Regs _) (gives_setZ80_setFlags_to _ _ rfl),
   fun p => zRegisterCompletes (fun s => show exec (.zAdcHl p) s = execZAdcHl p s from rfl) fun _ _ => gives_bind (gives_z80Regs _) (gives_setZ80_setFlags_to _ _ rfl),
   fun p => zRegisterCompletes (fun s => show exec (.zSbcHl p) s = execZSbcHl p s from rfl) fun _ _ => gives_bind (gives_z80Regs _) (gives_setZ80_setFlags_to _ _ rfl),
   fun p => zRegisterCompletes (fun s => show exec (.zIncPair p) s = execZIncPair p s from rfl) fun _ _ => gives_setZ80_done _ _ _,
   fun p => zRegisterCompletes (fun s => show exec (.zDecPair p) s = execZDecPair p s from rfl) fun _ _ => gives_setZ80_done _ _ _,
   fun x => zRegisterCompletes (fun s => show exec (.zIncXx x) s = execZIncXx x s from rfl) fun _ _ => gives_setZ80_done _ _ _,
   fun x => zRegisterCompletes (fun s => show exec (.zDecXx x) s = execZDecXx x s from rfl) fun _ _ => gives_setZ80_done _ _ _⟩

/-! ### Rotates and bits -/

/-- A rotate of the CB page, by its result and the bit moved out. -/
theorem rotCompletes {mk : ZOp8 → Instr} {mkXd : Idx → Byte → Instr} {k : Rot} {res : Byte → Bool → Byte} {out : Byte → Bool}
    (hx : ∀ o s, exec (mk o) s = runZ80 (mk o) (fun _ => do updateOp8 o (rotateValue k); pure []) s)
    (hxd : ∀ x d s, exec (mkXd x d) s = runZ80 (mkXd x d) (fun _ => do updateXd x d (rotateValue k); pure []) s)
    (hk : ∀ v c, k.apply v c = (res v c, out v)) : RotCompletes mk mkXd res out := by
  refine zOperandCompletes hx hxd (fun v t => ?_) (fun _ _ => rfl) (fun _ _ _ => rfl) fun _ _ _ => rfl
  refine gives_bind (gives_getFlags _) (gives_bind (gives_setFlags _ _) (gives_pure_eq (by rw [hk]) (point_congrZ80 ?_)))
  rw [hk]
  rfl

/-- Settles O28: each rotate by its closed form. -/
theorem z80RotatesComplete : Obligations.Z80RotatesComplete :=
  ⟨rotCompletes (k := .rlc) (fun _ _ => rfl) (fun _ _ _ => rfl) fun v _ => congrArg (·, v.msb) (shiftInLow_msb v),
   rotCompletes (k := .rl) (fun _ _ => rfl) (fun _ _ _ => rfl) fun v c => congrArg (·, v.msb) (shiftInLow_eq_append v c),
   rotCompletes (k := .rrc) (fun _ _ => rfl) (fun _ _ _ => rfl) fun v _ => congrArg (·, v.getLsbD 0) (shiftInHigh_lsb v),
   rotCompletes (k := .rr) (fun _ _ => rfl) (fun _ _ _ => rfl) fun v c => congrArg (·, v.getLsbD 0) (shiftInHigh_eq_append v c),
   rotCompletes (k := .sla) (fun _ _ => rfl) (fun _ _ _ => rfl) fun v _ => congrArg (·, v.msb) (shiftInLow_false v),
   rotCompletes (k := .sra) (fun _ _ => rfl) (fun _ _ _ => rfl) fun v _ => congrArg (·, v.getLsbD 0) (shiftInHigh_msb v),
   rotCompletes (k := .srl) (fun _ _ => rfl) (fun _ _ _ => rfl) fun v _ => congrArg (·, v.getLsbD 0) (shiftInHigh_false v)⟩

theorem gives_bitValue (b : BitVec 3) (v : Byte) (s : State) (l : List Long) : ∃ fs fp, Gives (bitValue b v) (s, l) []
    (s.mapZ80 fun z => { z with draws := z.draws + 1 }.flagged
      { s := fs, z := !v.getLsbD b.toNat, h := true, p := fp, n := false, c := z.flags.c }, l) :=
  ⟨s.z80.freeByte.1.getLsbD 7, s.z80.freeByte.1.getLsbD 2, gives_bind (gives_drawZ80 _) (gives_bind (gives_getFlags _) (gives_bind (gives_setFlags _ _)
    (gives_pure_eq rfl rfl)))⟩

/-- Settles O29: one bit of the operand set, cleared or tested. -/
theorem z80BitInstructionsComplete : Obligations.Z80BitInstructionsComplete := by
  refine ⟨fun b => zOperandCompletes (F := setBitValue b) (fun _ _ => rfl) (fun _ _ _ => rfl) (fun _ _ => gives_pure _ _)
      (fun _ _ => rfl) (fun _ _ _ => rfl) fun _ _ _ => rfl,
    fun b => zOperandCompletes (F := resBitValue b) (fun _ _ => rfl) (fun _ _ _ => rfl) (fun _ _ => gives_pure _ _)
      (fun _ _ => rfl) (fun _ _ _ => rfl) fun _ _ _ => rfl,
    fun s b o v hs hv => ?_, fun s x d b v hs hv => ?_⟩
  · obtain ⟨fs, fp, h⟩ := gives_bitValue b v (s.pastZ80 (.zBit b o)) []
    exact ⟨fs, fp, nextZ80 (show exec (.zBit b o) s = execZBit b o s from rfl) hs (gives_bind (gives_readOp8 (by cases o with | reg r => cases r <;> exact hv | hl => exact hv)) h)⟩
  · obtain ⟨fs, fp, h⟩ := gives_bitValue b v ((s.pastZ80 (.zBitXd x d b)).mapZ80 (keepD d)) []
    exact ⟨fs, fp, nextZ80 (show exec (.zBitXd x d b) s = execZBitXd x d b s from rfl) hs (gives_bind (gives_readXd_at (by cases x <;> exact hv)) h)⟩

end Sys2Proof.Laws
end

section
/-! Z80 jumps, calls and control that complete (48). -/

namespace Sys2Proof.Laws

open Sys2Proof.Machine

variable {s t u : State}

/-! ### Jumps -/

theorem gives_jumpZ80_done (v : Word) (s : State) (l : List Long) :
    Gives (do jumpZ80 v; pure []) (s, l) ([] : List Nat) (s.mapZ80 fun z => { z with pc := v }, l) := gives_setZ80_done _ _ _

theorem point_sameZ80 {g : Z80 → Z80} {l : List Long} (h : g s.z80 = s.z80) : (s, l) = (s.mapZ80 g, l) := by
  rw [State.mapZ80, h]

/-- DJNZ's B reaches 0 where it was 1. -/
theorem sub_one_eq_zero_iff (b : Byte) : b - 1#8 = 0#8 ↔ b = 1#8 := sub_eq_zero

theorem zJpCcCompletes (cnd : ZCond) (nn : Word) :
    ZRegisterCompletes (.zJpCc cnd nn) (fun _ z => if z.flags.holds cnd then { z with pc := nn } else z) fun _ => [] := by
  refine zRegisterCompletes (fun s => show exec (.zJpCc cnd nn) s = execZJpCc cnd nn s from rfl) fun _ t => gives_bind (gives_getFlags _) ?_
  by_cases h : t.z80.flags.holds cnd = true
  · exact gives_if_pos h (gives_to (gives_jumpZ80_done _ _ _) rfl (point_congrZ80 (if_pos h).symm))
  · exact gives_if_neg h (gives_pure_eq rfl (point_sameZ80 (if_neg h)))

theorem zJrCcCompletes (cnd : ZJrCond) (e : Byte) : ZRegisterCompletes (.zJrCc cnd e)
    (fun ipc z => if z.flags.holds (jrCond cnd) then { z with pc := ipc + 2#16 + e.signExtend 16 } else z)
    fun z => [(z.flags.holds (jrCond cnd)).toNat] := by
  refine zRegisterCompletes_of (fun s => show exec (.zJrCc cnd e) s = execZJrCc cnd e s from rfl) fun s => gives_bind (gives_getFlags _) ?_
  by_cases h : s.z80.flags.holds (jrCond cnd) = true
  · exact gives_if_pos h (gives_bind (gives_setZ80 _ _) (gives_pure_eq rfl (point_congrZ80 (if_pos h).symm)))
  · exact gives_if_neg h (gives_pure_eq rfl (point_sameZ80 (if_neg h)))

theorem zDjnzCompletes (e : Byte) : ZRegisterCompletes (.zDjnz e)
    (fun ipc z => if z.b = 1#8 then { z with b := 0#8 } else { z with b := z.b - 1#8, pc := ipc + 2#16 + e.signExtend 16 })
    fun z => [if z.b = 1#8 then 0 else 1] := by
  refine zRegisterCompletes_of (fun s => show exec (.zDjnz e) s = execZDjnz e s from rfl) fun s => gives_bind (gives_setZ80 _ _) (gives_bind (gives_z80Regs _) ?_)
  by_cases h : s.z80.b = 1#8
  · have h0 : s.z80.b - 1#8 = 0#8 := (sub_one_eq_zero_iff _).2 h
    refine gives_if_neg (fun hn => hn h0) (gives_pure_eq ?_ (point_congrZ80 (Eq.trans ?_ (if_pos h).symm)))
    · rw [if_pos h]
      exact congrArg (fun b => [Bool.toNat b]) (decide_eq_false (not_not_intro h0))
    · rw [← h0]
      rfl
  · have h0 : s.z80.b - 1#8 ≠ 0#8 := fun hb => h ((sub_one_eq_zero_iff _).1 hb)
    refine gives_if_pos h0 (gives_bind (gives_setZ80 _ _) (gives_pure_eq ?_ ?_))
    · rw [if_neg h]
      exact congrArg (fun b => [Bool.toNat b]) (decide_eq_true h0)
    · rw [mapZ80_mapZ80]
      exact point_congrZ80 (if_neg h).symm

/-- Settles O30: PC written where the condition holds. -/
theorem z80JumpsComplete : Obligations.Z80JumpsComplete :=
  ⟨fun nn => zRegisterCompletes (fun s => show exec (.zJp nn) s = execZJp nn s from rfl) fun _ _ => gives_jumpZ80_done _ _ _, zJpCcCompletes,
   fun e => zRegisterCompletes (fun s => show exec (.zJr e) s = execZJr e s from rfl) fun _ _ => gives_jumpZ80_done _ _ _, zJrCcCompletes,
   zRegisterCompletes (fun s => show exec .zJpHl s = execZJpHl s from rfl) fun _ _ => gives_bind (gives_z80Regs _) (gives_to (gives_jumpZ80_done _ _ _) rfl (point_congrZ80 rfl)),
   fun x => zRegisterCompletes (fun s => show exec (.zJpXx x) s = execZJpXx x s from rfl) fun _ _ =>
     gives_bind (gives_z80Regs _) (gives_to (gives_jumpZ80_done _ _ _) rfl (point_congrZ80 rfl)),
   zDjnzCompletes⟩

/-! ### Calls -/

theorem gives_callZ80 (target : Word) (h : s.pushZ s.z80.pc = some t) :
    Gives (callZ80 target) (s, []) () (t.mapZ80 fun z => { z with pc := target }, []) :=
  gives_bind (gives_z80Regs _) (gives_bind (gives_pushZ80 h) (gives_setZ80 _ _))

theorem gives_returnZ80 {v : Word} (h : s.popZ = some (v, t)) :
    Gives returnZ80 (s, []) () (t.mapZ80 fun z => { z with pc := v }, []) :=
  gives_bind (gives_popZ80 h) (gives_setZ80 _ _)

/-- The target of RST (48 R643). -/
theorem rstTarget (k : BitVec 3) : k.setWidth 16 * 8#16 = BitVec.ofNat 16 (8 * k.toNat) := by
  apply BitVec.eq_of_toNat_eq
  simp only [BitVec.toNat_mul, BitVec.toNat_setWidth, BitVec.toNat_ofNat]
  have := k.isLt
  omega

/-- Settles O31: pushes, pops and PC. -/
theorem z80CallsComplete : Obligations.Z80CallsComplete := by
  refine ⟨fun i target data s t hi hs hp => ?_, fun cnd nn s hs hc => ?_, fun cnd s hs hc => ?_, fun i data s v t hi hs hp => ?_,
    fun s v t hs hp => ?_, fun s v t hs hp => ?_⟩
  · obtain ⟨rfl, rfl⟩ | ⟨cnd, rfl, hc, rfl⟩ | ⟨k, rfl, rfl, rfl⟩ := hi
    · exact nextZ80 (show exec (.zCall target) s = execZCall target s from rfl) hs (gives_bind (gives_callZ80 _ hp) (gives_pure _ _))
    · refine nextZ80 (show exec (.zCallCc cnd target) s = execZCallCc cnd target s from rfl) hs (gives_bind (gives_getFlags _) (gives_if_pos hc
        (gives_bind (gives_callZ80 _ hp) (gives_pure_eq ?_ rfl))))
      rw [show (s.pastZ80 (.zCallCc cnd target)).z80.flags = s.z80.flags from rfl, hc]
      rfl
    · rw [← rstTarget]
      exact nextZ80 (show exec (.zRst k) s = execZRst k s from rfl) hs (gives_bind (gives_callZ80 _ hp) (gives_pure _ _))
  · refine nextZ80 (show exec (.zCallCc cnd nn) s = execZCallCc cnd nn s from rfl) hs (gives_bind (gives_getFlags _) (gives_if_neg (Bool.not_eq_true _ ▸ hc) (gives_pure_eq ?_ rfl)))
    rw [show (s.pastZ80 (.zCallCc cnd nn)).z80.flags = s.z80.flags from rfl, hc]
    rfl
  · refine nextZ80 (show exec (.zRetCc cnd) s = execZRetCc cnd s from rfl) hs (gives_bind (gives_getFlags _) (gives_if_neg (Bool.not_eq_true _ ▸ hc) (gives_pure_eq ?_ rfl)))
    rw [show (s.pastZ80 (.zRetCc cnd)).z80.flags = s.z80.flags from rfl, hc]
    rfl
  · obtain ⟨rfl, rfl⟩ | ⟨cnd, rfl, hc, rfl⟩ := hi
    · exact nextZ80 (show exec .zRet s = execZRet s from rfl) hs (gives_bind (gives_returnZ80 hp) (gives_pure _ _))
    · refine nextZ80 (show exec (.zRetCc cnd) s = execZRetCc cnd s from rfl) hs (gives_bind (gives_getFlags _) (gives_if_pos hc
        (gives_bind (gives_returnZ80 hp) (gives_pure_eq ?_ rfl))))
      rw [show (s.pastZ80 (.zRetCc cnd)).z80.flags = s.z80.flags from rfl, hc]
      rfl
  · exact nextZ80 (show exec .zRetn s = execZRetn s from rfl) hs (gives_bind (gives_returnZ80 hp) (gives_setZ80_done _ _ _))
  · exact nextZ80 (show exec .zReti s = execZReti s from rfl) hs (gives_bind (gives_returnZ80 hp) (gives_bind (gives_setZ80 _ _) (gives_bind (gives_modify _ _) (gives_pure _ _))))

/-! ### CPU control -/

/-- Settles O33: flip-flops, modes and HALT. -/
theorem z80ControlCompletes : Obligations.Z80ControlCompletes :=
  ⟨zRegisterCompletes (fun s => show exec .zNop s = execZNop s from rfl) fun _ _ => gives_pure _ _, zRegisterCompletes (fun s => show exec .zHalt s = execZHalt s from rfl) fun _ _ => gives_setZ80_done _ _ _,
   zRegisterCompletes (fun s => show exec .zDi s = execZDi s from rfl) fun _ _ => gives_setZ80_done _ _ _, zRegisterCompletes (fun s => show exec .zEi s = execZEi s from rfl) fun _ _ => gives_setZ80_done _ _ _,
   zRegisterCompletes (fun s => show exec .zIm0 s = execZIm0 s from rfl) fun _ _ => gives_setZ80_done _ _ _, zRegisterCompletes (fun s => show exec .zIm1 s = execZIm1 s from rfl) fun _ _ => gives_setZ80_done _ _ _,
   zRegisterCompletes (fun s => show exec .zIm2 s = execZIm2 s from rfl) fun _ _ => gives_setZ80_done _ _ _⟩

end Sys2Proof.Laws
end

section
/-! The statements about words that decode, power-on, and the conditions (30, 10 R90 to R92, 41 R309). -/

namespace Sys2Proof.Laws

open Sys2Proof.Machine

/-- Settles O38: both decoders evaluated. -/
theorem writtenWordsDecode : Obligations.WrittenWordsDecode := by
  refine ⟨?_, ?_, ?_, ?_, ?_, ?_, ?_, ?_, ?_, ?_, ?_, ?_, ?_, ?_, ?_, ?_, ?_, ?_, ?_, ?_⟩ <;> rfl

/-! ### Power-on -/

theorem powerOn_inv (launch : Launch) (image : Memory) (schedule : List Turn) (h : image.wf) :
    (State.powerOn launch image schedule).Inv where
  memory := h
  iff := rfl
  iffSnap := fun _ hw => nomatch hw
  level := Nat.zero_le 7
  pending68k := fun hp => absurd rfl hp
  pendingZ80 := fun hp => absurd rfl hp
  act68k := fun _ _ hw => nomatch hw
  actZ80 := fun _ _ hw => nomatch hw

/-- Settles O39: no processor waits, both mailboxes are empty. -/
theorem invariantAtPowerOn : Obligations.InvariantAtPowerOn := ⟨powerOn_inv, powerOn_inv _ _ _ wf_empty⟩

theorem romLong_image {launch : Launch} {image : Memory} {k : Nat} (h : k + 4 ≤ launch.romLen) :
    romLong launch image k = image.read k ++ image.read (k + 1) ++ image.read (k + 2) ++ image.read (k + 3) := by
  have inside : ∀ j, j < 4 → romByte launch image (k + j) = image.read (k + j) := fun j hj => if_pos (by omega)
  rw [romLong, inside 1 (by omega), inside 2 (by omega), inside 3 (by omega), show romByte launch image k = _ from inside 0 (by omega)]
  rfl

/-- Settles O58: the vectors are read from the image, and the rest is written out. -/
theorem powerOnValues : Obligations.PowerOnValues := by
  intro launch image schedule h
  refine ⟨(Vector.getElem_set_self (by decide)).trans (romLong_image (k := 0) (by omega)), romLong_image (k := 4) h, ?_⟩
  simp only [State.powerOn, M68k.powerOn, M68k.trace, M68k.super, M68k.mask, Sr.reset, Z80.reset, Bus.powerOn, Mailbox.empty, and_self]
  
/-! ### Conditions -/

variable {n : Nat}

theorem flagsSub_v (s d : BitVec n) : (flagsSub s d (d - s)).v = d.ssubOverflow s := by
  rw [BitVec.ssubOverflow_eq]
  simp only [flagsSub]
  cases s.msb <;> cases d.msb <;> cases (d - s).msb <;> rfl

theorem flagsAdd_v (s d : BitVec n) : (flagsAdd s d (d + s)).v = d.saddOverflow s := by
  rw [BitVec.saddOverflow_eq]
  simp only [flagsAdd]
  cases s.msb <;> cases d.msb <;> cases (d + s).msb <;> rfl

/-- A difference overflows where it is not the difference of the signed values. -/
theorem ssubOverflow_iff (s d : BitVec n) : d.ssubOverflow s = true ↔ (d - s).toInt ≠ d.toInt - s.toInt := by
  refine ⟨fun h he => ?_, fun h => by_contra fun hn => h (BitVec.toInt_sub_of_not_ssubOverflow hn)⟩
  have hlo := BitVec.le_toInt (d - s)
  have hhi := BitVec.toInt_lt (x := d - s)
  simp only [BitVec.ssubOverflow, Bool.or_eq_true, decide_eq_true_eq, ← he] at h
  omega

theorem saddOverflow_iff (s d : BitVec n) : d.saddOverflow s = true ↔ (d + s).toInt ≠ d.toInt + s.toInt := by
  refine ⟨fun h he => ?_, fun h => by_contra fun hn => h (BitVec.toInt_add_of_not_saddOverflow hn)⟩
  have hlo := BitVec.le_toInt (d + s)
  have hhi := BitVec.toInt_lt (x := d + s)
  simp only [BitVec.saddOverflow, Bool.or_eq_true, decide_eq_true_eq, ← he] at h
  omega

/-- N differs from V after a compare where the destination is less: without overflow N is the sign of the difference; with it,
the signs of both operands say which is less. -/
theorem n_ne_v_iff (s d : BitVec n) : (d - s).msb ≠ d.ssubOverflow s ↔ d.toInt < s.toInt := by
  cases h : d.ssubOverflow s with
  | false =>
    have := BitVec.toInt_sub_of_not_ssubOverflow (ne_true_of_eq_false h)
    rw [BitVec.msb_eq_toInt, this, ne_eq, decide_eq_false_iff_not, not_not]
    omega
  | true =>
    rw [BitVec.ssubOverflow_eq] at h
    have hd := BitVec.msb_eq_toInt (x := d)
    have hs := BitVec.msb_eq_toInt (x := s)
    cases hdm : d.msb <;> cases hsm : s.msb <;> cases hr : (d - s).msb <;> simp_all <;> omega

theorem unsigned_le_iff (s d : BitVec n) : (d.toNat < s.toNat ∨ d - s = 0#n) ↔ d.toNat ≤ s.toNat := by
  rw [show d - s = 0#n ↔ d = s from sub_eq_zero, ← BitVec.toNat_inj]
  omega

theorem signed_le_iff (s d : BitVec n) : (d - s = 0#n ∨ d.toInt < s.toInt) ↔ d.toInt ≤ s.toInt := by
  rw [show d - s = 0#n ↔ d = s from sub_eq_zero, ← BitVec.toInt_inj]
  omega

/-- Settles O60: V is overflow, N differs from V where the difference is below 0, and C is the borrow. -/
theorem conditionsMeanOrders : Obligations.ConditionsMeanOrders := by
  intro n s d old _
  have hv : (flagsCmp s d (d - s) old).v = d.ssubOverflow s := flagsSub_v s d
  have hn : (flagsCmp s d (d - s) old).n = (d - s).msb := rfl
  have hz : (flagsCmp s d (d - s) old).z = decide (d - s = 0#n) := rfl
  have hc : (flagsCmp s d (d - s) old).c = decide (d.toNat < s.toNat) := rfl
  have lt := n_ne_v_iff s d
  have le := signed_le_iff s d
  have below := unsigned_le_iff s d
  have eq : d - s = 0#n ↔ d = s := sub_eq_zero
  refine ⟨?_, ?_, ?_, ?_, ?_, ?_, ?_, ?_, ?_, ?_, rfl, ?_, ?_, ?_⟩
  · rw [Ccr.holds, hn, hv, beq_iff_eq, ← not_iff_not, ← ne_eq, lt, not_le]
  · rw [Ccr.holds, hn, hv, bne_iff_ne, lt]
  · rw [Ccr.holds, hn, hv, hz, Bool.and_eq_true, Bool.not_eq_true', decide_eq_false_iff_not, beq_iff_eq, ← not_iff_not, not_and_or,
      not_not, ← ne_eq, lt, le, not_lt]
  · rw [Ccr.holds, hn, hv, hz, Bool.or_eq_true, decide_eq_true_eq, bne_iff_ne, lt, le]
  · rw [Ccr.holds, hc, hz, Bool.and_eq_true, Bool.not_eq_true', Bool.not_eq_true', decide_eq_false_iff_not,
      decide_eq_false_iff_not, ← not_or, below, not_le]
  · rw [Ccr.holds, hc, hz, Bool.or_eq_true, decide_eq_true_eq, decide_eq_true_eq, below]
  · rw [Ccr.holds, hc, Bool.not_eq_true', decide_eq_false_iff_not, not_lt]
  · rw [Ccr.holds, hc, decide_eq_true_eq]
  · rw [Ccr.holds, hz, decide_eq_true_eq, eq]
  · rw [Ccr.holds, hz, Bool.not_eq_true', decide_eq_false_iff_not, eq]
  · rw [flagsAdd_v, saddOverflow_iff]
  · rw [BitVec.toNat_add, ne_eq, Nat.mod_eq_iff_lt (Nat.two_pow_pos n).ne', not_lt]
    exact decide_eq_true_iff
  · rw [flagsSub_v, ssubOverflow_iff]

end Sys2Proof.Laws
end

section
/-! What is refused by name (20 R143, 30 R196, R226 to R236, 40 R268, R279), and that a step at a boundary runs the instruction
its words or bytes decode to (60 R711, 48 R670). -/

namespace Sys2Proof.Laws

open Sys2Proof.Machine

/-! ### One operation after another -/

section Bind

variable {α β : Type} {x : Op α} {f : α → Op β} {c d : Ctx}

theorem bind_of_ok {a : α} (h : x c = .ok a d) : (x >>= f) c = f a d := by
  simp only [bind, EStateM.bind, h]

theorem bind_of_error {e : Stop} (h : x c = .error e d) : (x >>= f) c = .error e d := by
  simp only [bind, EStateM.bind, h]

theorem op_if_neg {p : Prop} [Decidable p] {x y : Op α} {r : EStateM.Result Stop Ctx α} (h : ¬p) (hy : y c = r) :
    (if p then x else y) c = r := by rw [if_neg h, hy]

end Bind

/-! ### An aligned access is one access -/

section Aligned

variable {c d : Ctx} {sz : Size} {a : Long} {e : Stop} {x : Long}

theorem load68k_error (ho : oddAccess (a.setWidth 24) sz = false) (h : access68k .read (a.setWidth 24) sz 0 c = .error e d) :
    load68k sz a c = .error e d :=
  (bind_of_ok rfl).trans (op_if_neg (ne_true_of_eq_false ho) (bind_of_error h))

theorem store68k_error {v : BitVec sz.bits} (ho : oddAccess (a.setWidth 24) sz = false)
    (h : access68k .write (a.setWidth 24) sz (v.setWidth 32) c = .error e d) : store68k sz a v c = .error e d :=
  (bind_of_ok rfl).trans (op_if_neg (ne_true_of_eq_false ho) (bind_of_error h))

theorem tas68k_error (h : access68k .tas (a.setWidth 24) .b 0 c = .error e d) : tas68k a c = .error e d := bind_of_error h

theorem load68k_ok (ho : oddAccess (a.setWidth 24) sz = false) (h : access68k .read (a.setWidth 24) sz 0 c = .ok x d) :
    load68k sz a c = .ok (x.setWidth sz.bits) d :=
  (bind_of_ok rfl).trans (op_if_neg (ne_true_of_eq_false ho) (bind_of_ok h))

theorem store68k_ok {v : BitVec sz.bits} (ho : oddAccess (a.setWidth 24) sz = false)
    (h : access68k .write (a.setWidth 24) sz (v.setWidth 32) c = .ok x d) : store68k sz a v c = .ok () d :=
  (bind_of_ok rfl).trans (op_if_neg (ne_true_of_eq_false ho) (bind_of_ok h))

theorem tas68k_ok (h : access68k .tas (a.setWidth 24) .b 0 c = .ok x d) : tas68k a c = .ok (x.setWidth 8) d := bind_of_ok h

end Aligned

/-- An access that is not replayed stops where its performance stops. -/
theorem access68k_stops {k : Access} {a : Addr24} {sz : Size} {v : Long} {c d : Ctx} {e : Stop} (ht : c.todo = [])
    (h : perform68k k a sz v c = .error e d) : access68k k a sz v c = .error e d := by
  simp only [access68k, Op.once, ht, h]

theorem perform68k_selfModifies {k : Access} {a : Addr24} {sz : Size} {v : Long} {c : Ctx}
    (hr : route68k c.st.launch a sz ≠ .nowhere) (hs : c.selfModifies k a sz = true) :
    perform68k k a sz v c = .error (.refused .selfModifyPrefetch) c := by
  rw [perform68k]
  cases h : route68k c.st.launch a sz with
  | nowhere => exact absurd h hr
  | owner => exact if_pos hs
  | here ps => exact if_pos hs

/-! ### Refusals -/

theorem sameByte_self (l : Launch) (a : Addr24) : l.sameByte a a = true := by simp [Launch.sameByte]

theorem mem_bytes68k {a : Addr24} {sz : Size} {j : Nat} (h : j < sz.bytes) : a + BitVec.ofNat 24 j ∈ bytes68k a sz :=
  List.mem_map_of_mem (List.mem_range.2 h)

theorem hitsPrefetch_of_eq {l : Launch} {pc : Long} {a : Addr24} {sz : Size} {j k : Nat} (hj : j < sz.bytes) (hk : k < 4)
    (h : a + BitVec.ofNat 24 j = pc.setWidth 24 + BitVec.ofNat 24 k) : hitsPrefetch l pc a sz = true :=
  List.any_eq_true.2 ⟨_, mem_bytes68k hj, List.any_eq_true.2 ⟨_, mem_bytes68k (sz := .l) hk, h ▸ sameByte_self l _⟩⟩

theorem resolve_none {sz : Size} {ea : Ea} {c : Ctx} (h : c.st.m68k.resolve sz ea = none) :
    resolve sz ea c = .error (.refused .indexExtension) c := by
  refine (bind_of_ok rfl).trans ?_
  rw [h]
  rfl

theorem resolve_index_none {m : M68k} {sz : Size} {x : Word} (n : Reg) (h : x.extractLsb' 8 3 ≠ 0#3) :
    m.resolve sz (.index n x) = none := by simp [M68k.resolve, indexOk, h]

theorem resolve_pcIndex_none {m : M68k} {sz : Size} {x : Word} (h : x.extractLsb' 8 3 ≠ 0#3) :
    m.resolve sz (.pcIndex x) = none := by simp [M68k.resolve, indexOk, h]

theorem resolve_some {sz : Size} {ea : Ea} {c : Ctx} {loc : Loc} {m : M68k} (h : c.st.m68k.resolve sz ea = some (loc, m)) :
    resolve sz ea c = .ok loc { c with st := c.st.mapM68k fun _ => m.spend (.ea ea.kind sz) } := by
  refine (bind_of_ok rfl).trans ?_
  rw [h]
  rfl

theorem resolveAddress_unknown {c : Ctx} {sz : Size} {ea : Ea} {loc : Loc} {m : M68k} (h : c.st.m68k.resolve sz ea = some (loc, m))
    (hl : ∀ a, loc ≠ .mem a) : ∃ d, resolveAddress sz ea c = .error (.fault .unknownEaMode) d := by
  cases loc with
  | mem a => exact absurd rfl (hl a)
  | _ => exact ⟨_, (bind_of_ok (resolve_some h)).trans rfl⟩

/-- Settles O34: the arms that refuse, the index word, the prefetch check, OWNER's slots, and the operands without an address. -/
theorem refusedInstructions : Obligations.RefusedInstructions := by
  refine ⟨fun s => ⟨fun _ _ _ => rfl, fun _ _ _ => rfl, fun _ => rfl, rfl, fun _ => rfl, fun _ => rfl, fun _ _ _ => rfl, fun op h => ?_, fun op h => ?_⟩,
    fun c sz x hx => ⟨fun n => resolve_none (resolve_index_none n hx), resolve_none (resolve_pcIndex_none hx)⟩, fun s sz n x hs hx => ?_,
    fun c sz a v ht hi ho hr hh => ?_, fun s level => ⟨fun h => if_pos h, fun h => if_neg (Nat.not_lt.2 h), rfl⟩,
    fun c sz ea loc m h hl => resolveAddress_unknown h hl⟩
  · have : refuseXx op s = .refused .prefixChain := congrArg Host.Outcome.refused (if_pos (by simpa [chains, or_assoc] using h))
    exact ⟨this, this⟩
  · have : refuseXx op s = .refused .undocumentedZ80 := congrArg Host.Outcome.refused (if_neg (by simpa [chains, and_assoc] using h))
    exact ⟨this, this⟩
  · exact refused68k (show exec (.tst sz (.index n x)) s = execTst sz (.index n x) s from rfl) fun c =>
      ⟨c, bind_of_error (bind_of_error (resolve_none (resolve_index_none n hx)))⟩
  · obtain ⟨j, hj, m, hm, he⟩ := hh
    have self (k : Access) (hk : k.stores = true) : c.selfModifies k (a.setWidth 24) sz = true := by
      rw [Ctx.selfModifies, hk, hi, hitsPrefetch_of_eq hj hm he]
      rfl
    exact ⟨store68k_error ho (access68k_stops ht (perform68k_selfModifies hr (self .write rfl))),
      fun hb => by subst hb; exact tas68k_error (access68k_stops ht (perform68k_selfModifies hr (self .tas rfl)))⟩

/-! ### Fetching -/

/-- A fetch that changes nothing but PC: its word is read where M68K reads memory itself. -/
theorem gives_fetch16 {s : State} {w : Word} (h : s.loadAt .w s.m68k.pc = some (w, s)) :
    Gives fetch16 (s, []) w (s.past 1, []) := by
  obtain ⟨x, hx, hm⟩ := makes_access68k_read (irq := false) h
  subst hx
  exact gives_bind (gives_m68kRegs _) (gives_bind (makes_false_iff.1 hm) (gives_bind (gives_setM68k _ _) (gives_pure _ _)))

theorem readPlace_mapM68k (s : State) (f : M68k → M68k) (p : Place) :
    (s.mapM68k f).readPlace p = ((s.readPlace p).1, (s.readPlace p).2.mapM68k f) := by
  cases p with
  | rom off =>
    rw [State.readPlace, State.readPlace]
    by_cases h : off < s.launch.romLen
    · rw [if_pos h, if_pos (show off < (s.mapM68k f).launch.romLen from h)]
      rfl
    · rw [if_neg h, if_neg (show ¬off < (s.mapM68k f).launch.romLen from h)]
      rfl
  | _ => rfl

theorem readPlaces_mapM68k (s : State) (f : M68k → M68k) (ps : List Place) :
    (s.mapM68k f).readPlaces ps = ((s.readPlaces ps).1, (s.readPlaces ps).2.mapM68k f) := by
  induction ps generalizing s with
  | nil => rfl
  | cons p r ih => simp only [State.readPlaces, readPlace_mapM68k, ih]

/-- Registers take no part in a load. -/
theorem loadAt_mapM68k {s t : State} {sz : Size} {a : Long} {v : BitVec sz.bits} (f : M68k → M68k)
    (h : s.loadAt sz a = some (v, t)) : (s.mapM68k f).loadAt sz a = some (v, t.mapM68k f) := by
  rw [State.loadAt, Option.map_eq_some_iff] at h ⊢
  obtain ⟨ps, hp, h⟩ := h
  cases h
  exact ⟨ps, hp, by rw [State.plainRead, readPlaces_mapM68k]; rfl⟩

/-- The words at PC and after it, `k` of them from the `j`-th, fetched where M68K reads memory itself. -/
theorem gives_fetchWords {s : State} {f : Nat → Word} {n : Nat}
    (hl : ∀ k < n, s.loadAt .w (s.m68k.pc + BitVec.ofNat 32 (2 * k)) = some (f k, s)) (k j : Nat) (h : j + k ≤ n) :
    Gives (fetchWords k) (s.past j, []) ((List.range' j k).map f) (s.past (j + k), []) := by
  induction k generalizing j with
  | zero => exact gives_pure _ _
  | succ k ih =>
    have first : Gives fetch16 (s.past j, []) (f j) ((s.past j).past 1, []) :=
      gives_fetch16 (loadAt_mapM68k _ (hl j (by omega)))
    have rest := ih (j + 1) (by omega)
    rw [show j + 1 + k = j + (k + 1) by omega, ← past_past] at rest
    exact gives_bind first (gives_bind rest (gives_pure _ _))

/-- A list is its first element and the others in order. -/
theorem list_eq_wordAt {ws : List Word} {k : Nat} (h : ws.length = 1 + k) :
    wordAt ws 0 :: (List.range' 1 k).map (wordAt ws) = ws := by
  rw [← List.map_cons (f := wordAt ws), ← List.range'_succ (step := 1), ← List.range_eq_range']
  refine List.ext_getElem (by simp; omega) fun i h1 h2 => ?_
  simp [wordAt, h2]

theorem fetchExec68k_decodes {t : State} {ws : List Word} (hw : t.ready68k) (hn : ws.length = t.fetched68k (wordAt ws 0))
    (hl : ∀ k < ws.length, t.loadAt .w (t.m68k.pc + BitVec.ofNat 32 (2 * k)) = some (wordAt ws k, t)) :
    fetchExec68k t = exec (decode68k ws).1 t := by
  have h0 : t.loadAt .w t.m68k.pc = some (wordAt ws 0, t) := by
    have := hl 0 (by rw [hn, State.fetched68k]; omega)
    rwa [show t.m68k.pc + BitVec.ofNat 32 (2 * 0) = t.m68k.pc from BitVec.add_zero _] at this
  have fetched : Gives fetchInstr68k (t, []) (decode68k ws).1 (t.past ws.length, []) := by
    refine gives_bind (gives_m68kRegs _) (gives_bind (gives_fetch16 h0) (gives_bind (gives_fetchWords hl _ 1 hn.ge) ?_))
    rw [list_eq_wordAt hn, hn]
    exact gives_pure _ _
  obtain ⟨d, hd⟩ := fetched []
  have start : t.start68k = ⟨t, [], [], false⟩ := by rw [State.start68k, show t.wait68k = none from hw]
  rw [fetchExec68k, start, hd]
  rfl

theorem turn68k_fetches {t : State} (hd : t.dead .m68k = none) (hw : t.ready68k) (hr : t.m68k.run = .running)
    (hi : t.bus.mb68k.intLevel ≤ t.m68k.mask.toNat) (ht : t.m68k.trace = false) (hp : t.m68k.pc.getLsbD 0 = false) :
    turn68k t = settle68k t (fetchExec68k t) := by
  rw [turn68k, hd, show t.wait68k = none from hw]
  simp only [boundary68k, hr, if_neg (Nat.not_lt.2 hi), reduceCtorEq, ht, hp, Bool.false_eq_true, if_false]

/-- Nothing but an address of ZRAM takes part in a read there. -/
theorem peek_mapZ80 (s : State) (f : Z80 → Z80) (a : Word) : (s.mapZ80 f).peek a = s.peek a := rfl

theorem gives_fetch8 {s : State} {b : Byte} (h : s.peek s.z80.pc = some b) :
    Gives fetch8 (s, []) b (s.mapZ80 fun z => { z with pc := z.pc + 1#16 }, []) :=
  gives_bind (gives_z80Regs _) (gives_bind (gives_loadZ80 h) (gives_bind (gives_setZ80 _ _) (gives_pure _ _)))

/-- Z80's PC moved over `k` bytes. -/
def pastBytes (s : State) (k : Nat) : State := s.mapZ80 fun z => { z with pc := z.pc + BitVec.ofNat 16 k }

theorem pastBytes_succ (s : State) (k : Nat) :
    ((pastBytes s k).mapZ80 fun z => { z with pc := z.pc + 1#16 }) = pastBytes s (k + 1) := by
  simp only [pastBytes, mapZ80_mapZ80, BitVec.ofNat_add, BitVec.add_assoc]

theorem bytesZ80_le (bs : List Byte) : bytesZ80 bs ≤ 4 := by
  rw [bytesZ80]
  generalize (decodeZ80 bs).1 = i
  cases i <;> exact Nat.le_of_ble_eq_true rfl

theorem bytesZ80_pos (bs : List Byte) : 0 < bytesZ80 bs := by
  have h := decodeZ80_isZ80 bs
  rw [Instr.is68k, List.isEmpty_eq_false_iff] at h
  exact List.length_pos_iff.2 h

section FetchZ80

variable {t : State} {bs : List Byte}

theorem take_succ_byteAt {k : Nat} (h : k < bs.length) : bs.take k ++ [byteAt bs k] = bs.take (k + 1) := by
  rw [List.take_succ_eq_append_getElem h]
  simp [byteAt, h]

/-- The bytes from the `k`-th on are fetched until the length they ask for is reached. -/
theorem gives_fetchBytes (hn : bs.length = bytesZ80 bs) (hs : ∀ k < bs.length, 0 < k → k < bytesZ80 (bs.take k))
    (hb : ∀ k < bs.length, t.peek (t.z80.pc + BitVec.ofNat 16 k) = some (byteAt bs k)) (n k : Nat) (hk : 0 < k)
    (hle : k ≤ bs.length) (hf : bs.length ≤ k + n) :
    Gives (fetchBytes n (bs.take k)) (pastBytes t k, []) bs (pastBytes t bs.length, []) := by
  induction n generalizing k with
  | zero =>
    have : k = bs.length := by omega
    subst this
    exact gives_pure_eq bs.take_length rfl
  | succ n ih =>
    have len : (bs.take k).length = k := List.length_take_of_le hle
    rw [fetchBytes]
    by_cases he : k = bs.length
    · subst he
      rw [bs.take_length]
      exact gives_if_pos hn.ge (gives_pure _ _)
    · have hlt : k < bs.length := by omega
      refine gives_if_neg (by rw [len, Nat.not_le]; exact hs k hlt hk) ?_
      refine gives_bind (gives_fetch8 (s := pastBytes t k) (hb k hlt)) ?_
      rw [take_succ_byteAt hlt, pastBytes_succ]
      exact ih (k + 1) (by omega) hlt (by omega)

theorem fetchExecZ80_decodes (hw : t.readyZ80) (hn : bs.length = bytesZ80 bs)
    (hs : ∀ k < bs.length, 0 < k → k < bytesZ80 (bs.take k))
    (hb : ∀ k < bs.length, t.peek (t.z80.pc + BitVec.ofNat 16 k) = some (byteAt bs k)) :
    fetchExecZ80 t = exec (decodeZ80 bs).1 t := by
  have hpos : 0 < bs.length := hn ▸ bytesZ80_pos bs
  have h0 : t.peek t.z80.pc = some (byteAt bs 0) := by
    have := hb 0 hpos
    rwa [show t.z80.pc + BitVec.ofNat 16 0 = t.z80.pc from BitVec.add_zero _] at this
  have rest := gives_fetchBytes hn hs hb 3 1 (by omega) hpos (by have := bytesZ80_le bs; omega)
  rw [← take_succ_byteAt hpos] at rest
  have fetched : Gives fetchInstrZ80 (t, []) (decodeZ80 bs).1 (pastBytes t bs.length, []) :=
    gives_bind (gives_fetch8 h0) (gives_bind rest (gives_pure _ _))
  obtain ⟨d, hd⟩ := fetched []
  have start : t.startZ80 = ⟨t, [], [], false⟩ := by rw [State.startZ80, show t.waitZ80 = none from hw]
  rw [fetchExecZ80_ok (start ▸ hd), start]
  rfl

end FetchZ80

theorem turnZ80_fetches {t : State} (hd : t.dead .z80 = none) (hw : t.readyZ80) (hh : t.bus.z80ResetHeld = false)
    (hp : t.bus.z80ResetPulse = false) (hb : t.bus.busReq = false)
    (hi : t.z80.iff1 = false ∨ t.z80.cooldown = true ∨ t.bus.mbZ80.intLevel = 0) (hz : t.z80.halted = false) :
    turnZ80 t = settleZ80 t.fetchesZ80 (fetchExecZ80 t.fetchesZ80) := by
  rw [turnZ80, hd, show t.waitZ80 = none from hw]
  have quiet : (t.z80.iff1 && !t.z80.cooldown && decide (t.bus.mbZ80.intLevel ≠ 0)) = false := by
    obtain h | h | h := hi <;> simp [h]
  simp only [boundaryZ80, hh, hp, hb, Bool.or_self, Bool.false_eq_true, if_false, mapBus_z80, mapBus_self, quiet, hz]
  rfl

/-- Settles O35: what is fetched word by word or byte by byte is what decodes. -/
theorem stepRunsDecodedInstruction : Obligations.StepRunsDecodedInstruction := by
  refine ⟨fun s t ws hs hd hw hr hi ht hp hn hl => ?_, fun s t bs hs hd hw hh hp hb hi hz hn hk hl => ?_⟩
  · rw [step, hs]
    exact (turn68k_fetches hd hw hr hi ht hp).trans (congrArg _ (fetchExec68k_decodes hw hn hl))
  · rw [step, hs]
    exact (turnZ80_fetches hd hw hh hp hb hi hz).trans (congrArg _ (fetchExecZ80_decodes (t := t.fetchesZ80) hw hn hk hl))

end Sys2Proof.Laws
end

section
/-! Transactions: an access across the bus waits after its issue, and its instruction goes on with the answer (20 R127, R130,
R151, R153). -/

namespace Sys2Proof.Laws

open Sys2Proof.Machine

/-! ### One access that is no access of the processor itself -/

section Access

variable {c : Ctx} {x : Long} {r : List Long}

/-- Across the bus, an access of M68K that is not refused is issued, and waits (20 R151). -/
theorem access68k_waits {k : Access} {a : Addr24} {sz : Size} {v : Long} (ht : c.todo = []) (hb : c.st.bus.mb68k.op = .none)
    (hr : route68k c.st.launch a sz = .owner) (hs : c.selfModifies k a sz = false) :
    access68k k a sz v c = .error .wait { c with st := c.st.mapBus fun b => { b with mb68k := b.mb68k.issue k a sz v } } := by
  rw [access68k_made k a sz v ht hb, hr]
  exact if_neg (ne_true_of_eq_false hs)

theorem accessZ80_waits {k : Access} {a : Word} {v : Byte} (ht : c.todo = []) (hb : c.st.bus.mbZ80.op = .none)
    (hp : placeZ80 c.st.launch a ≠ none) (hl : c.st.launch.localZ80 a = false) :
    Op.once (performZ80 k a v) c =
      .error .wait { c with st := c.st.mapBus fun b => { b with mbZ80 := b.mbZ80.issue k a .b (v.setWidth 32) } } := by
  obtain ⟨p, hp⟩ := Option.ne_none_iff_exists'.1 hp
  rw [accessZ80_made k a v ht hb, hp]
  exact if_neg (ne_true_of_eq_false hl)

theorem accessPort_waits {k : Access} {port : Word} {v : Byte} (ht : c.todo = []) (hb : c.st.bus.mbZ80.op = .none)
    (ho : c.st.launch.map.ownPorts = false) : Op.once (performPort k port v) c =
      .error .wait { c with st := c.st.mapBus fun b => { b with mbZ80 := b.mbZ80.issue k port .b (v.setWidth 32) } } := by
  rw [accessPort_made k port v ht hb]
  exact if_neg (ne_true_of_eq_false ho)

/-- A port that Z80 reaches itself is answered at once (20 R130, R131). -/
theorem accessPort_own {k : Access} {port : Word} {v : Byte} (ht : c.todo = []) (ho : c.st.launch.map.ownPorts = true) :
    Op.once (performPort k port v) c =
      .ok (performRow k port .b (v.setWidth 32) c.st (portAccess c.st port)).1
        { c with st := (performRow k port .b (v.setWidth 32) c.st (portAccess c.st port)).2,
                 done := c.done ++ [(performRow k port .b (v.setWidth 32) c.st (portAccess c.st port)).1] } := by
  simp only [Op.once, ht, performPort, ho, if_true]

theorem inPort_own {port : Word} (ht : c.todo = []) (ho : c.st.launch.map.ownPorts = true) :
    inPort port c = .ok (Config.drawBus c.st.bus.draws) { c with
      st := c.st.drawn, done := c.done ++ [(Config.drawBus c.st.bus.draws).setWidth 32] } :=
  (bind_of_ok (accessPort_own ht ho)).trans
    (congrArg (fun v => EStateM.Result.ok v _) (BitVec.setWidth_setWidth_of_le _ (by decide)))

theorem outPort_own {port : Word} {v : Byte} (ht : c.todo = []) (ho : c.st.launch.map.ownPorts = true) :
    outPort port v c = .ok () { c with st := c.st.record (.portWrite port v), done := c.done ++ [v.setWidth 32] } := by
  refine (bind_of_ok (accessPort_own ht ho)).trans ?_
  have e : (v.setWidth 32).setWidth 8 = v := BitVec.setWidth_setWidth_of_le _ (by decide)
  rw [show performRow .portWrite port .b (v.setWidth 32) c.st (portAccess c.st port)
    = (v.setWidth 32, c.st.record (.portWrite port ((v.setWidth 32).setWidth 8))) from rfl, e]
  rfl

end Access

/-! ### Operations that wait, and the answers taken before -/

/-- The operation ends with a value as in `Gives`, having taken the answers `k`. -/
def Answers {α : Type} (x : Op α) (p : Point) (a : α) (q : Point) (k : List Long) : Prop :=
  ∀ d, x ⟨p.1, p.2, d, false⟩ = .ok a ⟨q.1, q.2, d ++ k, false⟩

/-- The operation waits in the state `t`, having taken the answers `k`. -/
def Waits {α : Type} (x : Op α) (p : Point) (t : State) (k : List Long) : Prop :=
  ∀ d, ∃ l, x ⟨p.1, p.2, d, false⟩ = .error .wait ⟨t, l, d ++ k, false⟩

section Waits

variable {α β : Type} {x : Op α} {f : α → Op β} {p q r : Point} {a : α} {b : β} {k j : List Long} {s t u : State}

theorem answers_pure (a : α) (p : Point) : Answers (pure a) p a p [] := fun d => by rw [List.append_nil]; rfl

theorem answers_m68kRegs (p : Point) : Answers m68kRegs p p.1.m68k p [] := fun d => by rw [List.append_nil]; rfl

theorem answers_z80Regs (p : Point) : Answers z80Regs p p.1.z80 p [] := fun d => by rw [List.append_nil]; rfl

theorem answers_hlAddress (p : Point) : Answers hlAddress p p.1.z80.hl p [] := fun d => by rw [List.append_nil]; rfl

theorem answers_setZ80 (f : Z80 → Z80) (p : Point) : Answers (setZ80 f) p () (p.1.mapZ80 f, p.2) [] :=
  fun d => by rw [List.append_nil]; rfl

theorem waits_first (h : Waits x p t k) : Waits (x >>= f) p t k := fun d => by
  obtain ⟨l, h⟩ := h d
  exact ⟨l, bind_of_error h⟩

theorem waits_bind (h : Answers x p a q k) (hf : Waits (f a) q t j) : Waits (x >>= f) p t (k ++ j) := fun d => by
  obtain ⟨l, hf⟩ := hf (d ++ k)
  exact ⟨l, (bind_of_ok (h d)).trans (List.append_assoc d k j ▸ hf)⟩

theorem answers_bind (h : Answers x p a q k) (hf : Answers (f a) q b r j) : Answers (x >>= f) p b r (k ++ j) := fun d =>
  (bind_of_ok (h d)).trans (List.append_assoc d k j ▸ hf (d ++ k))

theorem waits_of_error (h : ∀ d, x ⟨s, [], d, false⟩ = .error .wait ⟨t, [], d, false⟩) : Waits x (s, []) t [] :=
  fun d => ⟨[], by rw [List.append_nil, h]⟩

theorem answers_resolve {sz : Size} {ea : Ea} {loc : Loc} (l : List Long) (h : s.locate sz ea = some (loc, t)) :
    Answers (resolve sz ea) (s, l) loc (t, l) [] := fun d => by
  rw [State.locate, Option.map_eq_some_iff] at h
  obtain ⟨⟨loc', m⟩, hr, h⟩ := h
  cases h
  rw [List.append_nil, resolve_some hr]
  rfl

/-! ### Running an instruction to a wait, and from one -/

theorem run68k_waits {i : Instr} {rule : Op (List Nat)} (hw : s.ready68k) (h : Waits rule (s.past 1, []) t k) :
    run68k i rule s = .next { t with wait68k := some { act := .exec i, snap := s.m68k, log := k } } := by
  have hs : s.start68k = ⟨s, [], [], false⟩ := by simp only [State.start68k, show s.wait68k = none from hw]
  obtain ⟨l, h⟩ := h []
  have e : (do setM68k fun m => m.skip 1; let data ← rule; spend68k (i.cost68k data)) s.start68k = .error .wait ⟨t, l, k, false⟩ :=
    hs ▸ (bind_of_ok rfl).trans (bind_of_error h)
  rw [run68k, e, finish68k, hs]

/-- M68K goes on from the registers it began with, and the answers so far. -/
theorem run68k_resumed {i : Instr} {rule : Op (List Nat)} {data : List Nat} {m : M68k} {l : List Long}
    (hw : s.wait68k = some { act := .exec i, snap := m, log := l })
    (h : Gives rule (State.past { s with m68k := m, wait68k := none } 1, l) data (t, [])) :
    run68k i rule s = .next (t.ended68k i data) := by
  have hs : s.start68k = ⟨{ s with m68k := m, wait68k := none }, l, [], false⟩ := by rw [State.start68k, hw]
  obtain ⟨d, h⟩ := h []
  have e : (do setM68k fun m => m.skip 1; let data ← rule; spend68k (i.cost68k data)) s.start68k
      = .ok () ⟨t.ended68k i data, [], d, false⟩ := hs ▸ (bind_of_ok rfl).trans ((bind_of_ok h).trans rfl)
  rw [run68k, e, finish68k]

theorem runZ80_waits {i : Instr} {rule : Word → Op (List Nat)} (hw : s.readyZ80)
    (h : Waits (rule s.z80.pc) (s.pastZ80 i, []) t k) :
    runZ80 i rule s = .next { t with waitZ80 := some { act := .exec i, snap := s.z80, log := k } } := by
  have hs : s.startZ80 = ⟨s, [], [], false⟩ := by simp only [State.startZ80, show s.waitZ80 = none from hw]
  obtain ⟨l, h⟩ := h []
  have e : (do let z ← z80Regs; setZ80 fun z => z.begin (encodeZ80 i).length; let data ← rule z.pc; spendZ80 (i.costZ80 data))
      s.startZ80 = .error .wait ⟨t, l, k, false⟩ := hs ▸ (bind_of_ok rfl).trans ((bind_of_ok rfl).trans (bind_of_error h))
  rw [runZ80, e, finishZ80, hs]

/-- A Z80 instruction that has waited, and waits again. -/
theorem runZ80_waits_again {i : Instr} {rule : Word → Op (List Nat)} {z : Z80} {v : Long} (hw : s.heldZ80 i z v)
    (h : Waits (rule z.pc) ((s.backZ80 z).pastZ80 i, [v]) t k) :
    runZ80 i rule s = .next { t with waitZ80 := some { act := .exec i, snap := z, log := k } } := by
  have hs : s.startZ80 = ⟨s.backZ80 z, [v], [], false⟩ := by rw [State.startZ80, show s.waitZ80 = _ from hw]; rfl
  obtain ⟨l, h⟩ := h []
  have e : (do let z ← z80Regs; setZ80 fun z => z.begin (encodeZ80 i).length; let data ← rule z.pc; spendZ80 (i.costZ80 data))
      s.startZ80 = .error .wait ⟨t, l, k, false⟩ := hs ▸ (bind_of_ok rfl).trans ((bind_of_ok rfl).trans (bind_of_error h))
  rw [runZ80, e, finishZ80, hs]
  rfl

/-- A Z80 instruction that goes on from two answers. -/
theorem runZ80_resumed {i : Instr} {rule : Word → Op (List Nat)} {data : List Nat} {z : Z80} {l : List Long}
    (hw : s.waitZ80 = some { act := .exec i, snap := z, log := l })
    (h : Gives (rule z.pc) ((s.backZ80 z).pastZ80 i, l) data (t, [])) : runZ80 i rule s = .next (t.endedZ80 i data) := by
  have hs : s.startZ80 = ⟨s.backZ80 z, l, [], false⟩ := by rw [State.startZ80, hw]; rfl
  obtain ⟨d, h⟩ := h []
  have e : (do let z ← z80Regs; setZ80 fun z => z.begin (encodeZ80 i).length; let data ← rule z.pc; spendZ80 (i.costZ80 data))
      s.startZ80 = .ok () ⟨t.endedZ80 i data, [], d, false⟩ :=
    hs ▸ (bind_of_ok rfl).trans ((bind_of_ok rfl).trans ((bind_of_ok h).trans rfl))
  rw [runZ80, e, finishZ80]

/-! ### What an answer that was waited for gives -/

theorem gives_load68k_answered {sz : Size} {a : Long} (ho : oddAccess (a.setWidth 24) sz = false) (s : State) (v : Long)
    (l : List Long) : Gives (load68k sz a) (s, v :: l) (v.setWidth sz.bits) (s, l) :=
  fun d => ⟨d ++ [v], load68k_ok ho (access68k_replayed _ _ _ _ rfl)⟩

theorem gives_store68k_answered {sz : Size} {a : Long} {w : BitVec sz.bits} (ho : oddAccess (a.setWidth 24) sz = false) (s : State)
    (v : Long) (l : List Long) : Gives (store68k sz a w) (s, v :: l) () (s, l) :=
  fun d => ⟨d ++ [v], store68k_ok ho (access68k_replayed _ _ _ _ rfl)⟩

theorem gives_loadZ80_answered (a : Word) (s : State) (v : Long) (l : List Long) :
    Gives (loadZ80 a) (s, v :: l) (v.setWidth 8) (s, l) := gives_bind (gives_replay _ _ _ _) (gives_pure _ _)

theorem gives_storeZ80_answered (a : Word) (w : Byte) (s : State) (v : Long) (l : List Long) :
    Gives (storeZ80 a w) (s, v :: l) () (s, l) := gives_bind (gives_replay _ _ _ _) (gives_pure _ _)

end Waits

/-! ### Turns of a waiting processor -/

/-- Resolving an operand changes registers only. -/
theorem locate_eq {s t : State} {sz : Size} {ea : Ea} {loc : Loc} (h : s.locate sz ea = some (loc, t)) :
    ∃ m, t = s.mapM68k fun _ => m := by
  rw [State.locate, Option.map_eq_some_iff] at h
  obtain ⟨x, -, h⟩ := h
  cases h
  exact ⟨_, rfl⟩

theorem turn68k_pending {s : State} {w : Wait68k} (hd : s.dead .m68k = none) (hw : s.wait68k = some w)
    (hp : s.bus.mb68k.op ≠ .none) : turn68k s = .next s := by
  rw [turn68k, hd, hw]
  exact if_neg hp

theorem turnZ80_pending {s : State} {w : WaitZ80} (hd : s.dead .z80 = none) (hw : s.waitZ80 = some w)
    (hp : s.bus.mbZ80.op ≠ .none) : turnZ80 s = .next s := by
  rw [turnZ80, hd, hw]
  exact if_neg hp

theorem turn68k_resumes {s : State} {w : Wait68k} {i : Instr} (hd : s.dead .m68k = none) (hw : s.wait68k = some w)
    (hi : w.act = .exec i) (hp : s.bus.mb68k.op = .none) : turn68k s = settle68k s (exec i (s.answered68k w)) := by
  rw [turn68k, hd, hw]
  refine (if_pos hp).trans ?_
  rw [resume68k, hi]

theorem turnZ80_resumes {s : State} {w : WaitZ80} {i : Instr} (hd : s.dead .z80 = none) (hw : s.waitZ80 = some w)
    (hi : w.act = .exec i) (hp : s.bus.mbZ80.op = .none) : turnZ80 s = settleZ80 s (exec i (s.answeredZ80 w)) := by
  rw [turnZ80, hd, hw]
  refine (if_pos hp).trans ?_
  rw [resumeZ80, hi]

section Shown

variable {s s1 : State} {sz : Size} {ea : Ea} {a : Long} {m : M68k} {z : Z80}

theorem tst_waits (hw : s.ready68k) (hb : s.bus.mb68k.op = .none) (hl : (s.past 1).locate sz ea = some (.mem a, s1))
    (ho : oddAccess (a.setWidth 24) sz = false) (hr : route68k s.launch (a.setWidth 24) sz = .owner) :
    exec (.tst sz ea) s = .next { s1.mapBus fun b => { b with mb68k := b.mb68k.issue .read (a.setWidth 24) sz 0 } with
      wait68k := some { act := .exec (.tst sz ea), snap := s.m68k, log := [] } } := by
  have resolved := answers_resolve [] hl
  obtain ⟨m, rfl⟩ := locate_eq hl
  exact (show exec (.tst sz ea) s = execTst sz ea s from rfl).trans (run68k_waits hw (waits_first (waits_bind resolved
    (waits_of_error fun _ => load68k_error ho (access68k_waits rfl hb hr rfl)))))

theorem moveFromSr_waits (hw : s.ready68k) (hb : s.bus.mb68k.op = .none) (hl : (s.past 1).locate .w ea = some (.mem a, s1))
    (ho : oddAccess (a.setWidth 24) .w = false) (hr : route68k s.launch (a.setWidth 24) .w = .owner)
    (hh : hitsPrefetch s.launch s1.m68k.pc (a.setWidth 24) .w = false) :
    exec (.moveFromSr ea) s = .next
      { s1.mapBus fun b => { b with mb68k := b.mb68k.issue .write (a.setWidth 24) .w (s1.m68k.getSr.setWidth 32) } with
        wait68k := some { act := .exec (.moveFromSr ea), snap := s.m68k, log := [] } } := by
  have resolved := answers_resolve [] hl
  obtain ⟨m, rfl⟩ := locate_eq hl
  exact (show exec (.moveFromSr ea) s = execMoveFromSr ea s from rfl).trans (run68k_waits hw (waits_bind resolved
    (waits_bind (answers_m68kRegs _) (waits_first (waits_of_error fun _ => store68k_error ho (access68k_waits rfl hb hr hh))))))

theorem tst_resumes {v : Long} (hw : s.wait68k = some { act := .exec (.tst sz ea), snap := m, log := [v] })
    (hl : (State.past { s with m68k := m, wait68k := none } 1).locate sz ea = some (.mem a, s1))
    (ho : oddAccess (a.setWidth 24) sz = false) :
    exec (.tst sz ea) s = .next ((s1.logicCcr (v.setWidth sz.bits)).ended68k (.tst sz ea) []) :=
  (show exec (.tst sz ea) s = execTst sz ea s from rfl).trans (run68k_resumed hw (gives_bind
    (gives_bind (gives_resolve _ hl) (gives_load68k_answered ho _ _ _)) (gives_bind (gives_getCcr _)
      (gives_bind (gives_setCcr _ _) (gives_pure _ _)))))

theorem moveFromSr_resumes {v : Long} (hw : s.wait68k = some { act := .exec (.moveFromSr ea), snap := m, log := [v] })
    (hl : (State.past { s with m68k := m, wait68k := none } 1).locate .w ea = some (.mem a, s1))
    (ho : oddAccess (a.setWidth 24) .w = false) : exec (.moveFromSr ea) s = .next (s1.ended68k (.moveFromSr ea) []) :=
  (show exec (.moveFromSr ea) s = execMoveFromSr ea s from rfl).trans (run68k_resumed hw (gives_bind (gives_resolve _ hl)
    (gives_bind (gives_m68kRegs _) (gives_bind (gives_store68k_answered ho _ _ _) (gives_pure _ _)))))

theorem zLdRHl_waits (r : ZReg) (hw : s.readyZ80) (hb : s.bus.mbZ80.op = .none) (hp : placeZ80 s.launch s.z80.hl ≠ none)
    (hl : s.launch.localZ80 s.z80.hl = false) : exec (.zLdRHl r) s = .next
      { (s.pastZ80 (.zLdRHl r)).mapBus fun b => { b with mbZ80 := b.mbZ80.issue .read s.z80.hl .b 0 } with
        waitZ80 := some { act := .exec (.zLdRHl r), snap := s.z80, log := [] } } :=
  (show exec (.zLdRHl r) s = execZLdRHl r s from rfl).trans (runZ80_waits hw (waits_first (waits_bind
    (answers_hlAddress _) (waits_of_error fun _ =>
      bind_of_error (accessZ80_waits rfl hb hp hl)))))

theorem zLdHlR_waits (r : ZReg) (hw : s.readyZ80) (hb : s.bus.mbZ80.op = .none) (hp : placeZ80 s.launch s.z80.hl ≠ none)
    (hl : s.launch.localZ80 s.z80.hl = false) : exec (.zLdHlR r) s = .next
      { (s.pastZ80 (.zLdHlR r)).mapBus fun b =>
          { b with mbZ80 := b.mbZ80.issue .write s.z80.hl .b ((s.z80.reg r).setWidth 32) } with
        waitZ80 := some { act := .exec (.zLdHlR r), snap := s.z80, log := [] } } := by
  have value : (s.pastZ80 (.zLdHlR r)).z80.reg r = s.z80.reg r := by cases r <;> rfl
  refine (show exec (.zLdHlR r) s = execZLdHlR r s from rfl).trans (runZ80_waits hw (waits_bind (answers_z80Regs _)
    (waits_first (waits_bind (answers_hlAddress _) (waits_of_error fun _ => ?_)))))
  rw [← value]
  exact bind_of_error (accessZ80_waits rfl hb hp hl)

theorem zLdRHl_resumes (r : ZReg) {v : Long} (hw : s.heldZ80 (.zLdRHl r) z v) : exec (.zLdRHl r) s = .next
    ((((s.backZ80 z).pastZ80 (.zLdRHl r)).mapZ80 fun z => z.setReg r (v.setWidth 8)).endedZ80 (.zLdRHl r) []) :=
  heldZ80 (show exec (.zLdRHl r) s = execZLdRHl r s from rfl) hw (gives_bind (gives_bind
    (gives_bind (gives_z80Regs _) (gives_pure _ _)) (gives_loadZ80_answered _ _ _ _)) (gives_setZ80_done _ _ _))

theorem zLdHlR_resumes (r : ZReg) {v : Long} (hw : s.heldZ80 (.zLdHlR r) z v) :
    exec (.zLdHlR r) s = .next (((s.backZ80 z).pastZ80 (.zLdHlR r)).endedZ80 (.zLdHlR r) []) :=
  heldZ80 (show exec (.zLdHlR r) s = execZLdHlR r s from rfl) hw (gives_bind (gives_z80Regs _) (gives_bind (gives_bind
    (gives_bind (gives_z80Regs _) (gives_pure _ _)) (gives_storeZ80_answered _ _ _ _ _)) (gives_pure _ _)))

end Shown

/-- Settles O53: an issue leaves its processor waiting, and a waiting instruction runs again past the accesses it has made. -/
theorem transactionsWaitAndResume : Obligations.TransactionsWaitAndResume := by
  refine ⟨fun s w => turn68k_pending, fun s w => turnZ80_pending, fun s w i => turn68k_resumes, fun s w i => turnZ80_resumes,
    fun c sz a v ht hb ho hr => ⟨load68k_error ho (access68k_waits ht hb hr rfl),
      fun hs => store68k_error ho (access68k_waits ht hb hr hs), fun hsz hs => ?_⟩,
    fun c sz a v x r ht ho => ⟨load68k_ok ho (access68k_replayed _ _ _ _ ht), store68k_ok ho (access68k_replayed _ _ _ _ ht),
      tas68k_ok (access68k_replayed _ _ _ _ ht)⟩,
    fun c a v ht hb => ⟨fun hp hl => ⟨bind_of_error (accessZ80_waits ht hb hp hl), bind_of_error (accessZ80_waits ht hb hp hl)⟩,
      fun ho => ⟨bind_of_error (accessPort_waits ht hb ho), bind_of_error (accessPort_waits ht hb ho)⟩,
      fun ho => ⟨⟨_, inPort_own ht ho⟩, outPort_own ht ho⟩⟩,
    fun c a v x r ht => ⟨bind_of_ok (accessZ80_replayed _ ht), bind_of_ok (accessZ80_replayed _ ht),
      bind_of_ok (accessZ80_replayed _ ht), bind_of_ok (accessZ80_replayed _ ht)⟩,
    fun s sz ea a s1 => tst_waits, fun s sz ea a m s1 hd hw hb hl ho => ?_, fun s ea a s1 => moveFromSr_waits,
    fun s ea a m s1 hd hw hb hl ho => ?_, fun s r hw hb hp hl => ⟨zLdRHl_waits r hw hb hp hl, zLdHlR_waits r hw hb hp hl⟩,
    fun s r z hd hb => ⟨fun hw => ?_, fun hw => ?_⟩⟩
  · subst hsz
    exact tas68k_error (access68k_waits ht hb hr hs)
  · exact (turn68k_resumes hd hw rfl hb).trans (congrArg (settle68k s) (tst_resumes (s := s.answered68k _) rfl hl ho))
  · exact (turn68k_resumes hd hw rfl hb).trans (congrArg (settle68k s) (moveFromSr_resumes (s := s.answered68k _) rfl hl ho))
  · exact (turnZ80_resumes hd hw rfl hb).trans (congrArg (settleZ80 s) (zLdRHl_resumes (s := s.answeredZ80 ⟨.exec (.zLdRHl r), z, []⟩) r rfl))
  · exact (turnZ80_resumes hd hw rfl hb).trans (congrArg (settleZ80 s) (zLdHlR_resumes (s := s.answeredZ80 ⟨.exec (.zLdHlR r), z, []⟩) r rfl))

end Sys2Proof.Laws
end

section
/-! The port instructions of Z80: they issue their transaction, and complete with its answer (48 R644 to R655). -/

namespace Sys2Proof.Laws

open Sys2Proof.Machine

variable {s t u : State}

/-! ### Ports -/

theorem gives_inPort_own (port : Word) (ho : s.launch.map.ownPorts = true) :
    Gives (inPort port) (s, []) (Config.drawBus s.bus.draws) (s.drawn, []) := fun _ => ⟨_, inPort_own rfl ho⟩

theorem gives_outPort_own (port : Word) (v : Byte) (ho : s.launch.map.ownPorts = true) :
    Gives (outPort port v) (s, []) () (s.record (.portWrite port v), []) := fun _ => ⟨_, outPort_own rfl ho⟩

theorem waits_inPort (port : Word) (hb : s.bus.mbZ80.op = .none) (ho : s.launch.map.ownPorts = false) :
    Waits (inPort port) (s, []) (s.mapBus fun b => { b with mbZ80 := b.mbZ80.issue .portRead port .b 0 }) [] :=
  waits_of_error fun _ => bind_of_error (accessPort_waits rfl hb ho)

theorem waits_outPort (port : Word) (v : Byte) (hb : s.bus.mbZ80.op = .none) (ho : s.launch.map.ownPorts = false) :
    Waits (outPort port v) (s, []) (s.mapBus fun b => { b with mbZ80 := b.mbZ80.issue .portWrite port .b (v.setWidth 32) }) [] :=
  waits_of_error fun _ => bind_of_error (accessPort_waits rfl hb ho)

theorem answers_loadZ80_answered (a : Word) (s : State) (v : Long) (l : List Long) :
    Answers (loadZ80 a) (s, v :: l) (v.setWidth 8) (s, l) [v] := fun _ => bind_of_ok rfl

theorem answers_loadZ80_peek {a : Word} {v : Byte} (h : s.peek a = some v) :
    Answers (loadZ80 a) (s, []) v (s, []) [v.setWidth 32] := by
  rw [State.peek] at h
  split at h
  · rename_i off hp
    split at h
    · rename_i hl
      cases h
      intro d
      refine (bind_of_ok (d := ⟨s, [], d ++ [(s.mem.read (zramKey off)).setWidth 32], false⟩)
        (a := (s.mem.read (zramKey off)).setWidth 32) ?_).trans
        (congrArg (fun v => EStateM.Result.ok v _) (BitVec.setWidth_setWidth_of_le _ (by decide)))
      simp [Op.once, performZ80, hp, hl, accessAtZ80]
    · cases h
  · cases h

/-! ### Block port instructions -/

/-- The rule of a block port instruction, from that of one iteration. -/
def blockRule (again : Bool) (x : Op Unit) (ipc : Word) : Op (List Nat) :=
  if again then blockIoRepeat x ipc else do
    x
    pure []

theorem exec_blockIn {i : Instr} {down again : Bool}
    (h : (i, down, again) ∈ [(Instr.zIni, false, false), (.zInd, true, false), (.zInir, false, true), (.zIndr, true, true)])
    (s : State) : exec i s = runZ80 i (blockRule again (blockIn down)) s := by
  simp only [List.mem_cons, Prod.mk.injEq, List.not_mem_nil, or_false] at h
  obtain ⟨rfl, rfl, rfl⟩ | ⟨rfl, rfl, rfl⟩ | ⟨rfl, rfl, rfl⟩ | ⟨rfl, rfl, rfl⟩ := h
  · exact (show exec .zIni s = execZIni s from rfl)
  · exact (show exec .zInd s = execZInd s from rfl)
  · exact (show exec .zInir s = execZInir s from rfl)
  · exact (show exec .zIndr s = execZIndr s from rfl)

theorem exec_blockOut {i : Instr} {down again : Bool}
    (h : (i, down, again) ∈ [(Instr.zOuti, false, false), (.zOutd, true, false), (.zOtir, false, true), (.zOtdr, true, true)])
    (s : State) : exec i s = runZ80 i (blockRule again (blockOut down)) s := by
  simp only [List.mem_cons, Prod.mk.injEq, List.not_mem_nil, or_false] at h
  obtain ⟨rfl, rfl, rfl⟩ | ⟨rfl, rfl, rfl⟩ | ⟨rfl, rfl, rfl⟩ | ⟨rfl, rfl, rfl⟩ := h
  · exact (show exec .zOuti s = execZOuti s from rfl)
  · exact (show exec .zOutd s = execZOutd s from rfl)
  · exact (show exec .zOtir s = execZOtir s from rfl)
  · exact (show exec .zOtdr s = execZOtdr s from rfl)

theorem exists_blockIn {i : Instr} (h : i ∈ [Instr.zIni, .zInd, .zInir, .zIndr]) : ∃ down again,
    (i, down, again) ∈ [(Instr.zIni, false, false), (.zInd, true, false), (.zInir, false, true), (.zIndr, true, true)] := by
  simp only [List.mem_cons, List.not_mem_nil, or_false] at h
  obtain rfl | rfl | rfl | rfl := h <;> simp

theorem exists_blockOut {i : Instr} (h : i ∈ [Instr.zOuti, .zOutd, .zOtir, .zOtdr]) : ∃ down again,
    (i, down, again) ∈ [(Instr.zOuti, false, false), (.zOutd, true, false), (.zOtir, false, true), (.zOtdr, true, true)] := by
  simp only [List.mem_cons, List.not_mem_nil, or_false] at h
  obtain rfl | rfl | rfl | rfl := h <;> simp

/-- The registers after one iteration, the free flags drawn. -/
def ioStepped (down again : Bool) (ipc : Word) (z : Z80) : Z80 :=
  portStepped down again ipc (z.freeByte.1.getLsbD 7) (z.freeByte.1.getLsbD 4) (z.freeByte.1.getLsbD 2)
    (z.freeByte.1.getLsbD 0) z

/-- A repeating form goes back to its address while B is not 0. -/
theorem ioStepped_again (down : Bool) (ipc : Word) (z : Z80) : ioStepped down true ipc z =
    if z.b - 1#8 ≠ 0#8 then { ioStepped down false ipc z with pc := ipc } else ioStepped down false ipc z := by
  by_cases h : z.b - 1#8 = 0#8 <;> simp [ioStepped, portStepped, h]

theorem gives_blockIoFlags (down : Bool) (ipc : Word) (l : List Long) :
    Gives blockIoFlags (t.mapZ80 fun z => { z.setHl (blockStep down z.hl) with b := z.b - 1#8 }, l) ()
      (t.mapZ80 (ioStepped down false ipc), l) :=
  gives_bind (gives_drawZ80 _) (gives_bind (gives_z80Regs _) (gives_to (gives_setFlags _ _) rfl rfl))

theorem gives_blockIn {down : Bool} {l : List Long} {w : Byte} (ipc : Word) (hi : Gives (inPort s.z80.bc) (s, l) w (u, []))
    (hp : u.poke s.z80.hl w = some t) : Gives (blockIn down) (s, l) () (t.mapZ80 (ioStepped down false ipc), []) :=
  gives_bind (gives_z80Regs _) (gives_bind hi (gives_bind (gives_storeZ80 hp) (gives_bind (gives_setZ80 _ _)
    (gives_blockIoFlags down ipc _))))

theorem gives_blockOut {down : Bool} {l k : List Long} {v : Byte} (ipc : Word) (hl : Gives (loadZ80 s.z80.hl) (s, l) v (s, k))
    (ho : Gives (outPort ((s.z80.b - 1#8) ++ s.z80.c) v) (s.mapZ80 fun z => { z with b := z.b - 1#8 }, k) ()
      (t.mapZ80 fun z => { z with b := z.b - 1#8 }, [])) :
    Gives (blockOut down) (s, l) () (t.mapZ80 (ioStepped down false ipc), []) :=
  gives_bind (gives_z80Regs _) (gives_bind hl (gives_bind (gives_setZ80 _ _) (gives_bind (gives_z80Regs _)
    (gives_bind ho (gives_bind (gives_setZ80 _ _) (gives_blockIoFlags down ipc _))))))

theorem gives_blockRule {again down : Bool} {x : Op Unit} {ipc : Word} {l : List Long}
    (h : Gives x (s, l) () (t.mapZ80 (ioStepped down false ipc), [])) :
    Gives (blockRule again x ipc) (s, l) (if again then [(decide (t.z80.b - 1#8 ≠ 0#8)).toNat] else [])
      (t.mapZ80 (ioStepped down again ipc), []) := by
  cases again with
  | false => exact gives_bind h (gives_pure _ _)
  | true =>
    refine gives_bind h (gives_bind (gives_z80Regs _) (gives_to (gives_repeatIf _ _ _ _) rfl ?_))
    rw [mapZ80_mapZ80]
    refine point_congrZ80 ?_
    rw [ioStepped_again]
    exact if_congr decide_eq_true_iff rfl rfl

theorem waits_blockRule {again : Bool} {x : Op Unit} {ipc : Word} {p : Point} {k : List Long} (h : Waits x p t k) :
    Waits (blockRule again x ipc) p t k := by
  cases again <;> exact waits_first h

theorem waits_blockIn (down : Bool) (hb : s.bus.mbZ80.op = .none) (ho : s.launch.map.ownPorts = false) :
    Waits (blockIn down) (s, []) (s.mapBus fun b => { b with mbZ80 := b.mbZ80.issue .portRead s.z80.bc .b 0 }) [] :=
  waits_bind (answers_z80Regs _) (waits_first (waits_inPort _ hb ho))

theorem waits_blockOut (down : Bool) {l k : List Long} {v : Byte} (hl : Answers (loadZ80 s.z80.hl) (s, l) v (s, []) k)
    (hb : s.bus.mbZ80.op = .none) (ho : s.launch.map.ownPorts = false) :
    Waits (blockOut down) (s, l) ((s.mapZ80 fun z => { z with b := z.b - 1#8 }).mapBus fun b =>
      { b with mbZ80 := b.mbZ80.issue .portWrite ((s.z80.b - 1#8) ++ s.z80.c) .b (v.setWidth 32) }) k := by
  have h : Waits (blockOut down) (s, l) _ ([] ++ (k ++ ([] ++ ([] ++ [])))) :=
    waits_bind (answers_z80Regs _) (waits_bind hl (waits_bind (answers_setZ80 _ _)
      (waits_bind (answers_z80Regs _) (waits_first (waits_outPort _ v hb ho)))))
  simp only [List.nil_append, List.append_nil] at h
  exact h

/-! ### IN and OUT -/

section InOut

variable {p : Point} {v : Long} {w : Byte} {l : List Long}

theorem gives_inAN {n : Byte} (h : Gives (inPort (s.z80.a ++ n)) (s, l) w (t, [])) :
    Gives (do let z ← z80Regs; let v ← inPort (z.a ++ n); setZ80 fun z => { z with a := v }; pure []) (s, l) ([] : List Nat)
      (t.mapZ80 fun z => { z with a := w }, []) :=
  gives_bind (gives_z80Regs _) (gives_bind h (gives_setZ80_done _ _ _))

theorem gives_inRC {r : ZReg} (h : Gives (inPort s.z80.bc) (s, l) w (t, [])) (hz : t.z80 = s.z80) :
    Gives (do
      let z ← z80Regs
      let v ← inPort z.bc
      setZ80 fun z => z.setReg r v
      setFlags { logicFlags v false with c := z.flags.c }
      pure []) (s, l) ([] : List Nat)
      (t.mapZ80 fun z => (z.setReg r w).flagged (szFlags w false (parity w) false z.flags.c), []) :=
  gives_bind (gives_z80Regs _) (gives_bind h (gives_setZ80_setFlags_to _ _ (by rw [hz]; rfl)))

end InOut

/-- Settles O32: one port access, made, issued or answered, and the registers after it. -/
theorem z80PortsComplete : Obligations.Z80PortsComplete := by
  refine ⟨⟨fun s n z v hw => ?_, fun s r z v hw => ?_, fun s n z v hw => ?_, fun s r z v hw => ?_, fun s i k port v hw hb ho h => ?_,
    fun s hw ho => ⟨fun n => ?_, fun r => ?_, fun n => ?_, fun r => ?_⟩⟩,
    fun i down again s z v t hi hw hp => ?_, fun i down again s z v w hi hw => ?_, fun i s hi hw hb ho => ?_,
    fun i s v hi hw hb ho hl => ?_, fun i s z v hi hw hb ho => ?_, fun i down again s hi hw ho => ?_,
    fun i down again s v hi hw ho hl => ?_⟩
  · exact heldZ80 (show exec (.zInAN n) s = execZInAN n s from rfl) hw (gives_inAN (gives_inPort _ _ _ _))
  · exact heldZ80 (show exec (.zInRC r) s = execZInRC r s from rfl) hw (gives_inRC (gives_inPort _ _ _ _) rfl)
  · exact heldZ80 (show exec (.zOutNA n) s = execZOutNA n s from rfl) hw
      (gives_bind (gives_z80Regs _) (gives_bind (gives_outPort _ _ _ _ _) (gives_pure _ _)))
  · exact heldZ80 (show exec (.zOutCR r) s = execZOutCR r s from rfl) hw
      (gives_bind (gives_z80Regs _) (gives_bind (gives_outPort _ _ _ _ _) (gives_pure _ _)))
  · obtain ⟨n, rfl, rfl, rfl, rfl⟩ | ⟨r, rfl, rfl, rfl, rfl⟩ | ⟨n, rfl, rfl, rfl, rfl⟩ | ⟨r, rfl, rfl, rfl, rfl⟩ := h
    · exact (show exec (.zInAN n) s = execZInAN n s from rfl).trans
        (runZ80_waits hw (waits_bind (answers_z80Regs _) (waits_first (waits_inPort _ hb ho))))
    · exact (show exec (.zInRC r) s = execZInRC r s from rfl).trans
        (runZ80_waits hw (waits_bind (answers_z80Regs _) (waits_first (waits_inPort _ hb ho))))
    · exact (show exec (.zOutNA n) s = execZOutNA n s from rfl).trans
        (runZ80_waits hw (waits_bind (answers_z80Regs _) (waits_first (waits_outPort _ _ hb ho))))
    · refine (show exec (.zOutCR r) s = execZOutCR r s from rfl).trans
        (runZ80_waits hw (waits_bind (answers_z80Regs _) (waits_first ?_)))
      rw [← show (s.pastZ80 (.zOutCR r)).z80.reg r = s.z80.reg r by cases r <;> rfl]
      exact waits_outPort _ _ hb ho
  · exact ⟨_, nextZ80 (show exec (.zInAN n) s = execZInAN n s from rfl) hw (gives_inAN (gives_inPort_own _ ho))⟩
  · exact ⟨_, nextZ80 (show exec (.zInRC r) s = execZInRC r s from rfl) hw (gives_inRC (gives_inPort_own _ ho) rfl)⟩
  · exact nextZ80 (show exec (.zOutNA n) s = execZOutNA n s from rfl) hw
      (gives_bind (gives_z80Regs _) (gives_bind (gives_outPort_own _ _ ho) (gives_pure _ _)))
  · refine nextZ80 (show exec (.zOutCR r) s = execZOutCR r s from rfl) hw (gives_bind (gives_z80Regs _) ?_)
    rw [← show (s.pastZ80 (.zOutCR r)).z80.reg r = s.z80.reg r by cases r <;> rfl]
    exact gives_bind (gives_outPort_own _ _ ho) (gives_pure _ _)
  · have regs : t.z80 = ((s.backZ80 z).pastZ80 i).z80 := poke_z80 hp
    have h := heldZ80 (exec_blockIn hi s) hw (gives_blockRule (gives_blockIn z.pc (gives_inPort _ _ _ _) hp))
    rw [regs] at h
    exact ⟨_, _, _, _, h⟩
  · exact ⟨_, _, _, _, (exec_blockOut hi s).trans (runZ80_resumed hw (gives_blockRule
      (gives_blockOut z.pc (gives_loadZ80_answered _ _ _ _) (gives_outPort _ _ _ _ _))))⟩
  · obtain ⟨down, again, hi⟩ := exists_blockIn hi
    exact (exec_blockIn hi s).trans (runZ80_waits hw (waits_blockRule (waits_blockIn down hb ho)))
  · obtain ⟨down, again, hi⟩ := exists_blockOut hi
    exact (exec_blockOut hi s).trans (runZ80_waits hw (waits_blockRule (waits_blockOut down (answers_loadZ80_peek hl) hb ho)))
  · obtain ⟨down, again, hi⟩ := exists_blockOut hi
    exact (exec_blockOut hi s).trans (runZ80_waits_again hw (waits_blockRule
      (waits_blockOut down (answers_loadZ80_answered _ _ _ _) hb ho)))
  · refine ⟨Config.drawBus s.bus.draws, fun t hp => ?_⟩
    have regs : t.z80 = (s.pastZ80 i).drawn.z80 := poke_z80 hp
    have h := nextZ80 (exec_blockIn hi s) hw (gives_blockRule (gives_blockIn s.z80.pc (gives_inPort_own _ ho) hp))
    rw [regs] at h
    exact ⟨_, _, _, _, h⟩
  · have read : Gives (loadZ80 (s.pastZ80 i).z80.hl) (s.pastZ80 i, []) v (s.pastZ80 i, []) := gives_loadZ80 hl
    have written := gives_outPort_own (s := (s.pastZ80 i).mapZ80 fun z => { z with b := z.b - 1#8 })
      ((s.z80.b - 1#8) ++ s.z80.c) v ho
    have h := nextZ80 (exec_blockOut hi s) hw (gives_blockRule
      (gives_blockOut (t := (s.pastZ80 i).record (.portWrite ((s.z80.b - 1#8) ++ s.z80.c) v)) s.z80.pc read written))
    exact ⟨_, _, _, _, h⟩

end Sys2Proof.Laws
end

section
/-! What the turn of a processor does at a boundary (60 R709 to R718, 48 R670). -/

namespace Sys2Proof.Laws

open Sys2Proof.Machine

variable {s t u : State}

/-! ### Interrupt entry of M68K -/

section Makes

variable {irq : Bool} {sz : Size} {a : Long}

theorem makes_m68kRegs (s : State) : Makes irq m68kRegs s s.m68k s := fun d => ⟨d, rfl⟩

theorem makes_setM68k (f : M68k → M68k) (s : State) : Makes irq (setM68k f) s () (s.mapM68k f) := fun d => ⟨d, rfl⟩

theorem makes_load68k {v : BitVec sz.bits} (h : s.loadAt sz a = some (v, t)) : Makes irq (load68k sz a) s v t := by
  obtain ⟨x, hx, hm⟩ := makes_access68k_read (irq := irq) h
  rw [State.loadAt, Option.map_eq_some_iff] at h
  obtain ⟨ps, hp, -⟩ := h
  intro d
  obtain ⟨d', hd⟩ := hm d
  exact ⟨d', hx ▸ load68k_ok (placesHere_some hp).1 hd⟩

/-- A store of interrupt entry, which has no words after it (20 R143, log 12). -/
theorem makes_store68k_irq {v : BitVec sz.bits} {ps : List Place} (h : s.placesHere sz a = some ps) :
    Makes true (store68k sz a v) s () (s.plainWrite (a.setWidth 24) sz (v.setWidth 32) ps) := by
  obtain ⟨ho, hr, hz⟩ := placesHere_some h
  refine fun d => ⟨d ++ [v.setWidth 32], store68k_ok ho (x := v.setWidth 32) ?_⟩
  simp [access68k, Op.once, perform68k, hr, hz, Ctx.selfModifies, plainAccess]

theorem makes_push68k_irq {v : BitVec sz.bits} (h : s.pushIrqAt sz v = some t) : Makes true (push68k sz v) s () t := by
  rw [State.pushIrqAt] at h
  obtain ⟨ps, hp, rfl⟩ := Option.map_eq_some_iff.1 h
  exact makes_bind (makes_setM68k _ _) (makes_bind (makes_m68kRegs _) (makes_store68k_irq hp))

end Makes

theorem enterInterrupt68k_next {l : Nat} (hw : s.ready68k) (h : s.interruptAt l = some t) :
    enterInterrupt68k l s.clearInt68k = .next t := by
  rw [State.interruptAt] at h
  split at h
  · cases h
  rename_i t1 h1
  split at h
  · cases h
  rename_i t2 h2
  split at h
  · cases h
  rename_i a t3 h3
  cases h
  have entered : Makes true (do
      let m ← m68kRegs
      enterException (24 + l) m.pc (some (BitVec.ofNat 3 l))) s.clearInt68k () _ :=
    makes_bind (makes_m68kRegs _) (makes_bind (makes_m68kRegs _) (makes_bind (makes_setM68k _ _) (makes_bind (makes_setM68k _ _)
      (makes_bind (makes_push68k_irq h1) (makes_bind (makes_push68k_irq h2) (makes_bind (makes_load68k h3)
        (makes_bind (makes_setM68k _ _) (makes_setM68k _ _))))))))
  have start : s.clearInt68k.start68k = ⟨s.clearInt68k, [], [], false⟩ := by
    rw [State.start68k, clearInt68k_wait68k, show s.wait68k = none from hw]
  obtain ⟨d, hd⟩ := entered []
  rw [enterInterrupt68k, start, hd]
  rfl

/-! ### M68K -/

theorem turn68k_boundary (hd : s.dead .m68k = none) (hw : s.ready68k) : turn68k s = boundary68k s := by
  rw [turn68k, hd, show s.wait68k = none from hw]

theorem boundary68k_interrupt (hr : ∀ r, s.m68k.run ≠ .halted r) (hl : s.m68k.mask.toNat < s.bus.mb68k.intLevel) :
    boundary68k s = settle68k s.clearInt68k (enterInterrupt68k s.bus.mb68k.intLevel s.clearInt68k) := by
  rw [boundary68k]
  cases h : s.m68k.run with
  | halted r => exact absurd h (hr r)
  | running => exact if_pos hl
  | stopped => exact if_pos hl

/-- Settles O49: the boundary, branch by branch. -/
theorem m68kBoundary : Obligations.M68kBoundary := by
  intro s hd hw
  refine ⟨fun r hr => turn68k_halted hr hd hw, fun t hr hl ht => ?_, fun hl => ⟨fun hr => ?_, fun hr ht => ?_, fun hr ht hp => ?_⟩⟩
  · rw [turn68k_boundary hd hw, boundary68k_interrupt hr hl, enterInterrupt68k_next hw ht]
    rfl
  all_goals
    rw [turn68k_boundary hd hw, boundary68k, hr]
    refine (if_neg (Nat.not_lt.2 hl)).trans ?_
  · rfl
  · rw [if_neg (by decide), ht]
    rfl
  · rw [if_neg (by decide), ht, hp]
    rfl

/-! ### Z80 -/

theorem turnZ80_boundary (hd : s.dead .z80 = none) (hw : s.readyZ80) : turnZ80 s = boundaryZ80 s := by
  rw [turnZ80, hd, show s.waitZ80 = none from hw]

theorem enterInterruptZ80_im1 (hw : s.readyZ80) (hm : s.z80.im = .im1)
    (h : (s.mapZ80 fun z => { z with halted := false, iff1 := false, iff2 := false }).pushZ s.z80.pc = some t) :
    enterInterruptZ80 s = .next (t.mapZ80 fun z => { z with pc := 0x0038#16 }.spend .intAcceptIM1) := by
  have entered : Gives (do
      let z ← z80Regs
      if z.im ≠ IntMode.im1 then Op.stop (.refused .interruptMode)
      setZ80 fun z => { z with halted := false, iff1 := false, iff2 := false }
      pushZ80 z.pc
      setZ80 fun z => { z with pc := 0x0038#16 }
      spendZ80 .intAcceptIM1) (s, []) () _ :=
    gives_bind (gives_z80Regs _) (gives_if_neg (not_not_intro hm) (gives_bind (gives_setZ80 _ _) (gives_bind (gives_pushZ80 h)
      (gives_bind (gives_setZ80 _ _) (gives_setZ80 _ _)))))
  have start : s.startZ80 = ⟨s, [], [], false⟩ := by rw [State.startZ80, show s.waitZ80 = none from hw]
  obtain ⟨d, hd⟩ := entered []
  rw [enterInterruptZ80, start, hd]
  rfl

theorem enterInterruptZ80_refused (hw : s.readyZ80) (hm : s.z80.im ≠ .im1) :
    enterInterruptZ80 s = .refused .interruptMode := by
  have start : s.startZ80 = ⟨s, [], [], false⟩ := by rw [State.startZ80, show s.waitZ80 = none from hw]
  rw [enterInterruptZ80, start]
  refine congrArg (finishZ80 .irq s) (a₂ := .error (.refused .interruptMode) ⟨s, [], [], false⟩) ((bind_of_ok rfl).trans ?_)
  rw [if_pos hm]
  rfl

/-- Settles O50: the boundary, branch by branch. -/
theorem z80Boundary : Obligations.Z80Boundary := by
  intro s hd hw
  rw [turnZ80_boundary hd hw]
  refine ⟨fun h => ?_, fun hh hp => ⟨fun hb => ?_, fun hb => ⟨fun h1 hc hl => ⟨fun t hm ht => ?_, fun hm => ?_⟩, fun hq hz => ?_⟩⟩⟩
  · exact if_pos (by simpa using h)
  all_goals rw [boundaryZ80, hh, hp, hb]
  · rfl
  · have taken : (s.z80.iff1 && !s.z80.cooldown && decide (s.bus.mbZ80.intLevel ≠ 0)) = true := by simp [h1, hc, hl]
    refine (if_pos taken).trans ?_
    rw [enterInterruptZ80_im1 (s := (s.mapBus fun b => { b with busAck := false }).clearIntZ80) hw hm ht]
    rfl
  · have taken : (s.z80.iff1 && !s.z80.cooldown && decide (s.bus.mbZ80.intLevel ≠ 0)) = true := by simp [h1, hc, hl]
    refine (if_pos taken).trans ?_
    rw [enterInterruptZ80_refused (s := (s.mapBus fun b => { b with busAck := false }).clearIntZ80) hw hm]
    rfl
  · have quiet : ¬(s.z80.iff1 && !s.z80.cooldown && decide (s.bus.mbZ80.intLevel ≠ 0)) = true := by
      obtain h | h | h := hq <;> simp [h]
    exact (if_neg quiet).trans (if_pos hz)

end Sys2Proof.Laws
end

section
/-! How OWNER serves a transaction: the control registers, the bank register, devices, ZRAM and the bank window (20 R131 to R137,
R152, 60 R750 to R753). -/

namespace Sys2Proof.Laws

open Sys2Proof.Machine

variable {s t : State}

/-! ### Serving a mailbox -/

theorem mapBus_congr {f g : Bus → Bus} (h : f s.bus = g s.bus) : s.mapBus f = s.mapBus g := by
  rw [State.mapBus, h]
  rfl

theorem mapBus_mapBus (s : State) (f g : Bus → Bus) : (s.mapBus f).mapBus g = s.mapBus fun b => g (f b) := rfl

/-- A read is answered with its value. -/
theorem answer_read {w : Nat} {m : Mailbox w} {v : Long} (h : m.op = .memRead ∨ m.op = .portRead) :
    m.answer v = { m with op := .none, value := v } := by
  rw [Mailbox.answer]
  obtain h | h := h <;> rw [h]

/-- A write is answered by the end of its transaction. -/
theorem answer_write {w : Nat} {m : Mailbox w} {v : Long} (h : m.op = .memWrite ∨ m.op = .portWrite) :
    m.answer v = { m with op := .none } := by
  rw [Mailbox.answer]
  obtain h | h := h <;> rw [h]

theorem service68k_ok {v : Long} (hd : s.dead .m68k = none) (hp : s.bus.mb68k.op ≠ .none)
    (h : ownerAccess68k s s.bus.mb68k = .ok (v, t)) :
    service68k s = .next (t.mapBus fun b => { b with mb68k := b.mb68k.answer v }) := by
  rw [service68k, if_neg (by simp [hp, hd]), h]

theorem service68k_fault {f : Fault} (hd : s.dead .m68k = none) (hp : s.bus.mb68k.op ≠ .none)
    (h : ownerAccess68k s s.bus.mb68k = .error f) : service68k s = .next (s.markFault .m68k (.fault f)) := by
  rw [service68k, if_neg (by simp [hp, hd]), h]
  rfl

theorem serviceZ80_ok {v : Long} (hd : s.dead .z80 = none) (hp : s.bus.mbZ80.op ≠ .none)
    (h : ownerAccessZ80 s s.bus.mbZ80 = .ok (v, t)) :
    serviceZ80 s = .next (t.mapBus fun b => { b with mbZ80 := b.mbZ80.answer v }) := by
  rw [serviceZ80, if_neg (by simp [hp, hd]), h]

theorem serviceZ80_fault {f : Fault} (hd : s.dead .z80 = none) (hp : s.bus.mbZ80.op ≠ .none)
    (h : ownerAccessZ80 s s.bus.mbZ80 = .error f) : serviceZ80 s = .next (s.failZ80.markFault .z80 (.fault f)) := by
  rw [serviceZ80, if_neg (by simp [hp, hd]), h]
  rfl

theorem transact_write {w : Nat} {m : Mailbox w} (r : RowAccess) (h : m.op = .memWrite ∨ m.op = .portWrite) :
    transact m s r = (m.value, r.write m.value s) := by
  rw [transact]
  obtain h | h := h <;> rw [h]

theorem transact_read {w : Nat} {m : Mailbox w} (r : RowAccess) (h : m.op = .memRead ∨ m.op = .portRead) (hq : m.rmw = false) :
    transact m s r = r.read := by
  rw [transact]
  obtain h | h := h <;> rw [h] <;> exact if_neg (ne_true_of_eq_false hq)

/-- A TAS is a read and a write in one event (20 R128). -/
theorem transact_tas {w : Nat} {m : Mailbox w} (r : RowAccess) (h : m.op = .memRead) (hq : m.rmw = true) :
    transact m s r = (r.read.1, r.write (r.read.1 ||| 0x80#32) r.read.2) := by
  rw [transact, h]
  exact if_pos hq

/-! ### What a service does, by the kind of its transaction -/

section Service

variable {r : RowAccess}

theorem service68k_write (hd : s.dead .m68k = none) (ho : s.bus.mb68k.op = .memWrite)
    (h : ownerAccess68k s s.bus.mb68k = .ok (transact s.bus.mb68k s r))
    (hb : (r.write s.bus.mb68k.value s).bus.mb68k = s.bus.mb68k) :
    service68k s = .next ((r.write s.bus.mb68k.value s).mapBus fun b => { b with mb68k := { b.mb68k with op := .none } }) := by
  rw [transact_write r (.inl ho)] at h
  rw [service68k_ok hd (by rw [ho]; decide) h]
  exact congrArg _ (mapBus_congr (congrArg (fun m => ({ (r.write s.bus.mb68k.value s).bus with mb68k := m } : Bus))
    (answer_write (by rw [hb]; exact .inl ho))))

theorem service68k_read (hd : s.dead .m68k = none) (ho : s.bus.mb68k.op = .memRead) (hq : s.bus.mb68k.rmw = false)
    (h : ownerAccess68k s s.bus.mb68k = .ok (transact s.bus.mb68k s r)) (hb : r.read.2.bus.mb68k = s.bus.mb68k) :
    service68k s = .next (r.read.2.mapBus fun b => { b with mb68k := { b.mb68k with op := .none, value := r.read.1 } }) := by
  rw [transact_read r (.inl ho) hq] at h
  rw [service68k_ok hd (by rw [ho]; decide) h]
  exact congrArg _ (mapBus_congr (congrArg (fun m => ({ r.read.2.bus with mb68k := m } : Bus)) (answer_read (.inl (hb ▸ ho)))))

theorem service68k_tas (hd : s.dead .m68k = none) (ho : s.bus.mb68k.op = .memRead) (hq : s.bus.mb68k.rmw = true)
    (h : ownerAccess68k s s.bus.mb68k = .ok (transact s.bus.mb68k s r))
    (hb : (r.write (r.read.1 ||| 0x80#32) r.read.2).bus.mb68k = s.bus.mb68k) :
    service68k s = .next ((r.write (r.read.1 ||| 0x80#32) r.read.2).mapBus fun b =>
      { b with mb68k := { b.mb68k with op := .none, value := r.read.1 } }) := by
  rw [transact_tas r ho hq] at h
  rw [service68k_ok hd (by rw [ho]; decide) h]
  exact congrArg _ (mapBus_congr (congrArg (fun m => ({ (r.write (r.read.1 ||| 0x80#32) r.read.2).bus with mb68k := m } : Bus))
    (answer_read (.inl (hb ▸ ho)))))

theorem serviceZ80_write (hd : s.dead .z80 = none) (ho : s.bus.mbZ80.op = .memWrite ∨ s.bus.mbZ80.op = .portWrite)
    (h : ownerAccessZ80 s s.bus.mbZ80 = .ok (transact s.bus.mbZ80 s r))
    (hb : (r.write s.bus.mbZ80.value s).bus.mbZ80 = s.bus.mbZ80) :
    serviceZ80 s = .next ((r.write s.bus.mbZ80.value s).mapBus fun b => { b with mbZ80 := { b.mbZ80 with op := .none } }) := by
  rw [transact_write r ho] at h
  rw [serviceZ80_ok hd (by obtain ho | ho := ho <;> rw [ho] <;> decide) h]
  exact congrArg _ (mapBus_congr (congrArg (fun m => ({ (r.write s.bus.mbZ80.value s).bus with mbZ80 := m } : Bus))
    (answer_write (by rw [hb]; exact ho))))

theorem serviceZ80_read (hd : s.dead .z80 = none) (ho : s.bus.mbZ80.op = .memRead ∨ s.bus.mbZ80.op = .portRead)
    (hq : s.bus.mbZ80.rmw = false) (h : ownerAccessZ80 s s.bus.mbZ80 = .ok (transact s.bus.mbZ80 s r))
    (hb : r.read.2.bus.mbZ80 = s.bus.mbZ80) :
    serviceZ80 s = .next (r.read.2.mapBus fun b => { b with mbZ80 := { b.mbZ80 with op := .none, value := r.read.1 } }) := by
  rw [transact_read r ho hq] at h
  rw [serviceZ80_ok hd (by obtain ho | ho := ho <;> rw [ho] <;> decide) h]
  exact congrArg _ (mapBus_congr (congrArg (fun m => ({ r.read.2.bus with mbZ80 := m } : Bus)) (answer_read (hb ▸ ho))))

end Service

/-! ### Places -/

/-- A byte access has the place of its address. -/
theorem places68k_byte {l : Launch} {a : Addr24} {p : Place} (h : place68k l a = some p) : places68k l a .b = some [p] := by
  simp [places68k, bytes68k, Size.bytes, h]

theorem places68k_word {l : Launch} {a : Addr24} {p q : Place} (hp : place68k l a = some p) (hq : place68k l (a + 1#24) = some q) :
    places68k l a .w = some [p, q] := by
  simp [places68k, bytes68k, Size.bytes, List.range_succ, hp, hq]

theorem mapM_eq_replicate {α β : Type} {f : α → Option β} {b : β} {l : List α} (h : ∀ a ∈ l, f a = some b) :
    l.mapM f = some (List.replicate l.length b) := by
  induction l with
  | nil => rfl
  | cons a l ih =>
    rw [List.mapM_cons, h a (by simp), ih fun c hc => h c (by simp [hc])]
    rfl

theorem bytes68k_length (a : Addr24) (sz : Size) : (bytes68k a sz).length = sz.bytes := by simp [bytes68k]

/-- The places of an access whose bytes all stand on devices. -/
theorem places68k_device {l : Launch} {a : Addr24} {sz : Size} (h : ∀ b ∈ bytes68k a sz, place68k l b = some .device) :
    places68k l a sz = some (List.replicate sz.bytes .device) := by
  rw [places68k, mapM_eq_replicate h, bytes68k_length]
  cases sz <;> rfl

/-- Bytes in the order of a value of their size. -/
theorem exists_ofBigEndian {sz : Size} {bs : List Byte} (h : bs.length = sz.bytes) :
    ∃ w : BitVec sz.bits, ofBigEndian bs = w.setWidth 32 := by
  cases sz with
  | b =>
    obtain ⟨a, rfl⟩ := List.length_eq_one_iff.1 h
    exact ⟨a, rfl⟩
  | w =>
    obtain ⟨a, b, rfl⟩ := List.length_eq_two.1 h
    exact ⟨a ++ b, rfl⟩
  | l =>
    match bs, h with
    | [a, b, c, d], _ => exact ⟨a ++ b ++ c ++ d, (BitVec.setWidth_eq _).symm⟩

/-- Places that hold none of the block's memory read as the oracle's bytes (20 R131). -/
theorem readPlaces_free (ps : List Place) (h : ∀ p ∈ ps, p.isMemory = false) (s : State) : ∃ bs : List Byte,
    bs.length = ps.length ∧ s.readPlaces ps = (bs, s.mapBus fun b => { b with draws := b.draws + ps.length }) := by
  induction ps generalizing s with
  | nil => exact ⟨[], rfl, rfl⟩
  | cons p r ih =>
    have hp := h p (by simp)
    have first : s.readPlace p = s.drawByte := by cases p <;> first | rfl | cases hp
    obtain ⟨bs, hl, hr⟩ := ih (fun q hq => h q (by simp [hq])) s.drawByte.2
    refine ⟨s.drawByte.1 :: bs, by simp [hl], ?_⟩
    rw [State.readPlaces, first, hr]
    simp only [State.drawByte, mapBus_mapBus, List.length_cons, Nat.add_assoc, Nat.add_comm 1]

theorem plainRead_free {ps : List Place} {sz : Size} (h : ∀ p ∈ ps, p.isMemory = false) (hl : ps.length = sz.bytes) (s : State) :
    ∃ w : BitVec sz.bits, s.plainRead ps = (w.setWidth 32, s.mapBus fun b => { b with draws := b.draws + sz.bytes }) := by
  obtain ⟨bs, hbs, hr⟩ := readPlaces_free ps h s
  obtain ⟨w, hw⟩ := exists_ofBigEndian (hbs.trans hl)
  exact ⟨w, by rw [State.plainRead, hr, ← hl]; exact Prod.ext hw rfl⟩

theorem writePlaces_nothing (ps : List Place) (h : ∀ p ∈ ps, p.writesNothing = true) (s : State) (bs : List Byte) :
    s.writePlaces ps bs = s := by
  induction ps generalizing bs with
  | nil => cases bs <;> rfl
  | cons p r ih =>
    cases bs with
    | nil => rfl
    | cons b bs =>
      have hp := h p (by simp)
      have first : s.writePlace b p = s := by cases p <;> first | rfl | cases hp
      rw [State.writePlaces, first]
      exact ih (fun q hq => h q (by simp [hq])) bs

/-- A write that no memory keeps is recorded (20 R131, R132). -/
theorem plainWrite_nothing {p : Place} {ps : List Place} (h : ∀ q ∈ p :: ps, q.writesNothing = true) (s : State) (a : Addr24)
    (sz : Size) (v : Long) : s.plainWrite a sz v (p :: ps) = s.record (.write68k a sz v) := by
  rw [State.plainWrite, writePlaces_nothing _ h]
  exact if_pos (by simp [h p (by simp)])

/-! ### The control registers (60 R750, R752) -/

theorem add_one_ne (a : Addr24) : a + 1#24 ≠ a := by bv_omega

theorem place_busReq (l : Launch) : place68k l l.busReqAddr = some (.busReq true) := if_pos rfl

theorem place_busReq_second (l : Launch) : place68k l (l.busReqAddr + 1#24) = some (.busReq false) := by
  rw [place68k, if_neg (add_one_ne _), if_pos rfl]

theorem place_z80Reset {l : Launch} (h : l.registersApart) : place68k l l.z80ResetAddr = some (.z80Reset true) := by
  rw [place68k, if_neg h.1, if_neg h.2.1, if_pos rfl]

theorem place_z80Reset_second {l : Launch} (h : l.registersApart) :
    place68k l (l.z80ResetAddr + 1#24) = some (.z80Reset false) := by
  obtain ⟨h1, h2, h3⟩ := h
  rw [place68k, if_neg h3, if_neg (fun e => h1 (by bv_omega)), if_neg (add_one_ne _), if_pos rfl]

/-- Whatever the launch says, a register's first address is a control register's. -/
theorem place_isControl {l : Launch} {a : Addr24} (h : a = l.busReqAddr ∨ a = l.z80ResetAddr) :
    ∃ p, place68k l a = some p ∧ p.isControl = true := by
  rw [place68k]
  split_ifs with h1 h2 h3 h4
  · exact ⟨_, rfl, rfl⟩
  · exact ⟨_, rfl, rfl⟩
  · exact ⟨_, rfl, rfl⟩
  · exact ⟨_, rfl, rfl⟩
  · exact absurd h (by simp [h1, h3])

/-- The bit that carries a register's state, set in a value of `n` bits. -/
def setBit {n : Nat} (v : BitVec n) (k : Nat) (b : Bool) : BitVec n :=
  if b then v ||| (1#n <<< k) else v &&& ~~~(1#n <<< k)

theorem setBit_getLsbD {n : Nat} (v : BitVec n) {k : Nat} (b : Bool) (h : k < n) : (setBit v k b).getLsbD k = b := by
  cases b <;> simp [setBit, h]

theorem withBit_setWidth {n : Nat} (v : BitVec n) {k : Nat} (b : Bool) (h : k < n) (hn : n ≤ 32) :
    withBit (v.setWidth 32) k b = (setBit v k b).setWidth 32 := by
  have hk : k < 32 := h.trans_le hn
  have bit : (1#n <<< k).setWidth 32 = 1#32 <<< k := by
    rw [← BitVec.twoPow_eq, ← BitVec.twoPow_eq]
    apply BitVec.eq_of_toNat_eq
    rw [BitVec.toNat_setWidth, BitVec.toNat_twoPow_of_lt h, BitVec.toNat_twoPow_of_lt hk]
    exact Nat.mod_eq_of_lt (Nat.pow_lt_pow_right (by decide) hk)
  cases b with
  | true => rw [withBit, setBit, if_pos rfl, if_pos rfl, BitVec.setWidth_or, bit]
  | false =>
    rw [withBit, setBit, if_neg (by decide), if_neg (by decide), ← bit]
    apply BitVec.eq_of_getLsbD_eq
    intro i hi
    by_cases hn' : i < n
    · simp [hi, hn']
    · simp [BitVec.getLsbD_of_ge v i (Nat.le_of_not_lt hn')]

/-! ### Accesses to the control registers -/

theorem isMemory_of_isZram {p : Place} (h : p.isZram = true) : p.isMemory = true := by
  cases p with
  | zram off => rfl
  | _ => cases h

theorem zramFault_none {ps : List Place} {sz : Size} (h : ∀ p ∈ ps, p.isMemory = false) : s.zramFault ps sz = none := by
  rw [State.zramFault, if_neg]
  rw [List.any_eq_true]
  rintro ⟨p, hp, hz⟩
  exact ne_true_of_eq_false (h p hp) (isMemory_of_isZram hz)

theorem ownerAccess68k_busReq {m : Mailbox 24} {first : Bool} {ps : List Place}
    (hp : places68k s.launch m.addr m.len = some (.busReq first :: ps)) (hm : ∀ p ∈ Place.busReq first :: ps, p.isMemory = false) :
    ownerAccess68k s m = .ok (transact m s (busReqAccess s m.addr m.len (.busReq first :: ps) first)) := by
  simp only [ownerAccess68k, hp, zramFault_none hm, List.head?_cons]

theorem ownerAccess68k_z80Reset {m : Mailbox 24} {first : Bool} {ps : List Place}
    (hp : places68k s.launch m.addr m.len = some (.z80Reset first :: ps))
    (hm : ∀ p ∈ Place.z80Reset first :: ps, p.isMemory = false) :
    ownerAccess68k s m = .ok (transact m s (z80ResetAccess s m.addr m.len (.z80Reset first :: ps) first)) := by
  simp only [ownerAccess68k, hp, zramFault_none hm, List.head?_cons]

/-- A word, or a byte at the first address, of the bus-request register: its places, and the bit that carries its state. -/
theorem places_busReq {sz : Size} {k : Nat} (l : Launch) (h : (sz = .w ∧ k = 8) ∨ (sz = .b ∧ k = 0)) : ∃ ps,
    places68k l l.busReqAddr sz = some (.busReq true :: ps) ∧ (∀ p ∈ Place.busReq true :: ps, p.isMemory = false) ∧
    (Place.busReq true :: ps).length = sz.bytes ∧ controlBit sz = k ∧ k < sz.bits := by
  obtain ⟨rfl, rfl⟩ | ⟨rfl, rfl⟩ := h
  · exact ⟨_, places68k_word (place_busReq l) (place_busReq_second l), by simp [Place.isMemory], rfl, rfl, by decide⟩
  · exact ⟨_, places68k_byte (place_busReq l), by simp [Place.isMemory], rfl, rfl, by decide⟩

theorem places_z80Reset {sz : Size} {k : Nat} {l : Launch} (hl : l.registersApart) (h : (sz = .w ∧ k = 8) ∨ (sz = .b ∧ k = 0)) :
    ∃ ps, places68k l l.z80ResetAddr sz = some (.z80Reset true :: ps) ∧
    (∀ p ∈ Place.z80Reset true :: ps, p.isMemory = false) ∧ (Place.z80Reset true :: ps).length = sz.bytes ∧ controlBit sz = k ∧
    k < sz.bits := by
  obtain ⟨rfl, rfl⟩ | ⟨rfl, rfl⟩ := h
  · exact ⟨_, places68k_word (place_z80Reset hl) (place_z80Reset_second hl), by simp [Place.isMemory], rfl, rfl, by decide⟩
  · exact ⟨_, places68k_byte (place_z80Reset hl), by simp [Place.isMemory], rfl, rfl, by decide⟩

theorem bits_le (sz : Size) : sz.bits ≤ 32 := by cases sz <;> decide

/-- What a read of the bus-request register shows: the bit of its state, and the oracle's bits. -/
theorem busReqAccess_read {sz : Size} {ps : List Place} (a : Addr24) (hm : ∀ p ∈ ps, p.isMemory = false)
    (hl : ps.length = sz.bytes) (hk : controlBit sz < sz.bits) (s : State) : ∃ w : BitVec sz.bits,
    w.getLsbD (controlBit sz) = !s.bus.busAck ∧
    (busReqAccess s a sz ps true).read = (w.setWidth 32, s.mapBus fun b => { b with draws := b.draws + sz.bytes }) := by
  obtain ⟨v, hv⟩ := plainRead_free hm hl s
  refine ⟨setBit v (controlBit sz) (!s.bus.busAck), setBit_getLsbD _ _ hk, ?_⟩
  rw [← withBit_setWidth v _ hk (bits_le sz)]
  simp only [busReqAccess, if_true, hv]

theorem byte_or_tas (w : Byte) : w.setWidth 32 ||| 0x80#32 = (w ||| 0x80#8).setWidth 32 := by
  rw [BitVec.setWidth_or]
  rfl

/-- A TAS keeps the bit of a control register. -/
theorem bit_of_tas (w : Byte) : (w.setWidth 32 ||| 0x80#32).getLsbD (controlBit .b) = w.getLsbD (controlBit .b) := by
  simp [controlBit]

/-- The bank register takes its bit as 60 R753 writes it. -/
theorem shiftBank_eq (bank : BitVec 9) (v : Long) : shiftBank bank v = (bank >>> 1) ||| ((v.setWidth 9 &&& 1#9) <<< 8) := by
  apply BitVec.eq_of_getLsbD_eq
  intro i hi
  rw [shiftBank, show ∀ (x : BitVec 1) (y : BitVec 8), (x ++ y : BitVec 9).getLsbD i =
    if i < 8 then y.getLsbD i else x.getLsbD (i - 8) from fun x y => BitVec.getLsbD_append]
  interval_cases i <;> simp

/-- A long access to a control register goes nowhere (60 R750, R752). -/
theorem route68k_control_long {l : Launch} {a : Long} (h : a.setWidth 24 = l.busReqAddr ∨ a.setWidth 24 = l.z80ResetAddr) :
    route68k l (a.setWidth 24) .l = .nowhere := by
  obtain ⟨p, hp, hc⟩ := place_isControl h
  have none : places68k l (a.setWidth 24) .l = none := by
    rw [places68k, Option.filter_eq_none_iff]
    intro ps hps
    rw [bytes68k_long, List.mapM_cons, hp] at hps
    obtain ⟨q, hq, hps⟩ := Option.bind_eq_some_iff.1 hps
    obtain ⟨qs, -, hqs⟩ := Option.bind_eq_some_iff.1 hps
    cases hq
    cases hqs
    simp [hc]
  rw [route68k, none]

theorem busReqAccess_write (s t : State) (a : Addr24) (sz : Size) (ps : List Place) (v : Long) :
    (busReqAccess s a sz ps true).write v t = t.mapBus fun b => { b with busReq := v.getLsbD (controlBit sz) } := rfl

theorem z80ResetAccess_write (s t : State) (a : Addr24) (sz : Size) (ps : List Place) (v : Long) :
    (z80ResetAccess s a sz ps true).write v t = t.mapBus fun b =>
      { b with z80ResetHeld := !v.getLsbD (controlBit sz), z80ResetPulse := b.z80ResetPulse || !v.getLsbD (controlBit sz) } := by
  rw [z80ResetAccess, if_pos rfl]
  dsimp only
  refine mapBus_congr ?_
  cases v.getLsbD (controlBit sz) with
  | true => rw [if_pos rfl, Bool.not_true, Bool.or_false]
  | false => rw [if_neg (by decide), Bool.not_false, Bool.or_true]

/-! ### Rows that keep nothing -/

theorem writesNothing_of_free {p : Place} (h : p.isMemory = false) : p.writesNothing = true := by
  cases p <;> first | rfl | cases h

section FreeRow

variable {a : Addr24} {sz : Size} {p : Place} {ps : List Place} {v : Long}

theorem service68k_free_write (hd : s.dead .m68k = none) (ho : s.bus.mb68k.op = .memWrite) (hv : s.bus.mb68k.value = v)
    (hm : ∀ q ∈ p :: ps, q.isMemory = false)
    (h : ownerAccess68k s s.bus.mb68k = .ok (transact s.bus.mb68k s (plainAccess s a sz (p :: ps)))) :
    service68k s = .next ((s.record (.write68k a sz v)).mapBus fun b => { b with mb68k := { b.mb68k with op := .none } }) := by
  have written : (plainAccess s a sz (p :: ps)).write s.bus.mb68k.value s = s.record (.write68k a sz v) :=
    hv ▸ plainWrite_nothing (fun q hq => writesNothing_of_free (hm q hq)) s a sz _
  rw [service68k_write hd ho h (written ▸ rfl), written]

theorem service68k_free_read (hd : s.dead .m68k = none) (ho : s.bus.mb68k.op = .memRead) (hq : s.bus.mb68k.rmw = false)
    (hm : ∀ q ∈ p :: ps, q.isMemory = false) (hl : (p :: ps).length = sz.bytes)
    (h : ownerAccess68k s s.bus.mb68k = .ok (transact s.bus.mb68k s (plainAccess s a sz (p :: ps)))) :
    ∃ w : BitVec sz.bits, service68k s = .next (s.mapBus fun b =>
      { b with draws := b.draws + sz.bytes, mb68k := { b.mb68k with op := .none, value := w.setWidth 32 } }) := by
  obtain ⟨w, hw⟩ := plainRead_free hm hl s
  have read : (plainAccess s a sz (p :: ps)).read = _ := hw
  refine ⟨w, ?_⟩
  rw [service68k_read hd ho hq h (read ▸ rfl), read]
  rfl

theorem service68k_free_tas (hd : s.dead .m68k = none) (ho : s.bus.mb68k.op = .memRead) (hq : s.bus.mb68k.rmw = true)
    (hm : p.isMemory = false)
    (h : ownerAccess68k s s.bus.mb68k = .ok (transact s.bus.mb68k s (plainAccess s a .b [p]))) :
    ∃ w : Byte, service68k s = .next ((s.record (.write68k a .b ((w ||| 0x80#8).setWidth 32))).mapBus fun b =>
      { b with draws := b.draws + 1, mb68k := { b.mb68k with op := .none, value := w.setWidth 32 } }) := by
  have free : ∀ q ∈ [p], q.isMemory = false := by simpa using hm
  obtain ⟨w, hw⟩ := plainRead_free (sz := .b) free rfl s
  have read : (plainAccess s a .b [p]).read = (w.setWidth 32, s.mapBus fun b => { b with draws := b.draws + 1 }) := hw
  have written (t : State) (v : Long) : (plainAccess s a .b [p]).write v t = t.record (.write68k a .b v) :=
    plainWrite_nothing (fun q hq => writesNothing_of_free (free q hq)) t a .b v
  refine ⟨w, ?_⟩
  rw [service68k_tas hd ho hq h (by rw [written, read]; rfl), written, read, byte_or_tas]
  rfl

end FreeRow

/-- A byte at the second address of a control register is read and written like a device (60 R750, R752). -/
theorem ownerAccess68k_second {a : Addr24} (hl : s.launch.registersApart)
    (ha : a = s.launch.busReqAddr + 1#24 ∨ a = s.launch.z80ResetAddr + 1#24) : ∃ p : Place, p.isMemory = false ∧
    ∀ m : Mailbox 24, m.addr = a → m.len = .b → ownerAccess68k s m = .ok (transact m s (plainAccess s a .b [p])) := by
  obtain rfl | rfl := ha
  · refine ⟨.busReq false, rfl, fun m ha hb => ?_⟩
    have h := ownerAccess68k_busReq (s := s) (m := m) (first := false) (ps := [])
      (by rw [ha, hb]; exact places68k_byte (place_busReq_second _)) (by simp [Place.isMemory])
    rw [h, ha, hb]
    rfl
  · refine ⟨.z80Reset false, rfl, fun m ha hb => ?_⟩
    have h := ownerAccess68k_z80Reset (s := s) (m := m) (first := false) (ps := [])
      (by rw [ha, hb]; exact places68k_byte (place_z80Reset_second hl)) (by simp [Place.isMemory])
    rw [h, ha, hb]
    rfl

theorem perform68k_nowhere {k : Access} {a : Addr24} {sz : Size} {v : Long} {c : Ctx} (h : route68k c.st.launch a sz = .nowhere) :
    perform68k k a sz v c = .error (.fault .unmapped) c := by
  rw [perform68k, h]

theorem ownerAccessZ80_memory {m : Mailbox 16} {p : PlaceZ80} (ho : m.op = .memRead ∨ m.op = .memWrite)
    (hp : placeZ80 s.launch m.addr = some p) : ownerAccessZ80 s m = (accessAtZ80 s m.addr p).map (transact m s) := by
  rw [ownerAccessZ80]
  obtain ho | ho := ho <;> rw [ho] <;> dsimp only <;> rw [hp]

/-- Settles O54: the rows of the control registers, and the bank register. -/
theorem controlRegistersServed : Obligations.ControlRegistersServed := by
  refine ⟨fun s v l sz k hd hk hl => ⟨fun hm => ?_, fun hm => ?_, fun hm => ?_, fun hm => ?_⟩, fun s v l a hd hl ha => ?_,
    fun s v l hd hl => ⟨fun hm => ?_, fun hm => ?_⟩, fun c a v ht ho ha => ⟨route68k_control_long ha, ?_, ?_⟩,
    fun s v l a hd hp => ⟨fun hm => ?_, fun hm => ?_⟩⟩
  · obtain ⟨ps, hp, hn, -, rfl, -⟩ := places_busReq s.launch hk
    rw [service68k_write hd (by rw [hm]) (ownerAccess68k_busReq (by rw [hm]; exact hp) hn) rfl, hm]
    rfl
  · obtain ⟨ps, hp, hn, -, rfl, -⟩ := places_z80Reset hl hk
    rw [service68k_write hd (by rw [hm]) (ownerAccess68k_z80Reset (by rw [hm]; exact hp) hn)
      (by rw [z80ResetAccess_write]; rfl), z80ResetAccess_write, hm]
    rfl
  · obtain ⟨ps, hp, hn, hlen, rfl, hbit⟩ := places_busReq s.launch hk
    obtain ⟨w, hw, hr⟩ := busReqAccess_read s.launch.busReqAddr hn hlen hbit s
    refine ⟨w, hw, ?_⟩
    rw [service68k_read (r := busReqAccess s s.launch.busReqAddr sz (.busReq true :: ps) true) hd (by rw [hm]) (by rw [hm])
      (by rw [hm]; exact ownerAccess68k_busReq hp hn) (by rw [hr]; rfl), hr]
    rfl
  · obtain ⟨ps, hp, hn, hlen, -, -⟩ := places_z80Reset hl hk
    obtain ⟨w, hw⟩ := plainRead_free hn hlen s
    have hr : (z80ResetAccess s s.launch.z80ResetAddr sz (.z80Reset true :: ps) true).read = _ := hw
    refine ⟨w, ?_⟩
    rw [service68k_read (r := z80ResetAccess s s.launch.z80ResetAddr sz (.z80Reset true :: ps) true) hd (by rw [hm]) (by rw [hm])
      (by rw [hm]; exact ownerAccess68k_z80Reset hp hn) (by rw [hr]; rfl), hr]
    rfl
  · obtain ⟨p, hn, h⟩ := ownerAccess68k_second hl ha
    refine ⟨fun hm => ?_, fun hm => ?_, fun hm => ?_⟩
    · exact service68k_free_write hd (by rw [hm]) (by rw [hm]) (by simpa using hn) (h _ (by rw [hm]) (by rw [hm]))
    · exact service68k_free_read (sz := .b) hd (by rw [hm]) (by rw [hm]) (by simpa using hn) rfl (h _ (by rw [hm]) (by rw [hm]))
    · exact service68k_free_tas hd (by rw [hm]) (by rw [hm]) hn (h _ (by rw [hm]) (by rw [hm]))
  · obtain ⟨ps, hp, hn, hlen, hbit, hlt⟩ := places_busReq (sz := .b) s.launch (.inr ⟨rfl, rfl⟩)
    obtain ⟨w, hw, hr⟩ := busReqAccess_read s.launch.busReqAddr hn hlen (by decide) s
    refine ⟨w, hw, ?_⟩
    rw [service68k_tas (r := busReqAccess s s.launch.busReqAddr .b (.busReq true :: ps) true) hd (by rw [hm]) (by rw [hm])
      (by rw [hm]; exact ownerAccess68k_busReq hp hn) (by rw [hr]; rfl), hr]
    have ack : (w.setWidth 32 ||| 0x80#32).getLsbD (controlBit .b) = !s.bus.busAck := (bit_of_tas w).trans hw
    rw [busReqAccess_write]
    dsimp only
    rw [ack]
    rfl
  · obtain ⟨ps, hp, hn, hlen, -, -⟩ := places_z80Reset (sz := .b) hl (.inr ⟨rfl, rfl⟩)
    obtain ⟨w, hw⟩ := plainRead_free (sz := .b) hn hlen s
    have hr : (z80ResetAccess s s.launch.z80ResetAddr .b (.z80Reset true :: ps) true).read = _ := hw
    refine ⟨w, ?_⟩
    rw [service68k_tas (r := z80ResetAccess s s.launch.z80ResetAddr .b (.z80Reset true :: ps) true) hd (by rw [hm]) (by rw [hm])
      (by rw [hm]; exact ownerAccess68k_z80Reset hp hn) (by rw [z80ResetAccess_write, hr]; rfl), z80ResetAccess_write, hr]
    dsimp only
    rw [bit_of_tas]
    rfl
  · exact load68k_error ho (access68k_stops ht (perform68k_nowhere (route68k_control_long ha)))
  · exact store68k_error ho (access68k_stops ht (perform68k_nowhere (route68k_control_long ha)))
  · have h : ownerAccessZ80 s s.bus.mbZ80 = .ok (transact s.bus.mbZ80 s
        (oracleAccess s fun v t => t.mapBus fun b => { b with bank := shiftBank b.bank v })) :=
      (ownerAccessZ80_memory (.inr (by rw [hm])) (by rw [hm]; exact hp)).trans rfl
    rw [serviceZ80_write hd (.inl (by rw [hm])) h rfl, hm]
    refine congrArg Host.Outcome.next (mapBus_congr (s := s)
      (f := fun b => { b with bank := shiftBank b.bank v, mbZ80 := { b.mbZ80 with op := .none } }) ?_)
    rw [← shiftBank_eq]
  · have h : ownerAccessZ80 s s.bus.mbZ80 = .ok (transact s.bus.mbZ80 s
        (oracleAccess s fun v t => t.mapBus fun b => { b with bank := shiftBank b.bank v })) :=
      (ownerAccessZ80_memory (.inl (by rw [hm])) (by rw [hm]; exact hp)).trans rfl
    exact ⟨_, serviceZ80_read hd (.inl (by rw [hm])) (by rw [hm]) h rfl⟩

end Sys2Proof.Laws
end

section
/-! ZRAM under the grant, devices, ports and the bank window, served by OWNER (20 R131 to R137); accesses in no row, and the default
map (20 R133). -/

namespace Sys2Proof.Laws

open Sys2Proof.Machine

variable {s t : State}

/-! ### ZRAM -/

theorem setWidth_eq_low (v : Long) : v.extractLsb' 0 8 = v.setWidth 8 := by
  ext i hi
  simp

theorem low_setWidth (w : Byte) : (w.setWidth 32 : Long).extractLsb' 0 8 = w := by
  rw [setWidth_eq_low, BitVec.setWidth_setWidth_of_le _ (by decide), BitVec.setWidth_eq]

theorem mapM_of_forall {α β : Type} {f : α → Option β} {P : β → Prop} {l : List α} (h : ∀ a ∈ l, ∃ b, f a = some b ∧ P b) :
    ∃ bs, l.mapM f = some bs ∧ bs.length = l.length ∧ ∀ b ∈ bs, P b := by
  induction l with
  | nil => exact ⟨[], rfl, rfl, by simp⟩
  | cons a l ih =>
    obtain ⟨b, hb, hP⟩ := h a (by simp)
    obtain ⟨bs, hbs, hl, hall⟩ := ih fun c hc => h c (by simp [hc])
    refine ⟨b :: bs, ?_, by simp [hl], by simpa using ⟨hP, hall⟩⟩
    rw [List.mapM_cons, hb, hbs]
    rfl

theorem isControl_of_isZram {p : Place} (h : p.isZram = true) : p.isControl = false := by
  cases p <;> first | rfl | cases h

theorem places68k_zram {l : Launch} {a : Addr24} {sz : Size} (h : ∀ b ∈ bytes68k a sz, ∃ off, place68k l b = some (.zram off)) :
    ∃ ps, places68k l a sz = some ps ∧ ps.any Place.isZram = true := by
  have each : ∀ b ∈ bytes68k a sz, ∃ p, place68k l b = some p ∧ p.isZram = true := fun b hb =>
    let ⟨off, ho⟩ := h b hb
    ⟨_, ho, rfl⟩
  obtain ⟨ps, hps, hlen, hall⟩ := mapM_of_forall each
  refine ⟨ps, ?_, ?_⟩
  · rw [places68k, hps, Option.filter_some_pos]
    have : ps.any Place.isControl = false := by
      rw [List.any_eq_false]
      intro p hp
      simp [isControl_of_isZram (hall p hp)]
    simp [this]
  · rw [bytes68k_length] at hlen
    cases ps with
    | nil => cases sz <;> cases hlen
    | cons p ps => simp [hall p (by simp)]

theorem zramFault_contention {ps : List Place} {sz : Size} (hz : ps.any Place.isZram = true) (ha : s.bus.busAck = false)
    (hh : s.bus.z80ResetHeld = false) : s.zramFault ps sz = some .zramContention := by
  rw [State.zramFault, if_pos hz, ha, hh]
  rfl

theorem zramFault_width {ps : List Place} {sz : Size} (hz : ps.any Place.isZram = true)
    (ha : s.bus.busAck = true ∨ s.bus.z80ResetHeld = true) (hb : sz ≠ .b) : s.zramFault ps sz = some .zramWidth := by
  rw [State.zramFault, if_pos hz, if_neg (by obtain h | h := ha <;> simp [h]), if_pos hb]

theorem zramFault_granted {ps : List Place} (ha : s.bus.busAck = true ∨ s.bus.z80ResetHeld = true) : s.zramFault ps .b = none := by
  rw [State.zramFault]
  split
  · rw [if_neg (by obtain h | h := ha <;> simp [h]), if_neg (by decide)]
  · rfl

theorem ownerAccess68k_fault {m : Mailbox 24} {ps : List Place} {f : Fault} (hp : places68k s.launch m.addr m.len = some ps)
    (hz : s.zramFault ps m.len = some f) : ownerAccess68k s m = .error f := by
  simp only [ownerAccess68k, hp, hz]

/-- A row of no control register is memory or a device (20 R131, R132). -/
theorem ownerAccess68k_plain {m : Mailbox 24} {p : Place} {ps : List Place} (hp : places68k s.launch m.addr m.len = some (p :: ps))
    (hz : s.zramFault (p :: ps) m.len = none) (hc : p.isControl = false) :
    ownerAccess68k s m = .ok (transact m s (plainAccess s m.addr m.len (p :: ps))) := by
  simp only [ownerAccess68k, hp, hz, List.head?_cons]
  cases p <;> first | rfl | cases hc

theorem plainAccess_zram_write (a : Addr24) (off : Nat) (v : Long) (s t : State) :
    (plainAccess s a .b [.zram off]).write v t = { t with mem := t.mem.write (zramKey off) (v.extractLsb' 0 8) } := rfl

theorem plainAccess_wram_write (a : Addr24) (off : Nat) (v : Long) (s t : State) :
    (plainAccess s a .b [.wram off]).write v t = { t with mem := t.mem.write (wramKey off) (v.extractLsb' 0 8) } := rfl

theorem replicate_bytes (sz : Size) (p : Place) : List.replicate sz.bytes p = p :: List.replicate (sz.bytes - 1) p := by
  cases sz <;> rfl

/-! ### The bank window (20 R137) -/

section Window

variable {a : Word} {p : Place}

theorem windowAccess_plain (hp : place68k s.launch (windowAddress s.bus.bank a) = some p) (h : (p.isZram || p.isControl) = false) :
    windowAccess s a = .ok (plainAccess s (windowAddress s.bus.bank a) .b [p]) := by
  rw [windowAccess]
  rw [hp]
  cases p <;> first | rfl | cases h

theorem windowAccess_loop (hp : place68k s.launch (windowAddress s.bus.bank a) = some p) (h : (p.isZram || p.isControl) = true) :
    windowAccess s a = .error .bankLoop := by
  rw [windowAccess]
  rw [hp]
  cases p <;> first | rfl | cases h

theorem windowAccess_unmapped (hp : place68k s.launch (windowAddress s.bus.bank a) = none) :
    windowAccess s a = .error .unmapped := by
  rw [windowAccess]
  rw [hp]

end Window

/-- A read or a write in the window is one of the M68K view (20 R137). -/
theorem ownerAccessZ80_window {m : Mailbox 16} {p : Place} (ho : m.op = .memRead ∨ m.op = .memWrite)
    (hw : placeZ80 s.launch m.addr = some .window) (hp : place68k s.launch (windowAddress s.bus.bank m.addr) = some p)
    (h : (p.isZram || p.isControl) = false) :
    ownerAccessZ80 s m = .ok (transact m s (plainAccess s (windowAddress s.bus.bank m.addr) .b [p])) := by
  rw [ownerAccessZ80_memory ho hw, accessAtZ80, windowAccess_plain hp h]
  rfl

theorem ownerAccessZ80_window_fault {m : Mailbox 16} {f : Fault} (ho : m.op = .memRead ∨ m.op = .memWrite)
    (hw : placeZ80 s.launch m.addr = some .window) (h : windowAccess s m.addr = .error f) : ownerAccessZ80 s m = .error f := by
  rw [ownerAccessZ80_memory ho hw, accessAtZ80, h]
  rfl

theorem plainAccess_nothing_write {p : Place} (h : p.writesNothing = true) (a : Addr24) (v : Long) (s t : State) :
    (plainAccess s a .b [p]).write v t = t.record (.write68k a .b v) :=
  plainWrite_nothing (by simpa using h) t a .b v

/-- A byte of ROM past its image, or of a device, is one of the oracle's (20 R131, R132). -/
theorem plainAccess_free_read {p : Place} (h : (∃ off, p = .rom off ∧ s.launch.romLen ≤ off) ∨ p = .device) (a : Addr24) :
    (plainAccess s a .b [p]).read =
      ((Config.drawBus s.bus.draws).setWidth 32, s.mapBus fun b => { b with draws := b.draws + 1 }) := by
  obtain ⟨off, rfl, hlt⟩ | rfl := h
  · have free : s.readPlace (.rom off) = s.drawByte := if_neg (Nat.not_lt.2 hlt)
    simp only [plainAccess, State.plainRead, State.readPlaces, free]
    rfl
  · rfl

/-- Settles O55: the rows of ZRAM, of devices and ports, and the window. -/
theorem sharedMemoryServed : Obligations.SharedMemoryServed := by
  refine ⟨fun s sz a v l op q hd hop hp hm => ⟨fun ha hh => ?_, fun hg => ⟨fun hb => ?_, fun off hb hoff => ⟨fun ho => ?_, fun ho => ?_⟩⟩⟩,
    fun s sz a v l hd hp => ⟨fun hm => ?_, fun hm => ?_, fun hm hb => ?_⟩,
    fun s a v l op hd hm => ⟨fun h => ?_, fun ho hp => ?_, fun ho => ?_⟩,
    fun s a v l op hd hop hp hm => ⟨fun off ho => ⟨fun hr => ?_, fun hr => ?_⟩, fun off ho hlt hr => ?_,
      fun p hpl => ⟨fun h hr => ?_, fun h hr => ?_, fun h => ?_⟩, fun hn => ?_⟩⟩
  · obtain ⟨ps, hps, hz⟩ := places68k_zram hp
    refine service68k_fault hd (by rw [hm]; obtain rfl | rfl := hop <;> simp) (ownerAccess68k_fault (ps := ps) (by rw [hm]; exact hps) ?_)
    exact zramFault_contention hz ha hh
  · obtain ⟨ps, hps, hz⟩ := places68k_zram hp
    refine service68k_fault hd (by rw [hm]; obtain rfl | rfl := hop <;> simp) (ownerAccess68k_fault (ps := ps) (by rw [hm]; exact hps) ?_)
    exact zramFault_width hz hg (by rw [hm]; exact hb)
  · subst hb ho
    have h : ownerAccess68k s s.bus.mb68k = .ok (transact s.bus.mb68k s (plainAccess s a .b [.zram off])) := by
      rw [hm]
      exact ownerAccess68k_plain (places68k_byte hoff) (zramFault_granted hg) rfl
    cases q with
    | false => 
      rw [service68k_read hd (by rw [hm]) (by rw [hm]) h rfl]
      rfl
    | true =>
      rw [service68k_tas hd (by rw [hm]) (by rw [hm]) h rfl, plainAccess_zram_write]
      have set : ((plainAccess s a .b [.zram off]).read.1 ||| 0x80#32).extractLsb' 0 8 = s.mem.read (zramKey off) ||| 0x80#8 :=
        (congrArg (BitVec.extractLsb' 0 8) (byte_or_tas _)).trans (low_setWidth _)
      rw [set]
      rfl
  · subst hb ho
    have h : ownerAccess68k s s.bus.mb68k = .ok (transact s.bus.mb68k s (plainAccess s a .b [.zram off])) := by
      rw [hm]
      exact ownerAccess68k_plain (places68k_byte hoff) (zramFault_granted hg) rfl
    rw [service68k_write hd (by rw [hm]) h rfl, plainAccess_zram_write, setWidth_eq_low, hm]
  · have h : ownerAccess68k s s.bus.mb68k =
        .ok (transact s.bus.mb68k s (plainAccess s a sz (.device :: List.replicate (sz.bytes - 1) .device))) := by
      rw [hm]
      exact ownerAccess68k_plain (replicate_bytes sz _ ▸ places68k_device hp) (zramFault_none (by simp [Place.isMemory])) rfl
    exact service68k_free_read hd (by rw [hm]) (by rw [hm]) (by simp [Place.isMemory])
      (by rw [← replicate_bytes, List.length_replicate]) h
  · have h : ownerAccess68k s s.bus.mb68k =
        .ok (transact s.bus.mb68k s (plainAccess s a sz (.device :: List.replicate (sz.bytes - 1) .device))) := by
      rw [hm]
      exact ownerAccess68k_plain (replicate_bytes sz _ ▸ places68k_device hp) (zramFault_none (by simp [Place.isMemory])) rfl
    exact service68k_free_write hd (by rw [hm]) (by rw [hm]) (by simp [Place.isMemory]) h
  · subst hb
    have h : ownerAccess68k s s.bus.mb68k = .ok (transact s.bus.mb68k s (plainAccess s a .b [.device])) := by
      rw [hm]
      exact ownerAccess68k_plain (places68k_device hp) (zramFault_none (by simp [Place.isMemory])) rfl
    exact service68k_free_tas hd (by rw [hm]) (by rw [hm]) rfl h
  · obtain ⟨rfl, hp⟩ | rfl := h
    · have h : ownerAccessZ80 s s.bus.mbZ80 = .ok (transact s.bus.mbZ80 s
          (oracleAccess s fun v t => t.record (.writeZ80 s.bus.mbZ80.addr (v.setWidth 8)))) :=
        (ownerAccessZ80_memory (.inl (by rw [hm])) (by rw [hm]; exact hp)).trans rfl
      exact ⟨_, serviceZ80_read hd (.inl (by rw [hm])) (by rw [hm]) h rfl⟩
    · have h : ownerAccessZ80 s s.bus.mbZ80 = .ok (transact s.bus.mbZ80 s (portAccess s a)) := by
        rw [hm]
        rfl
      exact ⟨_, serviceZ80_read hd (.inr (by rw [hm])) (by rw [hm]) h rfl⟩
  · subst ho
    have h : ownerAccessZ80 s s.bus.mbZ80 = .ok (transact s.bus.mbZ80 s
        (oracleAccess s fun v t => t.record (.writeZ80 s.bus.mbZ80.addr (v.setWidth 8)))) :=
      (ownerAccessZ80_memory (.inr (by rw [hm])) (by rw [hm]; exact hp)).trans rfl
    rw [serviceZ80_write hd (.inl (by rw [hm])) h rfl, hm]
    rfl
  · subst ho
    have h : ownerAccessZ80 s s.bus.mbZ80 = .ok (transact s.bus.mbZ80 s (portAccess s a)) := by
      rw [hm]
      rfl
    rw [serviceZ80_write hd (.inr (by rw [hm])) h rfl, hm]
    rfl
  · subst hr
    have h := ownerAccessZ80_window (m := s.bus.mbZ80) (.inl (by rw [hm])) (by rw [hm]; exact hp) (by rw [hm]; exact ho) rfl
    rw [serviceZ80_read hd (.inl (by rw [hm])) (by rw [hm]) h rfl]
    rfl
  · subst hr
    have h := ownerAccessZ80_window (m := s.bus.mbZ80) (.inr (by rw [hm])) (by rw [hm]; exact hp) (by rw [hm]; exact ho) rfl
    rw [serviceZ80_write hd (.inl (by rw [hm])) h rfl, plainAccess_wram_write, setWidth_eq_low, hm]
  · subst hr
    have h := ownerAccessZ80_window (m := s.bus.mbZ80) (.inl (by rw [hm])) (by rw [hm]; exact hp) (by rw [hm]; exact ho) rfl
    have read : (plainAccess s (windowAddress s.bus.bank s.bus.mbZ80.addr) .b [.rom off]).read = ((s.mem.read off).setWidth 32, s) := by
      have kept : s.readPlace (.rom off) = (s.mem.read off, s) := if_pos hlt
      simp only [plainAccess, State.plainRead, State.readPlaces, kept]
      rfl
    rw [serviceZ80_read hd (.inl (by rw [hm])) (by rw [hm]) h (by rw [read]), read]
  · subst hr
    have plain : (p.isZram || p.isControl) = false := by obtain ⟨off, rfl, -⟩ | rfl := h <;> rfl
    have ha := ownerAccessZ80_window (m := s.bus.mbZ80) (.inl (by rw [hm])) (by rw [hm]; exact hp) (by rw [hm]; exact hpl) plain
    refine ⟨Config.drawBus s.bus.draws, ?_⟩
    rw [serviceZ80_read hd (.inl (by rw [hm])) (by rw [hm]) ha (by rw [plainAccess_free_read h]; rfl), plainAccess_free_read h]
    rfl
  · subst hr
    have plain : (p.isZram || p.isControl) = false := by obtain ⟨off, rfl⟩ | rfl := h <;> rfl
    have nothing : p.writesNothing = true := by obtain ⟨off, rfl⟩ | rfl := h <;> rfl
    have ha := ownerAccessZ80_window (m := s.bus.mbZ80) (.inr (by rw [hm])) (by rw [hm]; exact hp) (by rw [hm]; exact hpl) plain
    rw [serviceZ80_write hd (.inl (by rw [hm])) ha (by rw [plainAccess_nothing_write nothing]; rfl),
      plainAccess_nothing_write nothing, hm]
    rfl
  · have loop : (p.isZram || p.isControl) = true := by obtain ⟨off, rfl⟩ | ⟨f, rfl⟩ | ⟨f, rfl⟩ := h <;> rfl
    exact serviceZ80_fault hd (by rw [hm]; obtain rfl | rfl := hop <;> simp)
      (ownerAccessZ80_window_fault (by rw [hm]; exact hop) (by rw [hm]; exact hp) (windowAccess_loop (by rw [hm]; exact hpl) loop))
  · exact serviceZ80_fault hd (by rw [hm]; obtain rfl | rfl := hop <;> simp)
      (ownerAccessZ80_window_fault (by rw [hm]; exact hop) (by rw [hm]; exact hp) (windowAccess_unmapped (by rw [hm]; exact hn)))

end Sys2Proof.Laws
end

section
/-! Accesses in no row of a view, the default map, and the faults of rows that a processor reaches itself (20 R133, R136, R137). -/

namespace Sys2Proof.Laws

open Sys2Proof.Machine

variable {s t : State}

theorem mapM_eq_none {α β : Type} {f : α → Option β} {l : List α} (h : ∃ a ∈ l, f a = none) : l.mapM f = none := by
  induction l with
  | nil => simp at h
  | cons a l ih =>
    rw [List.mapM_cons]
    cases ha : f a with
    | none => rfl
    | some b =>
      obtain ⟨c, hc, hn⟩ := h
      have : c ∈ l := (List.mem_cons.1 hc).resolve_left fun e => by rw [e, ha] at hn; cases hn
      rw [ih ⟨c, this, hn⟩]
      rfl

theorem route68k_nowhere {l : Launch} {a : Addr24} {sz : Size} (h : ∃ b ∈ bytes68k a sz, place68k l b = none) :
    route68k l a sz = .nowhere := by
  rw [route68k, places68k, mapM_eq_none h]
  rfl

theorem perform68k_fault {k : Access} {a : Addr24} {sz : Size} {v : Long} {c : Ctx} {ps : List Place} {f : Fault}
    (hr : route68k c.st.launch a sz = .here ps) (hs : c.selfModifies k a sz = false) (hz : c.st.zramFault ps sz = some f) :
    perform68k k a sz v c = .error (.fault f) c := by
  rw [perform68k, hr]
  refine (if_neg (ne_true_of_eq_false hs)).trans ?_
  rw [hz]

theorem accessZ80_stops {x : Op Long} {c d : Ctx} {e : Stop} (ht : c.todo = []) (h : x c = .error e d) :
    Op.once x c = .error e d := by
  simp only [Op.once, ht, h]

theorem performZ80_unmapped {k : Access} {a : Word} {v : Byte} {c : Ctx} (h : placeZ80 c.st.launch a = none) :
    performZ80 k a v c = .error (.fault .unmapped) c := by
  rw [performZ80, h]

theorem performZ80_loop {k : Access} {a : Word} {v : Byte} {c : Ctx} {p : Place} (hw : placeZ80 c.st.launch a = some .window)
    (hl : c.st.launch.localZ80 a = true) (hp : place68k c.st.launch (windowAddress c.st.bus.bank a) = some p)
    (hz : (p.isZram || p.isControl) = true) : performZ80 k a v c = .error (.fault .bankLoop) c := by
  rw [performZ80, hw]
  refine (if_pos hl).trans ?_
  rw [accessAtZ80, windowAccess_loop hp hz]

/-! ### The default map -/

theorem find?_cons_if {α : Type} (p : α → Bool) (a : α) (l : List α) : (a :: l).find? p = if p a then some a else l.find? p := by
  rw [List.find?_cons]
  cases p a <;> rfl

theorem row68k_default {l : Launch} (h : l.map = PlatformMap.default) (a : Addr24) : l.row68k a =
    if a.toNat ≤ 0x3FFFFF then some ⟨0x000000, 0x3FFFFF, .rom, true, 0⟩
    else if a.toNat ≤ 0x9FFFFF then some ⟨0x400000, 0x9FFFFF, .device, false, 0⟩
    else if a.toNat ≤ 0xA01FFF then some ⟨0xA00000, 0xA01FFF, .zram, false, 0⟩
    else if a.toNat ≤ 0xA03FFF then some ⟨0xA02000, 0xA03FFF, .zram, false, 0⟩
    else if a.toNat ≤ 0xA0FFFF then some ⟨0xA04000, 0xA0FFFF, .device, false, 0⟩
    else if a.toNat ≤ 0xA1001F then some ⟨0xA10000, 0xA1001F, .device, false, 0⟩
    else if 0xA14000 ≤ a.toNat ∧ a.toNat ≤ 0xA14003 then some ⟨0xA14000, 0xA14003, .device, false, 0⟩
    else if 0xC00000 ≤ a.toNat ∧ a.toNat ≤ 0xC0001F then some ⟨0xC00000, 0xC0001F, .device, false, 0⟩
    else if 0xE00000 ≤ a.toNat then some ⟨0xE00000, 0xFFFFFF, .wram, true, 0⟩
    else none := by
  have := a.isLt
  rw [Launch.row68k, h, show PlatformMap.default.m68k = Machine.rows68k from rfl, Machine.rows68k]
  simp only [find?_cons_if, MapRow.has, Bool.and_eq_true, decide_eq_true_eq, List.find?_nil]
  refine ite_congr (propext (by omega)) (fun _ => rfl) fun _ => ?_
  refine ite_congr (propext (by omega)) (fun _ => rfl) fun _ => ?_
  refine ite_congr (propext (by omega)) (fun _ => rfl) fun _ => ?_
  refine ite_congr (propext (by omega)) (fun _ => rfl) fun _ => ?_
  refine ite_congr (propext (by omega)) (fun _ => rfl) fun _ => ?_
  refine ite_congr (propext (by omega)) (fun _ => rfl) fun _ => ?_
  refine ite_congr (propext (by omega)) (fun _ => rfl) fun _ => ?_
  refine ite_congr (propext (by omega)) (fun _ => rfl) fun _ => ?_
  refine ite_congr (propext (by omega)) (fun _ => rfl) fun _ => ?_
  rfl

theorem rowZ80_default {l : Launch} (h : l.map = PlatformMap.default) (a : Word) : l.rowZ80 a =
    if a.toNat ≤ 0x1FFF then some ⟨0x0000, 0x1FFF, .zram, true, 0⟩
    else if a.toNat ≤ 0x3FFF then some ⟨0x2000, 0x3FFF, .zram, true, 0⟩
    else if a.toNat ≤ 0x5FFF then some ⟨0x4000, 0x5FFF, .device, false, 0⟩
    else if a.toNat ≤ 0x60FF then some ⟨0x6000, 0x60FF, .bank, false, 0⟩
    else if 0x7F00 ≤ a.toNat ∧ a.toNat ≤ 0x7F1F then some ⟨0x7F00, 0x7F1F, .device, false, 0⟩
    else if 0x8000 ≤ a.toNat then some ⟨0x8000, 0xFFFF, .window, false, 0⟩
    else none := by
  have := a.isLt
  rw [Launch.rowZ80, h, show PlatformMap.default.z80 = Machine.rowsZ80 from rfl, Machine.rowsZ80]
  simp only [find?_cons_if, MapRow.has, Bool.and_eq_true, decide_eq_true_eq, List.find?_nil]
  refine ite_congr (propext (by omega)) (fun _ => rfl) fun _ => ?_
  refine ite_congr (propext (by omega)) (fun _ => rfl) fun _ => ?_
  refine ite_congr (propext (by omega)) (fun _ => rfl) fun _ => ?_
  refine ite_congr (propext (by omega)) (fun _ => rfl) fun _ => ?_
  refine ite_congr (propext (by omega)) (fun _ => rfl) fun _ => ?_
  refine ite_congr (propext (by omega)) (fun _ => rfl) fun _ => ?_
  rfl

/-- Where an address of the default M68K view stands. -/
theorem intervals68k (a : Addr24) : a.toNat ≤ 0x3FFFFF ∨ (0x400000 ≤ a.toNat ∧ a.toNat ≤ 0x9FFFFF) ∨
    (0xA00000 ≤ a.toNat ∧ a.toNat ≤ 0xA01FFF) ∨ (0xA02000 ≤ a.toNat ∧ a.toNat ≤ 0xA03FFF) ∨
    (0xA04000 ≤ a.toNat ∧ a.toNat ≤ 0xA0FFFF) ∨ (0xA10000 ≤ a.toNat ∧ a.toNat ≤ 0xA1001F) ∨
    (0xA10020 ≤ a.toNat ∧ a.toNat ≤ 0xA110FF) ∨ a.toNat = 0xA11100 ∨ a.toNat = 0xA11101 ∨
    (0xA11102 ≤ a.toNat ∧ a.toNat ≤ 0xA111FF) ∨ a.toNat = 0xA11200 ∨ a.toNat = 0xA11201 ∨
    (0xA11202 ≤ a.toNat ∧ a.toNat ≤ 0xA13FFF) ∨ (0xA14000 ≤ a.toNat ∧ a.toNat ≤ 0xA14003) ∨
    (0xA14004 ≤ a.toNat ∧ a.toNat ≤ 0xBFFFFF) ∨ (0xC00000 ≤ a.toNat ∧ a.toNat ≤ 0xC0001F) ∨
    (0xC00020 ≤ a.toNat ∧ a.toNat ≤ 0xDFFFFF) ∨ 0xE00000 ≤ a.toNat := by omega

section Default

variable {l : Launch} (hl : l.map = PlatformMap.default) (hb : l.busReqAddr = 0xA11100) (hr : l.z80ResetAddr = 0xA11200)

include hl hb hr

theorem place68k_default (a : Addr24) : place68k l a =
    if a.toNat ≤ 0x3FFFFF then some (.rom a.toNat)
    else if a.toNat ≤ 0x9FFFFF then some .device
    else if a.toNat ≤ 0xA03FFF then some (.zram ((a.toNat - 0xA00000) % 0x2000))
    else if a.toNat ≤ 0xA1001F then some .device
    else if a.toNat = 0xA11100 then some (.busReq true)
    else if a.toNat = 0xA11101 then some (.busReq false)
    else if a.toNat = 0xA11200 then some (.z80Reset true)
    else if a.toNat = 0xA11201 then some (.z80Reset false)
    else if 0xA14000 ≤ a.toNat ∧ a.toNat ≤ 0xA14003 then some .device
    else if 0xC00000 ≤ a.toNat ∧ a.toNat ≤ 0xC0001F then some .device
    else if 0xE00000 ≤ a.toNat then some (.wram (a.toNat % 0x10000))
    else none := by
  have := a.isLt
  have r1 : a = (0xA11100 : Addr24) ↔ a.toNat = 0xA11100 := by bv_omega
  have r2 : a = (0xA11100 : Addr24) + 1#24 ↔ a.toNat = 0xA11101 := by bv_omega
  have r3 : a = (0xA11200 : Addr24) ↔ a.toNat = 0xA11200 := by bv_omega
  have r4 : a = (0xA11200 : Addr24) + 1#24 ↔ a.toNat = 0xA11201 := by bv_omega
  rw [place68k, hb, hr, if_congr r1 rfl (if_congr r2 rfl (if_congr r3 rfl (if_congr r4 rfl rfl))), row68k_default hl, hl]
  have z : PlatformMap.default.zramSize = 0x2000 := rfl
  have w : PlatformMap.default.wramSize = 0x10000 := rfl
  obtain h | h | h | h | h | h | h | h | h | h | h | h | h | h | h | h | h | h := intervals68k a <;>
    simp (disch := omega) only [if_pos, if_neg, Option.map_some, Option.map_none, MapRow.place68k, MapRow.offset, z, w, Nat.zero_add,
      Nat.sub_zero]
  · exact congrArg (fun n => some (Place.zram n)) (by omega)
  · exact congrArg (fun n => some (Place.wram n)) (by omega)

theorem local68k_default (a : Addr24) : l.local68k a = true ↔ a.toNat ≤ 0x3FFFFF ∨ 0xE00000 ≤ a.toNat := by
  rw [Launch.local68k, place68k_default hl hb hr, row68k_default hl]
  obtain h | h | h | h | h | h | h | h | h | h | h | h | h | h | h | h | h | h := intervals68k a <;>
    simp (disch := omega) only [if_pos, if_neg, Option.any_some, Option.any_none, Place.isControl] <;> simp <;> omega

end Default

/-- Where an address of the default Z80 view stands. -/
theorem intervalsZ80 (a : Word) : a.toNat ≤ 0x1FFF ∨ (0x2000 ≤ a.toNat ∧ a.toNat ≤ 0x3FFF) ∨
    (0x4000 ≤ a.toNat ∧ a.toNat ≤ 0x5FFF) ∨ (0x6000 ≤ a.toNat ∧ a.toNat ≤ 0x60FF) ∨ (0x6100 ≤ a.toNat ∧ a.toNat ≤ 0x7EFF) ∨
    (0x7F00 ≤ a.toNat ∧ a.toNat ≤ 0x7F1F) ∨ (0x7F20 ≤ a.toNat ∧ a.toNat ≤ 0x7FFF) ∨ 0x8000 ≤ a.toNat := by omega

theorem placeZ80_default {l : Launch} (hl : l.map = PlatformMap.default) (a : Word) : placeZ80 l a =
    if a.toNat ≤ 0x3FFF then some (.zram (a.toNat % 0x2000))
    else if a.toNat ≤ 0x5FFF then some .device
    else if a.toNat ≤ 0x60FF then some .bank
    else if 0x7F00 ≤ a.toNat ∧ a.toNat ≤ 0x7F1F then some .device
    else if 0x8000 ≤ a.toNat then some .window
    else none := by
  have z : PlatformMap.default.zramSize = 0x2000 := rfl
  rw [placeZ80, rowZ80_default hl, hl]
  obtain h | h | h | h | h | h | h | h := intervalsZ80 a <;>
    simp (disch := omega) only [if_pos, if_neg, Option.map_some, Option.map_none, MapRow.placeZ80, MapRow.offset, z, Nat.zero_add,
      Nat.sub_zero]
  exact congrArg (fun n => some (PlaceZ80.zram n)) (by omega)

theorem localZ80_default {l : Launch} (hl : l.map = PlatformMap.default) (a : Word) : l.localZ80 a = true ↔ a.toNat ≤ 0x3FFF := by
  rw [Launch.localZ80, rowZ80_default hl]
  obtain h | h | h | h | h | h | h | h := intervalsZ80 a <;>
    simp (disch := omega) only [if_pos, if_neg, Option.any_some, Option.any_none] <;> simp <;> omega

theorem oracleIsOwners_default {l : Launch} (hl : l.map = PlatformMap.default) : l.oracleIsOwners := by
  rw [Launch.oracleIsOwners, hl]
  exact ⟨by decide, rfl⟩

/-- Settles O56: no row is Unmapped, the default map interval by interval, and the faults of rows reached without OWNER. -/
theorem unmappedAccessFaults : Obligations.UnmappedAccessFaults := by
  refine ⟨fun c sz a v ht ho h => ⟨?_, ?_, fun hb => ?_⟩, fun c a v ht h => ⟨?_, ?_⟩,
    fun l hl hb hr => ⟨place68k_default hl hb hr, local68k_default hl hb hr, placeZ80_default hl, localZ80_default hl, hl ▸ rfl,
      oracleIsOwners_default hl⟩,
    fun c sz a v ps ht ho hr hz hs => ⟨fun ha hh => ?_, fun hg hb => ?_⟩, fun c a v ht hw hl h => ?_⟩
  · exact load68k_error ho (access68k_stops ht (perform68k_nowhere (route68k_nowhere h)))
  · exact store68k_error ho (access68k_stops ht (perform68k_nowhere (route68k_nowhere h)))
  · subst hb
    exact tas68k_error (access68k_stops ht (perform68k_nowhere (route68k_nowhere h)))
  · exact bind_of_error (accessZ80_stops ht (performZ80_unmapped h))
  · exact bind_of_error (accessZ80_stops ht (performZ80_unmapped h))
  · have hf := zramFault_contention (sz := sz) hz ha hh
    exact ⟨load68k_error ho (access68k_stops ht (perform68k_fault hr rfl hf)),
      store68k_error ho (access68k_stops ht (perform68k_fault hr hs hf))⟩
  · have hf := zramFault_width hz hg hb
    exact ⟨load68k_error ho (access68k_stops ht (perform68k_fault hr rfl hf)),
      store68k_error ho (access68k_stops ht (perform68k_fault hr hs hf))⟩
  · obtain ⟨p, hp, hz⟩ := h
    exact ⟨bind_of_error (accessZ80_stops ht (performZ80_loop hw hl hp hz)),
      bind_of_error (accessZ80_stops ht (performZ80_loop hw hl hp hz))⟩

end Sys2Proof.Laws
end

section
/-! What a run of operations keeps: `Keeps` says that an operation holds an invariant of the state, and what it answers; `Touches`
says that two states differ only in bytes of memory under given keys, in new events and in the count of free bytes. -/

namespace Sys2Proof.Laws

open Sys2Proof.Machine

/-! ### Operations and an invariant -/

/-- From a state of the invariant `I` with `P`, the operation ends in a state of `I`, with `Q` of its value; where it ends its
instruction, with `S`. -/
def Keeps (I : State → Prop) (S : Stop → Ctx → Prop) {α : Type} (P : State → Prop) (x : Op α) (Q : α → State → Prop) : Prop :=
  ∀ c, I c.st → P c.st → match x c with
    | .ok a d => I d.st ∧ Q a d.st
    | .error e d => S e d

/-- No condition. -/
def Always {α : Type} (_ : α) (_ : State) : Prop := True

/-- No condition on the state an operation begins in. -/
def Anywhere (_ : State) : Prop := True

section Rules

variable {I P P' : State → Prop} {S S' : Stop → Ctx → Prop} {α β : Type} {x : Op α} {Q Q' : α → State → Prop}

theorem Keeps.of_ok (h : Keeps I S P x Q) {c d : Ctx} {a : α} (hi : I c.st) (hp : P c.st) (hc : x c = .ok a d) :
    I d.st ∧ Q a d.st := by
  have := h c hi hp
  rwa [hc] at this

theorem Keeps.of_error (h : Keeps I S P x Q) {c d : Ctx} {e : Stop} (hi : I c.st) (hp : P c.st) (hc : x c = .error e d) :
    S e d := by
  have := h c hi hp
  rwa [hc] at this

/-- Less is assumed, or more is concluded. -/
theorem Keeps.mono (h : Keeps I S P x Q) (hp : ∀ s, I s → P' s → P s) (hq : ∀ a s, I s → Q a s → Q' a s)
    (hs : ∀ e c, S e c → S' e c) : Keeps I S' P' x Q' := by
  intro c hi hp'
  cases hc : x c with
  | ok a d => exact ⟨(h.of_ok hi (hp _ hi hp') hc).1, hq _ _ (h.of_ok hi (hp _ hi hp') hc).1 (h.of_ok hi (hp _ hi hp') hc).2⟩
  | error e d => exact hs e d (h.of_error hi (hp _ hi hp') hc)

theorem Keeps.pre (h : Keeps I S P x Q) (hp : ∀ s, I s → P' s → P s) : Keeps I S P' x Q :=
  h.mono hp (fun _ _ _ hq => hq) fun _ _ hs => hs

theorem Keeps.post (h : Keeps I S P x Q) (hq : ∀ a s, I s → Q a s → Q' a s) : Keeps I S P x Q' :=
  h.mono (fun _ _ hp => hp) hq fun _ _ hs => hs

theorem Keeps.always (h : Keeps I S P x Q) : Keeps I S P x Always := h.post fun _ _ _ _ => trivial

theorem Keeps.anywhere (h : Keeps I S Anywhere x Q) : Keeps I S P x Q := h.pre fun _ _ _ => trivial

theorem keeps_pure {a : α} (h : ∀ s, I s → P s → Q a s) : Keeps I S P (pure a) Q := fun _ hi hp => ⟨hi, h _ hi hp⟩

theorem Keeps.bind {f : α → Op β} {R : β → State → Prop} (h : Keeps I S P x Q) (hf : ∀ a, Keeps I S (Q a) (f a) R) :
    Keeps I S P (x >>= f) R := by
  intro c hi hp
  cases hc : x c with
  | ok a d =>
    obtain ⟨hi', hq⟩ := h.of_ok hi hp hc
    rw [bind_of_ok hc]
    exact hf a d hi' hq
  | error e d =>
    rw [bind_of_error hc]
    exact h.of_error hi hp hc

/-- An operation before a value. -/
theorem Keeps.andPure {f : α → β} (h : Keeps I S P x Always) : Keeps I S P (x >>= fun a => pure (f a)) Always :=
  h.bind fun _ => keeps_pure fun _ _ _ => trivial

theorem Keeps.ite {p : Prop} [Decidable p] {y : Op α} (hx : p → Keeps I S P x Q) (hy : ¬p → Keeps I S P y Q) :
    Keeps I S P (if p then x else y) Q := by
  split
  · exact hx ‹_›
  · exact hy ‹_›

theorem keeps_stop {e : Stop} (h : ∀ c, I c.st → P c.st → S e c) : Keeps I S P (Op.stop e : Op α) Q := fun c hi hp => h c hi hp

theorem keeps_state : Keeps I S P Op.state fun a s => a = s ∧ P s := fun _ hi hp => ⟨hi, rfl, hp⟩

theorem keeps_modify {f : State → State} {R : Unit → State → Prop} (h : ∀ s, I s → P s → I (f s) ∧ R () (f s)) :
    Keeps I S P (Op.modify f) R := fun _ hi hp => h _ hi hp

theorem keeps_m68kRegs : Keeps I S P m68kRegs fun m s => m = s.m68k ∧ P s := fun _ hi hp => ⟨hi, rfl, hp⟩

theorem keeps_z80Regs : Keeps I S P z80Regs fun z s => z = s.z80 ∧ P s := fun _ hi hp => ⟨hi, rfl, hp⟩

/-- An access answers from the log, or is performed (log 4). -/
theorem Keeps.once {x : Op Long} (h : Keeps I S P x fun _ => P) : Keeps I S P (Op.once x) fun _ => P := by
  intro c hi hp
  rw [Op.once]
  cases c.todo with
  | cons v l => exact ⟨hi, hp⟩
  | nil =>
    dsimp only
    cases hc : x c with
    | ok v d => exact (h.of_ok hi hp hc :)
    | error e d => exact h.of_error hi hp hc

end Rules

/-! ### States that differ in memory, events and draws -/

/-- Memory changed by writes to bytes of the keys `K`. -/
inductive MemChange (K : Nat → Prop) (m : Memory) : Memory → Prop
  | refl : MemChange K m m
  | write {m' : Memory} {k : Nat} (v : Byte) (h : MemChange K m m') (hk : K k) : MemChange K m (m'.write k v)

section MemChange

variable {K : Nat → Prop} {m m' m'' : Memory}

theorem MemChange.trans (h : MemChange K m m') (h' : MemChange K m' m'') : MemChange K m m'' := by
  induction h' with
  | refl => exact h
  | write v _ hk ih => exact ih.write v hk

theorem MemChange.wf (h : MemChange K m m') (hm : m.wf) : m'.wf := by
  induction h with
  | refl => exact hm
  | write v _ _ ih => exact wf_write _ _ ih

theorem MemChange.read_eq (h : MemChange K m m') (hm : m.wf) {k : Nat} (hk : ¬K k) : m'.read k = m.read k := by
  induction h with
  | refl => rfl
  | @write m' j v h hj ih => exact (read_write_other _ _ _ _ (h.wf hm).1 (by rintro rfl; exact hk hj)).trans ih

theorem MemChange.eq_of_empty (h : MemChange K m m') (hk : ∀ k, ¬K k) : m' = m := by
  cases h with
  | refl => rfl
  | write v h hj => exact absurd hj (hk _)

theorem MemChange.mono {K' : Nat → Prop} (h : MemChange K m m') (hk : ∀ k, K k → K' k) : MemChange K' m m' := by
  induction h with
  | refl => exact .refl
  | write v _ hj ih => exact ih.write v (hk _ hj)

end MemChange

/-- The states differ only in memory under the keys `K`, in new events and in the count of free bytes drawn. -/
def Touches (K : Nat → Prop) (s t : State) : Prop :=
  ∃ mem l n, MemChange K s.mem mem ∧
    t = { s with mem := mem, events := l ++ s.events, bus := { s.bus with draws := n } }

section Touches

variable {K : Nat → Prop} {s t u : State}

theorem touches_refl (K : Nat → Prop) (s : State) : Touches K s s := ⟨_, [], _, .refl, rfl⟩

theorem Touches.trans (h : Touches K s t) (h' : Touches K t u) : Touches K s u := by
  obtain ⟨m, l, n, hm, rfl⟩ := h
  obtain ⟨m', l', n', hm', rfl⟩ := h'
  exact ⟨m', l' ++ l, n', hm.trans hm', by simp⟩

theorem Touches.mapM68k (h : Touches K s t) (f : M68k → M68k) : Touches K (s.mapM68k f) (t.mapM68k f) := by
  obtain ⟨m, l, n, hm, rfl⟩ := h
  exact ⟨m, l, n, hm, rfl⟩

theorem Touches.mapZ80 (h : Touches K s t) (f : Z80 → Z80) : Touches K (s.mapZ80 f) (t.mapZ80 f) := by
  obtain ⟨m, l, n, hm, rfl⟩ := h
  exact ⟨m, l, n, hm, rfl⟩

theorem Touches.m68k (h : Touches K s t) : t.m68k = s.m68k := by
  obtain ⟨_, _, _, _, rfl⟩ := h
  rfl

theorem Touches.z80 (h : Touches K s t) : t.z80 = s.z80 := by
  obtain ⟨_, _, _, _, rfl⟩ := h
  rfl

theorem Touches.launch (h : Touches K s t) : t.launch = s.launch := by
  obtain ⟨_, _, _, _, rfl⟩ := h
  rfl

theorem Touches.mono {K' : Nat → Prop} (h : Touches K s t) (hk : ∀ k, K k → K' k) : Touches K' s t := by
  obtain ⟨m, l, n, hm, rfl⟩ := h
  exact ⟨m, l, n, hm.mono hk, rfl⟩

theorem touches_record (K : Nat → Prop) (s : State) (e : Event) : Touches K s (s.record e) := ⟨_, [e], _, .refl, rfl⟩

theorem touches_drawByte (K : Nat → Prop) (s : State) : Touches K s s.drawByte.2 := ⟨_, [], _, .refl, rfl⟩

theorem touches_write {k : Nat} (v : Byte) (hk : K k) : Touches K s { s with mem := s.mem.write k v } :=
  ⟨_, [], _, MemChange.refl.write v hk, rfl⟩

theorem touches_readPlace (K : Nat → Prop) (s : State) (p : Place) : Touches K s (s.readPlace p).2 := by
  cases p with
  | rom off =>
    rw [State.readPlace]
    split
    · exact touches_refl K s
    · exact touches_drawByte K s
  | wram off => exact touches_refl K s
  | zram off => exact touches_refl K s
  | _ => exact touches_drawByte K s

theorem touches_readPlaces (K : Nat → Prop) (s : State) (ps : List Place) : Touches K s (s.readPlaces ps).2 := by
  induction ps generalizing s with
  | nil => exact touches_refl K s
  | cons p r ih => exact (touches_readPlace K s p).trans (ih _)

/-- Bytes at the place may be written. -/
def PlaceIn (K : Nat → Prop) (p : Place) : Prop := ∀ k, p.key = some k → K k

theorem touches_writePlace {p : Place} (v : Byte) (h : PlaceIn K p) : Touches K s (s.writePlace v p) := by
  cases p with
  | wram off => exact touches_write v (h _ rfl)
  | zram off => exact touches_write v (h _ rfl)
  | _ => exact touches_refl K s

theorem touches_writePlaces {ps : List Place} (bs : List Byte) (h : ∀ p ∈ ps, PlaceIn K p) :
    Touches K s (s.writePlaces ps bs) := by
  induction ps generalizing s bs with
  | nil => exact touches_refl K s
  | cons p r ih =>
    cases bs with
    | nil => exact touches_refl K s
    | cons b bs =>
      exact (touches_writePlace b (h p List.mem_cons_self)).trans (ih bs fun q hq => h q (List.mem_cons_of_mem _ hq))

theorem touches_plainRead (K : Nat → Prop) (s : State) (ps : List Place) : Touches K s (s.plainRead ps).2 :=
  touches_readPlaces K s ps

theorem touches_plainWrite {ps : List Place} (a : Addr24) (sz : Size) (v : Long) (h : ∀ p ∈ ps, PlaceIn K p) :
    Touches K s (s.plainWrite a sz v ps) := by
  have hw := touches_writePlaces (s := s) (bigEndian sz v) h
  rw [State.plainWrite]
  split
  · exact hw.trans (touches_record K _ _)
  · exact hw

end Touches

/-! ### Rows -/

/-- The halves of the access, made from the state `s`, touch only memory under `K` where `stores`. -/
structure RowTouches (K : Nat → Prop) (stores : Prop) (s : State) (r : RowAccess) : Prop where
  read : Touches K s r.read.2
  write : stores → ∀ v t, Touches K t (r.write v t)

/-- The access is a write, or a TAS. -/
def changesPlaces : Access → Bool
  | .write | .tas | .portWrite => true
  | _ => false

theorem plainAccess_touches {K : Nat → Prop} {stores : Prop} (s : State) (a : Addr24) (sz : Size) {ps : List Place}
    (h : stores → ∀ p ∈ ps, PlaceIn K p) : RowTouches K stores s (plainAccess s a sz ps) where
  read := touches_plainRead K s ps
  write hs v _ := touches_plainWrite a sz v (h hs)

theorem performRow_touches {K : Nat → Prop} {w : Nat} {k : Access} {s : State} {r : RowAccess} (a : BitVec w) (sz : Size) (v : Long)
    (h : RowTouches K (changesPlaces k = true) s r) : Touches K s (performRow k a sz v s r).2 := by
  cases k with
  | read => exact h.read
  | write => exact h.write rfl _ _
  | tas => exact h.read.trans (h.write rfl _ _)
  | portRead => exact h.read
  | portWrite => exact h.write rfl _ _

end Sys2Proof.Laws
end

section
/-! What M68K's accesses and exception entry keep: the state stays what it was when the activity began, but for M68K's registers,
for bytes of memory under the keys that it may store to, for events and for draws. -/

namespace Sys2Proof.Laws

open Sys2Proof.Machine

/-! ### The invariant of an M68K activity -/

/-- The state of an activity that began in `s0`: registers with `E`, and memory changed under the keys `K` only. -/
def In68k (K : Nat → Prop) (E : M68k → Prop) (s0 t : State) : Prop := ∃ m, E m ∧ Touches K (s0.mapM68k fun _ => m) t

/-- How the activity stops: waiting after an issue; ended, perhaps by a crash; or without a meaning, but not for want of the
mailbox (20 R151, R154, 60 R703, R714). -/
def Stops68k (K : Nat → Prop) (E : M68k → Prop) (s0 : State) (e : Stop) (c : Ctx) : Prop :=
  match e with
  | .wait => ∃ u mb, In68k K E s0 u ∧ mb.intLevel = s0.bus.mb68k.intLevel ∧ c.st = u.mapBus fun b => { b with mb68k := mb }
  | .ended => In68k K E s0 c.st ∨ E c.st.m68k ∧ ∃ u, In68k K (fun _ => True) s0 u ∧ c.st = u.halt68k .crashed
  | .fault f => s0.bus.mb68k.op = .none → f ≠ .protocolSecondAccess
  | .refused _ => True

/-- The operation, begun with registers of `p` in an activity, ends with its value and registers of `q`. -/
def Holds68k (K : Nat → Prop) (E : M68k → Prop) (s0 : State) {α : Type} (p : M68k → Prop) (x : Op α) (q : α → M68k → Prop) : Prop :=
  Keeps (In68k K E s0) (Stops68k K E s0) (fun s => p s.m68k) x fun a s => q a s.m68k

/-- What holds of the registers does not depend on PC and the counters. -/
def Free68k (E : M68k → Prop) : Prop := ∀ m pc cyc draws, E m → E { m with pc := pc, cyc := cyc, draws := draws }

/-- The byte at the address may be written by M68K itself. -/
def Writable68k (K : Nat → Prop) (l : Launch) (x : Addr24) : Prop := ∀ k, writtenKey68k l x = some k → K k

/-- The bytes of a store may be written. -/
def CanStore (K : Nat → Prop) (l : Launch) (a : Long) (sz : Size) : Prop := ∀ x ∈ bytes68k (a.setWidth 24) sz, Writable68k K l x

section In68k

variable {K : Nat → Prop} {E : M68k → Prop} {s0 s t : State}

theorem In68k.registers (h : In68k K E s0 t) : E t.m68k := by
  obtain ⟨m, hm, ht⟩ := h
  rw [ht.m68k]
  exact hm

theorem In68k.launch (h : In68k K E s0 t) : t.launch = s0.launch := by
  obtain ⟨m, -, ht⟩ := h
  exact ht.launch

theorem In68k.touched (h : In68k K E s0 s) (ht : Touches K s t) : In68k K E s0 t := by
  obtain ⟨m, hm, hs⟩ := h
  exact ⟨m, hm, hs.trans ht⟩

theorem In68k.mapM68k {E' : M68k → Prop} {f : M68k → M68k} (h : In68k K E s0 s) (hf : E' (f s.m68k)) :
    In68k K E' s0 (s.mapM68k f) := by
  obtain ⟨m, hm, hs⟩ := h
  rw [hs.m68k] at hf
  exact ⟨f m, hf, hs.mapM68k f⟩

theorem In68k.mb68k_op (h : In68k K E s0 t) : t.bus.mb68k = s0.bus.mb68k := by
  obtain ⟨m, -, _, _, _, -, rfl⟩ := h
  rfl

theorem In68k.mono {K' : Nat → Prop} {E' : M68k → Prop} (h : In68k K E s0 t) (hk : ∀ k, K k → K' k) (he : ∀ m, E m → E' m) :
    In68k K' E' s0 t := by
  obtain ⟨m, hm, ht⟩ := h
  exact ⟨m, he m hm, ht.mono hk⟩

end In68k

/-! ### Places and addresses -/

/-- What a list of values comes from. -/
theorem exists_of_mapM {α β : Type} {f : α → Option β} {l : List α} {bs : List β} (h : l.mapM f = some bs) {b : β} (hb : b ∈ bs) :
    ∃ a ∈ l, f a = some b := by
  by_contra hn
  push Not at hn
  induction l generalizing bs with
  | nil => cases h; cases hb
  | cons a l ih =>
    rw [List.mapM_cons] at h
    cases ha : f a with
    | none => rw [ha] at h; cases h
    | some c =>
      cases hl : l.mapM f with
      | none => rw [ha, hl] at h; cases h
      | some cs =>
        rw [ha, hl] at h
        cases h
        rcases List.mem_cons.1 hb with rfl | hb
        · exact hn a List.mem_cons_self ha
        · exact ih hl hb fun x hx => hn x (List.mem_cons_of_mem _ hx)

/-- The places of an access M68K makes itself are places it may write, where their addresses are. -/
theorem placeIn_of_route {K : Nat → Prop} {l : Launch} {a : Addr24} {sz : Size} {ps : List Place} (hr : route68k l a sz = .here ps)
    (hk : ∀ x ∈ bytes68k a sz, Writable68k K l x) : ∀ p ∈ ps, PlaceIn K p := by
  intro p hp k hkey
  rw [route68k] at hr
  cases hps : places68k l a sz with
  | none => rw [hps] at hr; cases hr
  | some qs =>
    rw [hps] at hr
    dsimp only at hr
    split at hr
    · rename_i hall
      cases hr
      obtain ⟨hm, -⟩ := Option.filter_eq_some_iff.1 hps
      obtain ⟨x, hx, hxp⟩ := exists_of_mapM hm hp
      refine hk x hx k ?_
      rw [writtenKey68k, if_pos (List.all_eq_true.1 hall x hx), hxp]
      exact hkey
    · cases hr

theorem bytes68k_byte (a : Addr24) : bytes68k a .b = [a] := by
  simp [bytes68k, Size.bytes]

section Access

variable {K : Nat → Prop} {E : M68k → Prop} {s0 : State} {α β : Type} {p p' : M68k → Prop} {q : α → M68k → Prop}

/-! ### The rules for M68K's operations -/

theorem Holds68k.bind {x : Op α} {f : α → Op β} {r : β → M68k → Prop} (h : Holds68k K E s0 p x q)
    (hf : ∀ a, Holds68k K E s0 (q a) (f a) r) : Holds68k K E s0 p (x >>= f) r := Keeps.bind h hf

theorem Holds68k.pre {x : Op α} (h : Holds68k K E s0 p x q) (hp : ∀ m, E m → p' m → p m) : Holds68k K E s0 p' x q :=
  Keeps.pre h fun _ hi => hp _ hi.registers

theorem Holds68k.post {q' : α → M68k → Prop} {x : Op α} (h : Holds68k K E s0 p x q) (hq : ∀ a m, E m → q a m → q' a m) :
    Holds68k K E s0 p x q' := Keeps.post h fun a _ hi => hq a _ hi.registers

theorem Holds68k.any {x : Op α} (h : Holds68k K E s0 (fun _ => True) x q) : Holds68k K E s0 p x q := h.pre fun _ _ _ => trivial

theorem Holds68k.done {x : Op α} (h : Holds68k K E s0 p x q) : Holds68k K E s0 p x fun _ _ => True := h.post fun _ _ _ _ => trivial

theorem holds_pure (a : α) : Holds68k K E s0 p (pure a) fun _ => p := keeps_pure fun _ _ hp => hp

theorem holds_value (a : α) : Holds68k K E s0 p (pure a) fun b m => b = a ∧ p m := keeps_pure fun _ _ hp => ⟨rfl, hp⟩

/-- An operation before a value. -/
theorem Holds68k.andPure {x : Op α} {f : α → β} (h : Holds68k K E s0 p x q) :
    Holds68k K E s0 p (x >>= fun a => pure (f a)) fun _ _ => True := h.done.bind fun _ => holds_pure _

theorem Holds68k.ite {c : Prop} [Decidable c] {x y : Op α} (hx : c → Holds68k K E s0 p x q) (hy : ¬c → Holds68k K E s0 p y q) :
    Holds68k K E s0 p (if c then x else y) q := Keeps.ite hx hy

theorem holds_fault {f : Fault} (h : f ≠ .protocolSecondAccess) : Holds68k K E s0 p (Op.stop (.fault f) : Op α) q :=
  keeps_stop fun _ _ _ _ => h

theorem holds_refused (r : Refusal) : Holds68k K E s0 p (Op.stop (.refused r) : Op α) q := keeps_stop fun _ _ _ => trivial

/-- Nothing follows. -/
theorem holds_never {x : Op α} : Holds68k K E s0 (fun _ => False) x q := fun _ _ h => h.elim

/-- Nothing follows a refusal. -/
theorem holds_refused_bind (r : Refusal) {f : α → Op β} {r' : β → M68k → Prop} :
    Holds68k K E s0 p (Op.stop (.refused r) >>= f) r' := (holds_refused r).bind fun _ => holds_never

theorem holds_ended : Holds68k K E s0 p (Op.stop .ended : Op α) q := keeps_stop fun _ hi _ => .inl hi

/-- What follows a read of the registers knows them. -/
theorem holds_regs {f : M68k → Op β} {r : β → M68k → Prop} (h : ∀ m, E m → p m → Holds68k K E s0 (· = m) (f m) r) :
    Holds68k K E s0 p (m68kRegs >>= f) r := fun c hi hp => h c.st.m68k hi.registers hp c hi rfl

/-- What follows a read of the flags knows the registers. -/
theorem holds_ccr {f : Ccr → Op β} {r : β → M68k → Prop} (h : ∀ m, E m → p m → Holds68k K E s0 (· = m) (f m.ccr) r) :
    Holds68k K E s0 p (getCcr >>= f) r := fun c hi hp => h c.st.m68k hi.registers hp c hi rfl

theorem holds_setM68k {f : M68k → M68k} {r : Unit → M68k → Prop} (hf : ∀ m, E m → p m → E (f m) ∧ r () (f m)) :
    Holds68k K E s0 p (setM68k f) r :=
  fun _ hi hp => ⟨hi.mapM68k (hf _ hi.registers hp).1, (hf _ hi.registers hp).2⟩

theorem holds_record (e : Event) : Holds68k K E s0 p (Op.modify (·.record e)) fun _ => p :=
  fun _ hi hp => ⟨hi.touched (touches_record K _ e), hp⟩

theorem holds_draw68k (hE : Free68k E) : Holds68k K E s0 p draw68k fun _ _ => True :=
  fun c hi _ => ⟨hi.mapM68k (f := fun m => { m with draws := m.draws + 1 }) (hE c.st.m68k _ _ _ hi.registers), trivial⟩

/-! ### One access -/

theorem holds_issue68k (k : Access) (a : Addr24) (sz : Size) (v : Long) : Holds68k K E s0 p (issue68k k a sz v) fun _ => p := by
  intro c hi _
  have hmb := hi.mb68k_op
  rw [issue68k]
  by_cases h : c.st.bus.mb68k.op = .none
  · rw [if_neg (not_not_intro h)]
    exact ⟨c.st, c.st.bus.mb68k.issue k a sz v, hi, (congrArg Mailbox.intLevel hmb :), rfl⟩
  · rw [if_pos h]
    exact fun h0 => absurd (hmb ▸ h0) h

theorem zramFault_ne_protocol {s : State} {ps : List Place} {sz : Size} {f : Fault} (h : s.zramFault ps sz = some f) :
    f ≠ .protocolSecondAccess := by
  rw [State.zramFault] at h
  split_ifs at h <;> cases h <;> decide

theorem holds_perform68k {k : Access} {a : Addr24} {sz : Size} (v : Long)
    (hk : changesPlaces k = true → ∀ x ∈ bytes68k a sz, Writable68k K s0.launch x) :
    Holds68k K E s0 p (perform68k k a sz v) fun _ => p := by
  intro c hi hp
  have hl := hi.launch
  rw [perform68k]
  cases hr : route68k c.st.launch a sz with
  | nowhere => exact fun _ => by decide
  | owner =>
    dsimp only
    by_cases hs : c.selfModifies k a sz = true
    · rw [if_pos hs]; trivial
    · rw [if_neg hs]; exact holds_issue68k k a sz v c hi hp
  | here ps =>
    dsimp only
    by_cases hs : c.selfModifies k a sz = true
    · rw [if_pos hs]; trivial
    · rw [if_neg hs]
      cases hz : c.st.zramFault ps sz with
      | some f => exact fun _ => zramFault_ne_protocol hz
      | none =>
        have ht : Touches K c.st (performRow k a sz v c.st (plainAccess c.st a sz ps)).2 :=
          performRow_touches a sz v <| plainAccess_touches _ _ _ fun hs => placeIn_of_route hr (hl ▸ hk hs)
        exact ⟨hi.touched ht, by dsimp only; rw [ht.m68k]; exact hp⟩

theorem holds_access68k {k : Access} {a : Addr24} {sz : Size} (v : Long)
    (hk : changesPlaces k = true → ∀ x ∈ bytes68k a sz, Writable68k K s0.launch x) :
    Holds68k K E s0 p (access68k k a sz v) fun _ => p := Keeps.once (holds_perform68k v hk)

theorem holds_read (a : Addr24) (sz : Size) (v : Long) : Holds68k K E s0 p (access68k .read a sz v) fun _ => p :=
  holds_access68k v fun h => nomatch h

/-! ### Data accesses -/

theorem holds_splitRead (as : List Addr24) (v : Long) : Holds68k K E s0 p (splitRead as v) fun _ => p := by
  induction as generalizing v with
  | nil => exact holds_pure v
  | cons a r ih => exact (holds_read a .b 0).bind fun b => ih _

theorem holds_splitWrite {as : List Addr24} (bs : List Byte) (h : ∀ x ∈ as, Writable68k K s0.launch x) :
    Holds68k K E s0 p (splitWrite as bs) fun _ => p := by
  induction as generalizing bs with
  | nil => exact holds_pure ()
  | cons a r ih =>
    cases bs with
    | nil => exact holds_pure ()
    | cons b bs =>
      refine (holds_access68k _ fun _ x hx => ?_).bind fun _ => ih bs fun x hx => h x (List.mem_cons_of_mem _ hx)
      rw [bytes68k_byte, List.mem_singleton] at hx
      exact hx ▸ h a List.mem_cons_self

theorem holds_state : Holds68k K E s0 p Op.state fun _ => p := fun _ hi hp => ⟨hi, hp⟩

theorem holds_load68k (sz : Size) (a : Long) : Holds68k K E s0 p (load68k sz a) fun _ => p := by
  refine holds_state.bind fun s => .ite (fun _ => ?_) fun _ => (holds_read _ sz 0).bind fun v => holds_pure _
  cases s.launch.misaligned with
  | fault => exact holds_fault (by decide)
  | split => exact (holds_splitRead _ 0).bind fun v => holds_pure _

theorem holds_store68k {sz : Size} {a : Long} (v : BitVec sz.bits) (h : CanStore K s0.launch a sz) :
    Holds68k K E s0 p (store68k sz a v) fun _ => p := by
  refine holds_state.bind fun s => .ite (fun _ => ?_) fun _ => (holds_access68k _ fun _ => h).bind fun v => holds_pure _
  cases s.launch.misaligned with
  | fault => exact holds_fault (by decide)
  | split => exact holds_splitWrite _ h

theorem holds_tas68k {a : Long} (h : CanStore K s0.launch a .b) : Holds68k K E s0 p (tas68k a) fun _ => p :=
  (holds_access68k 0 fun _ => h).bind fun _ => holds_pure _

theorem holds_fetch16 (hE : Free68k E) : Holds68k K E s0 p fetch16 fun _ _ => True :=
  holds_regs fun _ _ _ => (holds_read _ .w 0).done.bind fun _ =>
    (holds_setM68k (r := fun _ _ => True) fun m hm _ => ⟨hE m (m.pc + 2#32) m.cyc m.draws hm, trivial⟩).andPure

theorem holds_spend68k (hE : Free68k E) (k : Cost68k) : Holds68k K E s0 p (spend68k k) fun _ _ => True :=
  holds_setM68k fun m hm _ => ⟨hE m m.pc _ m.draws hm, trivial⟩

/-! ### The stack and exceptions -/

/-- The stack pointer may be written. -/
def FreeSp (E : M68k → Prop) : Prop := ∀ m v, E m → E (m.setSp v)

theorem holds_push68k (hs : FreeSp E) {sz : Size} {a : Long} (v : BitVec sz.bits)
    (ha : ∀ m, p m → m.sp - BitVec.ofNat 32 sz.bytes = a) (h : CanStore K s0.launch a sz) :
    Holds68k K E s0 p (push68k sz v) fun _ m => m.sp = a := by
  refine (holds_setM68k (r := fun _ m => m.sp = a) fun m hm hp => ⟨hs m _ hm, (setSp_sp m _).trans (ha m hp)⟩).bind fun _ => ?_
  exact holds_regs fun m _ hm => (holds_store68k (p := fun m' => m'.sp = a) v (hm ▸ h)).pre fun _ _ e => e ▸ hm

theorem holds_pop68k (hs : FreeSp E) (sz : Size) : Holds68k K E s0 p (pop68k sz) fun _ _ => True :=
  holds_regs fun _ _ _ => (holds_load68k sz _).bind fun _ =>
    (holds_setM68k (r := fun _ _ => True) fun m hm _ => ⟨hs m _ hm, trivial⟩).andPure

/-- Exception entry may write what it writes of the registers (60 R704). -/
structure FreeEntry (E : M68k → Prop) : Prop where
  free : Free68k E
  sp : FreeSp E
  super : ∀ m, E m → E m.enterSuper
  running : ∀ m, E m → E { m with run := .running }

/-- The two words an exception stacks may be stored. -/
def CanFrame (K : Nat → Prop) (l : Launch) (m : M68k) : Prop :=
  CanStore K l (m.enterSuper.sp - 4#32) .l ∧ CanStore K l (m.enterSuper.sp - 6#32) .w

theorem holds_enterException (hE : FreeEntry E) (v : Nat) (spc : Long) {level : Option (BitVec 3)}
    (hl : ∀ l, level = some l → ∀ m, E m → E (m.setMask l)) (hf : ∀ m, E m → p m → CanFrame K s0.launch m) :
    Holds68k K E s0 p (enterException v spc level) fun _ _ => True := by
  refine holds_regs fun m0 hm0 hp0 => ?_
  obtain ⟨hf4, hf6⟩ := hf m0 hm0 hp0
  have rest (k : Cost68k) : Holds68k K E s0 (fun m => m.sp = m0.enterSuper.sp) (do
      push68k .l spc
      push68k .w m0.getSr
      let h ← load68k .l (BitVec.ofNat 32 (v * 4))
      setM68k fun m => { m with pc := h, run := .running }
      spend68k k) fun _ _ => True := by
    refine (holds_push68k hE.sp (sz := .l) spc (fun m e => by rw [e]; rfl) hf4).bind fun _ => ?_
    refine (holds_push68k hE.sp (sz := .w) m0.getSr (fun m e => ?_) hf6).bind fun _ => ?_
    · rw [e, BitVec.sub_sub]
      rfl
    refine (holds_load68k .l _).bind fun h => ?_
    exact (holds_setM68k (r := fun _ _ => True) fun m hm _ =>
      ⟨hE.free _ h m.cyc m.draws (hE.running m hm), trivial⟩).bind fun _ => holds_spend68k hE.free _
  refine (holds_setM68k (r := fun _ m => m.sp = m0.enterSuper.sp) fun m hm e => ⟨hE.super m hm, by rw [e]⟩).bind fun _ => ?_
  cases level with
  | none => exact rest _
  | some l => exact (holds_setM68k (r := fun _ m => m.sp = m0.enterSuper.sp) fun m hm e => ⟨hl l rfl m hm, e⟩).bind fun _ => rest _

theorem holds_raise68k (hE : FreeEntry E) (v : Nat) (spc : Long) (hf : ∀ m, E m → p m → CanFrame K s0.launch m) :
    Holds68k K E s0 p (raise68k v spc : Op α) q :=
  (holds_enterException (level := none) hE v spc (fun _ h => nomatch h) hf).bind fun _ => holds_ended

theorem holds_privileged (hE : FreeEntry E) (hf : ∀ m, E m → p m → m.super = false → CanFrame K s0.launch m) :
    Holds68k K E s0 p privileged fun _ => p := by
  refine holds_regs fun m hm hp => .ite (fun _ => ?_) fun hs => ?_
  · exact (holds_pure ()).pre fun _ _ e => e ▸ hp
  · exact holds_raise68k hE _ _ fun _ _ e => e ▸ hf m hm hp (Bool.eq_false_of_not_eq_true hs)

/-- A crash changes the run state, and sets the mark (60 R714). -/
theorem holds_crash (hr : ∀ m r, E m → E { m with run := r }) :
    Holds68k K E s0 p (do Op.modify (·.halt68k .crashed); Op.stop .ended) q := by
  intro c ⟨m, hm, ht⟩ _
  refine .inr ⟨?_, c.st, ⟨m, trivial, ht⟩, rfl⟩
  have := hr m (.halted .crashed) hm
  rwa [← show c.st.m68k = m from ht.m68k] at this

theorem holds_illegalPolicy (hE : FreeEntry E) (hr : ∀ m r, E m → E { m with run := r }) (v : Nat)
    (hf : ∀ m, E m → p m → CanFrame K s0.launch m) : Holds68k K E s0 p (illegalPolicy v) fun _ _ => True := by
  refine holds_state.bind fun s => ?_
  cases s.launch.policy with
  | crash => exact holds_crash hr
  | ignore => exact (holds_pure ()).done
  | trap => exact holds_raise68k hE _ _ hf

theorem holds_returnException (hE : Free68k E) (hs : FreeSp E) (hw : ∀ m v, E m → E (m.writeSr v)) :
    Holds68k K E s0 p returnException fun _ _ => True :=
  (holds_pop68k hs .w).bind fun _ => (holds_pop68k hs .l).bind fun t =>
    (holds_setM68k (r := fun _ _ => True) fun m hm _ => ⟨hw m _ hm, trivial⟩).bind fun _ =>
      holds_setM68k fun m hm _ => ⟨hE m t m.cyc m.draws hm, trivial⟩

end Access

end Sys2Proof.Laws
end

section
/-! The frame of an M68K instruction: the registers that it may change, the bytes that it may store to, and the operand forms that
instructions share. -/

namespace Sys2Proof.Laws

open Sys2Proof.Machine

/-! ### The registers an instruction may change -/

/-- A flag of CCR. -/
def flagOf (f : Ccr) : Flag → Bool
  | .x => f.x
  | .n => f.n
  | .z => f.z
  | .v => f.v
  | .c => f.c

theorem flagOf_ccr (m : M68k) (fl : Flag) : flagOf m.ccr fl = m.sr.flag fl := by cases fl <;> rfl

theorem flag_setCcr (m : M68k) (f : Ccr) (fl : Flag) : (m.setCcr f).sr.flag fl = flagOf f fl := by cases fl <;> rfl

/-- The registers `m` differ from `m0` in what the instruction may change only. -/
structure Frame68k (i : Instr) (m0 m : M68k) : Prop where
  dreg : ∀ r, i.writesD r = false → m.dreg r = m0.dreg r
  areg : ∀ r, i.writesA r = false → m.areg r = m0.areg r
  flag : ∀ f, f ∉ i.flags68k → m.sr.flag f = m0.sr.flag f
  mode : i.mayTrap = false → i.writesSr = false →
    m.osp = m0.osp ∧ m.sr.s = m0.sr.s ∧ m.sr.t = m0.sr.t ∧ m.run = m0.run
  mask : i.writesSr = false → m.sr.i = m0.sr.i

/-- The flags are those of `g`, but for the flags the instruction writes. -/
def FlagsFrom (i : Instr) (f g : Ccr) : Prop := ∀ fl, fl ∉ i.flags68k → flagOf f fl = flagOf g fl

section Frame68k

variable {i : Instr} {m0 m : M68k}

theorem frame_refl (i : Instr) (m : M68k) : Frame68k i m m :=
  ⟨fun _ _ => rfl, fun _ _ => rfl, fun _ _ => rfl, fun _ _ => ⟨rfl, rfl, rfl, rfl⟩, fun _ => rfl⟩

theorem free_frame (i : Instr) (m0 : M68k) : Free68k (Frame68k i m0) :=
  fun _ _ _ _ h => ⟨h.dreg, h.areg, h.flag, h.mode, h.mask⟩

theorem Frame68k.skip (h : Frame68k i m0 m) (k : Nat) : Frame68k i m0 (m.skip k) := free_frame i m0 m _ _ _ h

theorem Frame68k.spend (h : Frame68k i m0 m) (k : Cost68k) : Frame68k i m0 (m.spend k) := free_frame i m0 m m.pc _ m.draws h

theorem Frame68k.setD (h : Frame68k i m0 m) {n : Reg} (v : Long) (hn : i.writesD n = true) : Frame68k i m0 (m.setD n v) where
  dreg r hr := by
    rw [dreg_setD, if_neg (by rintro rfl; rw [hn] at hr; cases hr)]
    exact h.dreg r hr
  areg := h.areg
  flag := h.flag
  mode := h.mode
  mask := h.mask

theorem Frame68k.setA (h : Frame68k i m0 m) {n : Reg} (v : Long) (hn : i.writesA n = true) : Frame68k i m0 (m.setA n v) where
  dreg := h.dreg
  areg r hr := by
    rw [areg_setA, if_neg (by rintro rfl; rw [hn] at hr; cases hr)]
    exact h.areg r hr
  flag := h.flag
  mode := h.mode
  mask := h.mask

theorem Frame68k.setRegFile (h : Frame68k i m0 m) {k : BitVec 4} (v : Long)
    (hd : k.getLsbD 3 = false → i.writesD (k.setWidth 3) = true) (ha : k.getLsbD 3 = true → i.writesA (k.setWidth 3) = true) :
    Frame68k i m0 (m.setRegFile k v) := by
  rw [M68k.setRegFile]
  split
  · exact h.setA v (ha ‹_›)
  · exact h.setD v (hd (Bool.eq_false_of_not_eq_true ‹_›))

/-- Flags written that are those of a moment of the instruction, but for the flags it writes. -/
theorem Frame68k.setCcr (h : Frame68k i m0 m) {f : Ccr} {m1 : M68k} (h1 : Frame68k i m0 m1) (hf : FlagsFrom i f m1.ccr) :
    Frame68k i m0 (m.setCcr f) where
  dreg := h.dreg
  areg := h.areg
  flag fl hfl := by rw [flag_setCcr, hf fl hfl, flagOf_ccr, h1.flag fl hfl]
  mode := h.mode
  mask := h.mask

theorem writesA_sp (h : i.mayTrap = true ∨ i.writesSr = true) : i.writesA 7#3 = true := by
  have uses : (i.mayTrap || i.writesSr) = true := by simpa using h
  unfold Instr.writesA
  exact Bool.or_inl (Bool.or_inr (by rw [uses]; rfl))

theorem writesSr_flags (h : i.writesSr = true) : i.flags68k = [.x, .n, .z, .v, .c] := by
  cases i
  case oriToSr | andiToSr | eoriToSr | moveToSr | stop | rte => rfl
  all_goals cases h

/-- All five flags are written. -/
theorem flagsFrom_all {f g : Ccr} (h : i.flags68k = [.x, .n, .z, .v, .c]) : FlagsFrom i f g := by
  intro fl hfl
  rw [h] at hfl
  cases fl <;> simp at hfl

theorem Frame68k.swapStacks (h : Frame68k i m0 m) (hi : i.mayTrap = true ∨ i.writesSr = true) : Frame68k i m0 m.swapStacks where
  dreg := h.dreg
  areg := (h.setA m.osp (writesA_sp hi)).areg
  flag := h.flag
  mode ht hw := by rcases hi with hi | hi <;> simp [hi] at ht hw
  mask := h.mask

theorem Frame68k.writeSr (h : Frame68k i m0 m) (v : Word) (hi : i.writesSr = true) : Frame68k i m0 (m.writeSr v) := by
  have set : Frame68k i m0 { m with sr := Sr.ofWord v } := by
    refine ⟨h.dreg, h.areg, fun fl hfl => absurd (writesSr_flags hi ▸ by cases fl <;> simp) hfl, fun _ hw => ?_, fun hw => ?_⟩
    · rw [hi] at hw; cases hw
    · rw [hi] at hw; cases hw
  rw [M68k.writeSr]
  split
  · exact set.swapStacks (.inr hi)
  · exact set

theorem Frame68k.run (h : Frame68k i m0 m) (r : Run68k) (hi : i.mayTrap = true) : Frame68k i m0 { m with run := r } :=
  ⟨h.dreg, h.areg, h.flag, fun ht _ => absurd (hi.symm.trans ht) (by decide), h.mask⟩

theorem Frame68k.setOsp (h : Frame68k i m0 m) (v : Long) (hi : i.mayTrap = true) : Frame68k i m0 { m with osp := v } :=
  ⟨h.dreg, h.areg, h.flag, fun ht _ => absurd (hi.symm.trans ht) (by decide), h.mask⟩

theorem Frame68k.enterSuper (h : Frame68k i m0 m) (hi : i.mayTrap = true) : Frame68k i m0 m.enterSuper := by
  have stack : Frame68k i m0 (if m.super then m else m.swapStacks) := by
    split
    · exact h
    · exact h.swapStacks (.inl hi)
  refine ⟨stack.dreg, stack.areg, fun fl hfl => ?_, fun ht _ => absurd (hi.symm.trans ht) (by decide), stack.mask⟩
  have := stack.flag fl hfl
  cases fl <;> exact this

/-- An instruction that may trap may write what exception entry writes. -/
theorem freeEntry_frame (m0 : M68k) (hi : i.mayTrap = true) : FreeEntry (Frame68k i m0) where
  free := free_frame i m0
  sp _ v h := h.setA v (writesA_sp (.inl hi))
  super _ h := h.enterSuper hi
  running _ h := h.run _ hi

theorem freeSp_frame (m0 : M68k) (hi : i.writesA 7#3 = true) : FreeSp (Frame68k i m0) := fun _ v h => h.setA v hi

/-- An operand's address register may move. -/
theorem writesA_of_moves {ea : Ea} (he : ea ∈ i.operands) {n : Reg} (h : ea.moves n = true) : i.writesA n = true := by
  have moved : (i.operands.any fun ea => ea.moves n) = true := List.any_eq_true.2 ⟨ea, he, h⟩
  unfold Instr.writesA
  exact Bool.or_inl (Bool.or_inl (Bool.or_inl moved))

theorem writesA_of_post {n : Reg} (he : Ea.post n ∈ i.operands) : i.writesA n = true :=
  writesA_of_moves he (decide_eq_true (p := n = n) rfl)

theorem writesA_of_pre {n : Reg} (he : Ea.pre n ∈ i.operands) : i.writesA n = true :=
  writesA_of_moves he (decide_eq_true (p := n = n) rfl)

theorem writesA_of_target {sz : Size} {n : Reg} (h : i.target = some (sz, .an n)) : i.writesA n = true := by
  unfold Instr.writesA
  exact Bool.or_inl (Bool.or_inl (Bool.or_inr (by rw [h]; exact decide_eq_true rfl)))

theorem writesD_of_target {sz : Size} {n : Reg} (h : i.target = some (sz, .dn n)) : i.writesD n = true := by
  unfold Instr.writesD
  exact Bool.or_inl (by rw [h]; exact decide_eq_true rfl)

theorem Frame68k.resolve (h : Frame68k i m0 m) {sz : Size} {ea : Ea} (he : ea ∈ i.operands) {loc : Loc} {m' : M68k}
    (hr : m.resolve sz ea = some (loc, m')) : Frame68k i m0 m' := by
  cases ea with
  | dn n => cases hr; exact h
  | an n => cases hr; exact h
  | ind n => cases hr; exact h
  | post n => cases hr; exact h.setA _ (writesA_of_post he)
  | pre n => cases hr; exact h.setA _ (writesA_of_pre he)
  | disp n d => cases hr; exact h.skip 1
  | index n x => rw [M68k.resolve] at hr; split at hr <;> cases hr; exact h.skip 1
  | absW a => cases hr; exact h.skip 1
  | absL a => cases hr; exact h.skip 2
  | pcDisp d => cases hr; exact h.skip 1
  | pcIndex x => rw [M68k.resolve] at hr; split at hr <;> cases hr; exact h.skip 1
  | imm v => cases sz <;> cases hr <;> exact h.skip _

end Frame68k

/-! ### Flags by the rules -/

section FlagsFrom

variable {i : Instr} {f g : Ccr}

/-- X is kept. -/
theorem flagsFrom_x (h : i.flags68k = [.n, .z, .v, .c]) (hx : f.x = g.x) : FlagsFrom i f g := by
  intro fl hfl
  rw [h] at hfl
  cases fl <;> first | exact hx | simp at hfl

/-- Z alone is written. -/
theorem flagsFrom_z (h : i.flags68k = [.z]) (b : Bool) : FlagsFrom i { g with z := b } g := by
  intro fl hfl
  rw [h] at hfl
  cases fl <;> first | rfl | simp at hfl

/-- A rotation keeps X. -/
theorem times_x {n : Nat} {step : Shift n → Shift n} (h : ∀ s, (step s).x = s.x) (k : Nat) (s : Shift n) :
    (Shift.times step k s).x = s.x := by
  induction k generalizing s with
  | zero => rfl
  | succ k ih => exact (ih (step s)).trans (h s)

end FlagsFrom

/-! ### The addresses of operands -/

/-- The registers that addresses depend on are the same. -/
structure SameAddresses (m1 m : M68k) : Prop where
  d : m.d = m1.d
  a : m.a = m1.a
  osp : m.osp = m1.osp
  pc : m.pc = m1.pc
  super : m.super = m1.super

section SameAddresses

variable {m1 m : M68k}

theorem same_refl (m : M68k) : SameAddresses m m := ⟨rfl, rfl, rfl, rfl, rfl⟩

theorem SameAddresses.areg (h : SameAddresses m1 m) (n : Reg) : m.areg n = m1.areg n := by rw [M68k.areg, h.a]; rfl

theorem SameAddresses.dreg (h : SameAddresses m1 m) (n : Reg) : m.dreg n = m1.dreg n := by rw [M68k.dreg, h.d]; rfl

theorem SameAddresses.sp (h : SameAddresses m1 m) : m.sp = m1.sp := h.areg 7#3

theorem SameAddresses.skip (h : SameAddresses m1 m) (k : Nat) : SameAddresses (m1.skip k) (m.skip k) :=
  ⟨h.d, h.a, h.osp, by rw [M68k.skip, h.pc]; rfl, h.super⟩

theorem SameAddresses.setA (h : SameAddresses m1 m) (n : Reg) (v : Long) : SameAddresses (m1.setA n v) (m.setA n v) :=
  ⟨h.d, by rw [M68k.setA, h.a]; rfl, h.osp, h.pc, h.super⟩

theorem SameAddresses.spend (h : SameAddresses m1 m) (k : Cost68k) : SameAddresses m1 (m.spend k) :=
  ⟨h.d, h.a, h.osp, h.pc, h.super⟩

theorem SameAddresses.setCcr (h : SameAddresses m1 m) (f : Ccr) : SameAddresses m1 (m.setCcr f) :=
  ⟨h.d, h.a, h.osp, h.pc, h.super⟩

theorem SameAddresses.draw (h : SameAddresses m1 m) (k : Nat) : SameAddresses m1 { m with draws := k } :=
  ⟨h.d, h.a, h.osp, h.pc, h.super⟩

theorem SameAddresses.indexed (h : SameAddresses m1 m) (base : Long) (x : Word) : m.indexed base x = m1.indexed base x := by
  simp only [M68k.indexed, M68k.index, h.areg, h.dreg]

/-- The stack that exception entry chooses (60 R704). -/
theorem sp_enterSuper (m : M68k) : m.enterSuper.sp = if m.super then m.sp else m.osp := by
  rw [M68k.enterSuper]
  cases m.super with
  | true => rfl
  | false => exact setSp_sp m m.osp

theorem SameAddresses.enterSuper_sp (h : SameAddresses m1 m) : m.enterSuper.sp = m1.enterSuper.sp := by
  rw [sp_enterSuper, sp_enterSuper, h.super, h.sp, h.osp]

theorem SameAddresses.resolve (h : SameAddresses m1 m) {sz : Size} {ea : Ea} {loc : Loc} {m' : M68k}
    (hr : m.resolve sz ea = some (loc, m')) : ∃ m1', m1.resolve sz ea = some (loc, m1') ∧ SameAddresses m1' m' := by
  cases ea with
  | dn n => cases hr; exact ⟨_, rfl, h⟩
  | an n => cases hr; exact ⟨_, rfl, h⟩
  | ind n => cases hr; rw [h.areg]; exact ⟨_, rfl, h⟩
  | post n => cases hr; rw [h.areg]; exact ⟨_, rfl, h.setA _ _⟩
  | pre n => cases hr; rw [h.areg]; exact ⟨_, rfl, h.setA _ _⟩
  | disp n d => cases hr; rw [h.areg]; exact ⟨_, rfl, h.skip 1⟩
  | index n x =>
    rw [M68k.resolve] at hr ⊢
    split at hr <;> cases hr
    rename_i hx
    rw [if_pos hx, h.areg, h.indexed]
    exact ⟨_, rfl, h.skip 1⟩
  | absW a => cases hr; exact ⟨_, rfl, h.skip 1⟩
  | absL a => cases hr; exact ⟨_, rfl, h.skip 2⟩
  | pcDisp d => cases hr; rw [h.pc]; exact ⟨_, rfl, h.skip 1⟩
  | pcIndex x =>
    rw [M68k.resolve] at hr ⊢
    split at hr <;> cases hr
    rename_i hx
    rw [if_pos hx, h.pc, h.indexed]
    exact ⟨_, rfl, h.skip 1⟩
  | imm v => cases sz <;> cases hr <;> exact ⟨_, rfl, h.skip _⟩

/-- Only a data register operand is a data register. -/
theorem resolve_dreg {sz : Size} {ea : Ea} {n : Reg} {m' : M68k} (h : m.resolve sz ea = some (.dreg n, m')) : ea = .dn n := by
  cases ea <;> simp only [M68k.resolve] at h
  case dn => cases h; rfl
  case imm => cases sz <;> cases h
  case index | pcIndex => split at h <;> cases h
  all_goals cases h

/-- Only an address register operand is an address register. -/
theorem resolve_areg {sz : Size} {ea : Ea} {n : Reg} {m' : M68k} (h : m.resolve sz ea = some (.areg n, m')) : ea = .an n := by
  cases ea <;> simp only [M68k.resolve] at h
  case an => cases h; rfl
  case imm => cases sz <;> cases h
  case index | pcIndex => split at h <;> cases h
  all_goals cases h

end SameAddresses

/-! ### The bytes an instruction may store to -/

/-- The keys of the bytes that the instruction, begun in `s0`, stores to. -/
def Stored68k (i : Instr) (s0 : State) (k : Nat) : Prop := ∃ r ∈ i.stores68k s0.m68k, coveredBy68k s0.launch k r = true

/-- The instruction, begun in `s0`, runs the operation from registers of `p` within its frame, to registers of `q`. -/
abbrev Runs68k (i : Instr) (s0 : State) {α : Type} (p : M68k → Prop) (x : Op α) (q : α → M68k → Prop) : Prop :=
  Holds68k (Stored68k i s0) (Frame68k i s0.m68k) s0 p x q

theorem canStore_of_mem {i : Instr} {s0 : State} {a : Long} {sz : Size} (h : (a, sz.bytes) ∈ i.stores68k s0.m68k) :
    CanStore (Stored68k i s0) s0.launch a sz := by
  intro x hx k hk
  refine ⟨_, h, ?_⟩
  obtain ⟨j, hj, rfl⟩ := List.mem_map.1 hx
  exact List.any_eq_true.2 ⟨j, hj, decide_eq_true hk⟩

/-- What an instruction with a destination operand stores to. -/
def targetStores (i : Instr) (m : M68k) : List (Long × Nat) :=
  match i.target, i.atTarget m with
  | some (sz, ea), some m' =>
    match m'.resolve sz ea with
    | some (.mem a, _) => [(a, sz.bytes)]
    | _ => []
  | _, _ => []

theorem canStore_of_target {i : Instr} {s0 : State} {a : Long} {sz : Size} {ea : Ea} {m1 m' : M68k}
    (hs : i.stores68k s0.m68k = targetStores i s0.m68k) (ht : i.target = some (sz, ea)) (hat : i.atTarget s0.m68k = some m1)
    (hr : m1.resolve sz ea = some (.mem a, m')) : CanStore (Stored68k i s0) s0.launch a sz := by
  refine canStore_of_mem ?_
  rw [hs, targetStores, ht, hat]
  simp [hr]

theorem canFrame_of_stores {i : Instr} {s0 : State} {m1 m : M68k} (hs : i.stores68k s0.m68k = m1.frame) (h : SameAddresses m1 m) :
    CanFrame (Stored68k i s0) s0.launch m := by
  rw [CanFrame, h.enterSuper_sp]
  exact ⟨canStore_of_mem (sz := .l) (by rw [hs]; exact List.mem_cons_self),
    canStore_of_mem (sz := .w) (by rw [hs]; exact List.mem_cons_of_mem _ List.mem_cons_self)⟩

end Sys2Proof.Laws
end

section
/-! The operand forms and the rules that M68K instructions share, within the frame of the instruction. -/

namespace Sys2Proof.Laws

open Sys2Proof.Machine

/-! ### Operands -/

/-- Resolving the operand keeps what holds of the registers. -/
def Resolves (E : M68k → Prop) (ea : Ea) : Prop := ∀ sz m loc m', E m → M68k.resolve m sz ea = some (loc, m') → E m'

section Operands

variable {K : Nat → Prop} {E : M68k → Prop} {s0 : State} {α β γ : Type} {p : M68k → Prop} {q : α → M68k → Prop} {sz : Size} {ea : Ea}
  {m1 : M68k}

/-- What is known of the registers, taken apart. -/
theorem holds_elim {φ : γ → Prop} {r : γ → M68k → Prop} {x : Op α} (h : ∀ y, φ y → Holds68k K E s0 (r y) x q) :
    Holds68k K E s0 (fun m => ∃ y, φ y ∧ r y m) x q := fun c hi ⟨y, hy, hr⟩ => h y hy c hi hr

theorem holds_resolve (hE : Free68k E) (he : Resolves E ea) :
    Holds68k K E s0 (SameAddresses m1) (resolve sz ea)
      fun loc m => ∃ m', m1.resolve sz ea = some (loc, m') ∧ SameAddresses m' m := by
  intro c hi hp
  cases hr : c.st.m68k.resolve sz ea with
  | none => rw [resolve_none hr]; trivial
  | some x =>
    obtain ⟨loc, m'⟩ := x
    rw [resolve_some hr]
    obtain ⟨m1', h1, hs⟩ := hp.resolve hr
    exact ⟨hi.mapM68k (f := fun _ => m'.spend (.ea ea.kind sz)) (hE m' m'.pc _ m'.draws (he _ _ _ _ hi.registers hr)),
      m1', h1, hs.spend _⟩

theorem holds_readLoc (loc : Loc) : Holds68k K E s0 p (readLoc sz loc) fun _ => p := by
  cases loc with
  | mem a => exact holds_load68k sz a
  | imm v => exact holds_pure _
  | dreg n => exact holds_regs fun m _ hp => (holds_pure (p := p) _).pre fun _ _ e => e ▸ hp
  | areg n => exact holds_regs fun m _ hp => (holds_pure (p := p) _).pre fun _ _ e => e ▸ hp

theorem holds_readEa (hE : Free68k E) (he : Resolves E ea) :
    Holds68k K E s0 (SameAddresses m1) (readEa sz ea)
      fun _ m => ∃ x : Loc × M68k, m1.resolve sz ea = some x ∧ SameAddresses x.2 m :=
  (holds_resolve hE he).bind fun loc => (holds_readLoc loc).post fun _ _ _ ⟨m', h1, hs⟩ => ⟨(loc, m'), h1, hs⟩

theorem holds_readEa_any (hE : Free68k E) (he : Resolves E ea) : Holds68k K E s0 p (readEa sz ea) fun _ _ => True :=
  fun c hi _ => (holds_readEa (m1 := c.st.m68k) hE he).done c hi (same_refl _)

theorem holds_resolveAddress (hE : Free68k E) (he : Resolves E ea) :
    Holds68k K E s0 (SameAddresses m1) (resolveAddress sz ea)
      fun a m => ∃ m', m1.resolve sz ea = some (.mem a, m') ∧ SameAddresses m' m := by
  refine (holds_resolve hE he).bind fun loc => ?_
  cases loc with
  | mem a => exact (holds_value a).post fun b m _ ⟨e, h⟩ => e ▸ h
  | _ => exact holds_fault (by decide)

end Operands

/-! ### Operations of an instruction -/

/-- The operand is the destination of the instruction, resolved from the registers `m1`. -/
structure HasTarget (i : Instr) (s0 : State) (sz : Size) (ea : Ea) (m1 : M68k) : Prop where
  target : i.target = some (sz, ea)
  atTarget : i.atTarget s0.m68k = some m1
  stores : i.stores68k s0.m68k = targetStores i s0.m68k
  operand : ea ∈ i.operands

section Runs

variable {i : Instr} {s0 : State} {α β : Type} {p : M68k → Prop} {q : α → M68k → Prop} {sz : Size} {ea : Ea} {m1 m' : M68k} {n : Reg}

theorem resolves_frame (m0 : M68k) (he : ea ∈ i.operands) : Resolves (Frame68k i m0) ea := fun _ _ _ _ h hr => h.resolve he hr

theorem runs_skipWords (k : Nat) : Runs68k i s0 (SameAddresses m1) (skipWords k) fun _ => SameAddresses (m1.skip k) :=
  holds_setM68k fun _ hm hp => ⟨hm.skip k, hp.skip k⟩

theorem runs_skipWords_any (k : Nat) (hp : ∀ m, p m → p (m.skip k)) : Runs68k i s0 p (skipWords k) fun _ => p :=
  holds_setM68k fun m hm h => ⟨hm.skip k, hp m h⟩

/-- The displacement of a branch has no word, or one. -/
theorem runs_branchDisp (d : Disp) (hp : ∀ m, p m → p (m.skip 1)) : Runs68k i s0 p (branchDisp d) fun _ => p := by
  cases d with
  | short b => exact holds_pure _
  | word w => exact (runs_skipWords_any 1 hp).bind fun _ => holds_pure _

theorem runs_jump (t : Long) : Runs68k i s0 p (jump t) fun _ _ => True :=
  holds_setM68k fun m hm _ => ⟨free_frame i _ m t m.cyc m.draws hm, trivial⟩

theorem runs_setM68k {f : M68k → M68k} (h : ∀ m, Frame68k i s0.m68k m → p m → Frame68k i s0.m68k (f m)) :
    Runs68k i s0 p (setM68k f) fun _ _ => True := holds_setM68k fun m hm hp => ⟨h m hm hp, trivial⟩

/-- Flags written from those of the moment. -/
theorem runs_setCcr {f : Ccr → Ccr} (h : ∀ g, FlagsFrom i (f g) g) : Runs68k i s0 p (getCcr >>= fun g => setCcr (f g)) fun _ _ => True :=
  holds_ccr fun m hm _ => runs_setM68k fun _ hm' _ => hm'.setCcr hm (h m.ccr)

/-- Flags written from those of the moment, before the end of the rule. -/
theorem runs_setCcr_pure {f : Ccr → Ccr} {a : α} (h : ∀ g, FlagsFrom i (f g) g) :
    Runs68k i s0 p (getCcr >>= fun g => setCcr (f g) >>= fun _ => pure a) fun _ _ => True :=
  holds_ccr fun m hm _ => (runs_setM68k fun _ hm' _ => hm'.setCcr hm (h m.ccr)).andPure

theorem runs_setAllFlags (hf : i.flags68k = [.x, .n, .z, .v, .c]) (f : Ccr) : Runs68k i s0 p (setCcr f) fun _ _ => True :=
  runs_setM68k fun _ hm _ => hm.setCcr hm (flagsFrom_all hf)

theorem runs_writeTarget (ht : HasTarget i s0 sz ea m1) {loc : Loc} (hr : m1.resolve sz ea = some (loc, m')) (v : BitVec sz.bits) :
    Runs68k i s0 p (writeLoc sz loc v) fun _ _ => True := by
  cases loc with
  | dreg n => exact runs_setM68k fun _ hm _ => hm.setD _ (writesD_of_target (resolve_dreg hr ▸ ht.target))
  | areg n => exact runs_setM68k fun _ hm _ => hm.setA _ (writesA_of_target (resolve_areg hr ▸ ht.target))
  | mem a => exact (holds_store68k v (canStore_of_target ht.stores ht.target ht.atTarget hr)).done
  | imm x => exact (holds_pure ()).done

/-- The destination is read, and written with its flags (40 R276). -/
theorem runs_readWrite (ht : HasTarget i s0 sz ea m1) {f : BitVec sz.bits → M68k → BitVec sz.bits × Ccr}
    (hf : ∀ d m, FlagsFrom i (f d m).2 m.ccr) :
    Runs68k i s0 (SameAddresses m1) (do
      let t ← resolve sz ea
      let d ← readLoc sz t
      let m ← m68kRegs
      let r := f d m
      writeLoc sz t r.1
      setCcr r.2
      pure ([] : List Nat)) fun _ _ => True := by
  refine (holds_resolve (free_frame i _) (resolves_frame _ ht.operand)).bind fun loc => holds_elim fun m' hr => ?_
  refine (holds_readLoc loc).bind fun d => holds_regs fun m hm _ => ?_
  exact (runs_writeTarget ht hr _).bind fun _ => (runs_setM68k fun _ hm' _ => hm'.setCcr hm (hf d m)).andPure

theorem runs_updateEa (ht : HasTarget i s0 sz ea m1) {f : BitVec sz.bits → M68k → BitVec sz.bits × Ccr}
    (hf : ∀ d m, FlagsFrom i (f d m).2 m.ccr) : Runs68k i s0 (SameAddresses m1) (updateEa sz ea f) fun _ _ => True :=
  runs_readWrite ht hf

theorem runs_immToEa {imm : Long} (ht : HasTarget i s0 sz ea (m1.skip (immWords sz))) {f : Alu sz.bits}
    (hf : ∀ s d g, FlagsFrom i (f s d g).2 g) : Runs68k i s0 (SameAddresses m1) (immToEa sz imm ea f) fun _ _ => True :=
  (runs_skipWords _).bind fun _ => runs_updateEa ht fun _ _ => hf _ _ _

theorem runs_dnToEa (ht : HasTarget i s0 sz ea m1) {f : Alu sz.bits} (hf : ∀ s d g, FlagsFrom i (f s d g).2 g) :
    Runs68k i s0 (SameAddresses m1) (dnToEa sz n ea f) fun _ _ => True := runs_updateEa ht fun _ _ => hf _ _ _

theorem runs_readEa (he : ea ∈ i.operands) : Runs68k i s0 p (readEa sz ea) fun _ _ => True :=
  holds_readEa_any (free_frame i _) (resolves_frame _ he)

theorem runs_eaToDn (he : ea ∈ i.operands) (hn : i.writesD n = true) {f : Alu sz.bits} (hf : ∀ s d g, FlagsFrom i (f s d g).2 g) :
    Runs68k i s0 p (eaToDn sz ea n f) fun _ _ => True :=
  (runs_readEa he).bind fun _ => holds_regs fun _ hm _ =>
    (runs_setM68k fun _ hm' _ => (hm'.setD _ hn).setCcr hm (hf _ _ _)).andPure

theorem runs_quickToEa {q : BitVec 3} {onAn : Long → Long → Long} {f : Alu sz.bits}
    (hn : ∀ n, ea = .an n → i.writesA n = true) (ht : HasTarget i s0 sz ea m1)
    (hf : ea.kind ≠ .an → ∀ s d g, FlagsFrom i (f s d g).2 g) :
    Runs68k i s0 (SameAddresses m1) (quickToEa sz q ea onAn f) fun _ _ => True := by
  cases ea with
  | an n => exact (runs_setM68k fun _ hm _ => hm.setA _ (hn n rfl)).andPure
  | _ => exact runs_updateEa ht fun _ _ => hf (nomatch ·) _ _ _

theorem runs_moveOp {src dst : Ea} (hs : src ∈ i.operands)
    (ht : ∀ loc m', m1.resolve sz src = some (loc, m') → HasTarget i s0 sz dst m')
    (hf : i.flags68k = [.n, .z, .v, .c]) : Runs68k i s0 (SameAddresses m1) (moveOp sz src dst) fun _ _ => True := by
  refine (holds_resolve (free_frame i _) (resolves_frame _ hs)).bind fun loc => holds_elim fun m' hr => ?_
  have ht := ht loc m' hr
  refine (holds_resolve (free_frame i _) (resolves_frame _ ht.operand)).bind fun loc' => holds_elim fun m'' hr' => ?_
  exact (holds_readLoc loc).bind fun v => (runs_writeTarget ht hr' v).bind fun _ => runs_setCcr_pure fun g => flagsFrom_x hf rfl

theorem runs_extended_mem {y x : Reg} {f : Alu sz.bits} (hy : Ea.pre y ∈ i.operands)
    (ht : ∀ loc m', m1.resolve sz (.pre y) = some (loc, m') → HasTarget i s0 sz (.pre x) m')
    (hf : ∀ s d g, FlagsFrom i (f s d g).2 g) :
    Runs68k i s0 (SameAddresses m1) (extended sz true y x f) fun _ _ => True :=
  (holds_readEa (free_frame i _) (resolves_frame _ hy)).bind fun _ => holds_elim fun r hr =>
    runs_readWrite (ht r.1 r.2 hr) fun _ _ => hf _ _ _

theorem runs_extended_reg {y x : Reg} {f : Alu sz.bits} (hn : i.writesD x = true) (hf : ∀ s d g, FlagsFrom i (f s d g).2 g) :
    Runs68k i s0 p (extended sz false y x f) fun _ _ => True :=
  holds_regs fun _ hm _ => (runs_setM68k fun _ hm' _ => (hm'.setD _ hn).setCcr hm (hf _ _ _)).andPure

theorem runs_compareOp (hf : i.flags68k = [.n, .z, .v, .c]) {k : Nat} (a b : BitVec k) :
    Runs68k i s0 p (compareOp a b) fun _ _ => True := runs_setCcr_pure fun _ => flagsFrom_x hf rfl

theorem runs_readEaLong (he : ea ∈ i.operands) : Runs68k i s0 p (readEaLong sz ea) fun _ _ => True :=
  (runs_readEa he).andPure

theorem runs_setProduct (hf : i.flags68k = [.n, .z, .v, .c]) (hn : i.writesD n = true) (v : Long) :
    Runs68k i s0 p (setProduct n v) fun _ _ => True :=
  runs_setM68k fun _ hm _ => (hm.setD v hn).setCcr hm (flagsFrom_x hf rfl)

theorem runs_shiftReg {c : ShiftCount} {step : Shift sz.bits → Shift sz.bits} {useV rox : Bool} (hn : i.writesD n = true)
    (hf : ∀ k v g, FlagsFrom i (shiftResult step useV rox k v g).2 g) :
    Runs68k i s0 p (shiftReg sz c n step useV rox) fun _ _ => True :=
  holds_regs fun _ hm _ => (runs_setM68k fun _ hm' _ => (hm'.setD _ hn).setCcr hm (hf _ _ _)).andPure

theorem runs_shiftMem {step : Shift 16 → Shift 16} {useV rox : Bool} (ht : HasTarget i s0 .w ea m1)
    (hf : ∀ k v g, FlagsFrom i (shiftResult step useV rox k v g).2 g) :
    Runs68k i s0 (SameAddresses m1) (shiftMem ea step useV rox) fun _ _ => True :=
  (runs_updateEa ht fun _ _ => hf _ _ _).andPure

/-- The flags of a rotation: X is kept. -/
theorem flagsFrom_rotation (hf : i.flags68k = [.n, .z, .v, .c]) {w : Nat} {step : Shift w → Shift w} (hx : ∀ s, (step s).x = s.x)
    (useV rox : Bool) (k : Nat) (v : BitVec w) (g : Ccr) : FlagsFrom i (shiftResult step useV rox k v g).2 g :=
  flagsFrom_x hf (times_x hx k _)

theorem runs_bitTest (he : ea ∈ i.operands) (hf : i.flags68k = [.z]) (k : Long) : Runs68k i s0 p (bitTest ea k) fun _ _ => True :=
  (runs_readEa he).bind fun _ => runs_setCcr_pure fun _ => flagsFrom_z hf _

theorem runs_bitUpdate {change : BitChange} (ht : HasTarget i s0 (bitOpSize ea) ea m1) (hf : i.flags68k = [.z]) (k : Long) :
    Runs68k i s0 (SameAddresses m1) (bitUpdate ea k change) fun _ _ => True :=
  runs_updateEa ht fun _ _ => flagsFrom_z hf _

theorem runs_immToCcr {imm : Word} {f : BitVec 5 → BitVec 5 → BitVec 5} (hf : i.flags68k = [.x, .n, .z, .v, .c]) :
    Runs68k i s0 (SameAddresses m1) (immToCcr imm f) fun _ _ => True :=
  (runs_skipWords 1).bind fun _ => runs_setCcr_pure (f := fun g => Ccr.ofBits (f g.bits (imm.setWidth 5))) fun _ => flagsFrom_all hf

/-! ### The stack -/

/-- The stack slot of a call or of LINK. -/
theorem canStore_of_slot {m : M68k} (h : i.stores68k s0.m68k = m.slot) : CanStore (Stored68k i s0) s0.launch (m.sp - 4#32) .l :=
  canStore_of_mem (sz := .l) (by rw [h]; exact List.mem_cons_self)

theorem runs_push {v : Long} (ha : i.writesA 7#3 = true) (hs : i.stores68k s0.m68k = m1.slot) :
    Runs68k i s0 (SameAddresses m1) (push68k .l v) fun _ _ => True :=
  (holds_push68k (freeSp_frame _ ha) (sz := .l) v (fun _ hm => congrArg (· - 4#32) hm.sp) (canStore_of_slot hs)).done

theorem runs_pop (ha : i.writesA 7#3 = true) (sz : Size) : Runs68k i s0 p (pop68k sz) fun _ _ => True :=
  holds_pop68k (freeSp_frame _ ha) sz

/-! ### Exceptions -/

theorem runs_raise68k {v : Nat} {spc : Long} (hi : i.mayTrap = true) (hs : i.stores68k s0.m68k = m1.frame)
    (hp : ∀ m, p m → SameAddresses m1 m) : Runs68k i s0 p (raise68k v spc : Op α) q :=
  holds_raise68k (freeEntry_frame _ hi) v spc fun m _ h => canFrame_of_stores hs (hp m h)

theorem SameAddresses.frame {m1 m : M68k} (h : SameAddresses m1 m) : m.frame = m1.frame := by
  rw [M68k.frame, h.enterSuper_sp]
  rfl

/-- The frame does not depend on PC. -/
theorem frame_skip (m : M68k) (k : Nat) : (m.skip k).frame = m.frame := by
  rw [M68k.frame, M68k.frame, sp_enterSuper, sp_enterSuper]
  rfl

theorem stores_privileged (hs : i.stores68k s0.m68k = if s0.m68k.super then [] else s0.m68k.frame)
    (hu : s0.m68k.super = false) : i.stores68k s0.m68k = (s0.m68k.skip 1).frame := by
  rw [hs, hu, frame_skip]
  rfl

/-- A privileged instruction in user mode raises its exception, and stores no more (45 R495). -/
theorem runs_privileged (hi : i.isPrivileged = true) (hs : i.stores68k s0.m68k = if s0.m68k.super then [] else s0.m68k.frame) :
    Runs68k i s0 (SameAddresses (s0.m68k.skip 1)) privileged fun _ => SameAddresses (s0.m68k.skip 1) := by
  refine holds_privileged (freeEntry_frame _ (Bool.or_inl hi)) fun m _ hm hu => ?_
  exact canFrame_of_stores (stores_privileged hs (hm.super.symm.trans hu)) hm

theorem runs_immToSr {imm : Word} {f : Word → Word → Word} (hi : i.isPrivileged = true) (hw : i.writesSr = true)
    (hs : i.stores68k s0.m68k = if s0.m68k.super then [] else s0.m68k.frame) :
    Runs68k i s0 (SameAddresses (s0.m68k.skip 1)) (immToSr imm f) fun _ _ => True :=
  (runs_privileged hi hs).bind fun _ => (runs_skipWords 1).bind fun _ => (runs_setM68k fun _ hm _ => hm.writeSr _ hw).andPure

theorem runs_illegalPolicy {v : Nat} (hi : i.mayTrap = true) (hs : i.stores68k s0.m68k = m1.frame) :
    Runs68k i s0 (SameAddresses m1) (illegalPolicy v) fun _ _ => True :=
  holds_illegalPolicy (freeEntry_frame _ hi) (fun _ r h => h.run r hi) v fun _ _ h => canFrame_of_stores hs h

theorem runs_draw68k : Runs68k i s0 (SameAddresses m1) draw68k fun _ => SameAddresses m1 := by
  intro c hi hp
  exact ⟨hi.mapM68k (f := fun m => { m with draws := m.draws + 1 }) (free_frame i _ c.st.m68k _ _ _ hi.registers), hp.draw _⟩

/-- Flags written on registers whose addresses are known. -/
theorem runs_setFlags {m : M68k} {f : Ccr} (hm : Frame68k i s0.m68k m) (h : FlagsFrom i f m.ccr) :
    Runs68k i s0 (SameAddresses m1) (setCcr f) fun _ => SameAddresses m1 :=
  holds_setM68k fun _ hm' hp => ⟨hm'.setCcr hm h, hp.setCcr f⟩

theorem runs_zeroDivide (hi : i.mayTrap = true) (hf : i.flags68k = [.n, .z, .v, .c]) (hs : i.stores68k s0.m68k = m1.frame) :
    Runs68k i s0 (SameAddresses m1) zeroDivide fun _ _ => False := by
  refine runs_draw68k.bind fun _ => runs_draw68k.bind fun _ => runs_draw68k.bind fun _ => holds_regs fun m hm hp => ?_
  refine Holds68k.bind (q := fun _ => SameAddresses m1) (Holds68k.pre (runs_setFlags hm (flagsFrom_x hf rfl)) fun _ _ e => ?_) fun _ => ?_
  · exact e ▸ hp
  exact runs_raise68k hi hs fun _ h => h

theorem runs_divideOverflow (hf : i.flags68k = [.n, .z, .v, .c]) : Runs68k i s0 p divideOverflow fun _ _ => True :=
  (holds_draw68k (free_frame i _)).bind fun _ => (holds_draw68k (free_frame i _)).bind fun _ =>
    runs_setCcr fun _ => flagsFrom_x hf rfl

theorem runs_divideResult (hf : i.flags68k = [.n, .z, .v, .c]) (hn : i.writesD n = true) (a b : Word) :
    Runs68k i s0 p (divideResult n a b) fun _ _ => True :=
  runs_setM68k fun _ hm _ => (hm.setD _ hn).setCcr hm (flagsFrom_x hf rfl)

/-- A division on a divisor other than 0. -/
theorem runs_division {c : Prop} [Decidable c] {a b : Word} {data : List Nat} (hf : i.flags68k = [.n, .z, .v, .c])
    (hn : i.writesD n = true) : Runs68k i s0 p (do
      if c then divideOverflow else divideResult n a b
      pure data) fun _ _ => True :=
  Holds68k.ite (fun _ => (runs_divideOverflow hf).andPure) fun _ => (runs_divideResult hf hn a b).andPure

/-- What an instruction that traps after an operand stacks. -/
theorem stores_operand {x : Loc × M68k}
    (hs : i.stores68k s0.m68k = (((s0.m68k.skip 1).resolve .w ea).map fun x => x.2.frame).getD [])
    (hr : (s0.m68k.skip 1).resolve .w ea = some x) : i.stores68k s0.m68k = x.2.frame := by
  rw [hs, hr]
  rfl

/-! ### MOVEM and MOVEP -/

theorem sub_sub_step (a : Long) (b k : Nat) : a - BitVec.ofNat 32 b - BitVec.ofNat 32 (b * k) = a - BitVec.ofNat 32 (b * (k + 1)) := by
  rw [BitVec.sub_sub, Nat.mul_succ, Nat.add_comm, BitVec.ofNat_add]

theorem add_add_step (a : Long) (b k : Nat) : a + BitVec.ofNat 32 b + BitVec.ofNat 32 (b * k) = a + BitVec.ofNat 32 (b * (k + 1)) := by
  rw [BitVec.add_assoc, Nat.mul_succ, Nat.add_comm, BitVec.ofNat_add]

theorem runs_movemStoreDown {base : Reg} {a0 : Long} (bits : List (BitVec 4)) (a : Long)
    (h : ∀ k < bits.length, CanStore (Stored68k i s0) s0.launch (a - BitVec.ofNat 32 (sz.bytes * (k + 1))) sz) :
    Runs68k i s0 p (movemStoreDown sz base a0 bits a) fun _ _ => True := by
  induction bits generalizing a p with
  | nil => exact (holds_pure a).done
  | cons b r ih =>
    refine holds_regs fun m _ _ => (holds_store68k _ ?_).bind fun _ => ih _ fun k hk => ?_
    · simpa using h 0 (by simp)
    · rw [sub_sub_step]
      exact h (k + 1) (by simpa using hk)

theorem runs_movemStoreUp (bits : List (BitVec 4)) (a : Long)
    (h : ∀ k < bits.length, CanStore (Stored68k i s0) s0.launch (a + BitVec.ofNat 32 (sz.bytes * k)) sz) :
    Runs68k i s0 p (movemStoreUp sz bits a) fun _ _ => True := by
  induction bits generalizing a p with
  | nil => exact (holds_pure ()).done
  | cons b r ih =>
    refine holds_regs fun m _ _ => (holds_store68k _ ?_).bind fun _ => ih _ fun k hk => ?_
    · simpa using h 0 (by simp)
    · rw [add_add_step]
      exact h (k + 1) (by simpa using hk)

theorem runs_movemLoadUp (bits : List (BitVec 4)) (a : Long)
    (h : ∀ b ∈ bits, ∀ m v, Frame68k i s0.m68k m → Frame68k i s0.m68k (m.setRegFile b v)) :
    Runs68k i s0 p (movemLoadUp sz bits a) fun _ _ => True := by
  induction bits generalizing a p with
  | nil => exact (holds_pure a).done
  | cons b r ih =>
    exact (holds_load68k sz a).bind fun v => (runs_setM68k fun m hm _ => h b List.mem_cons_self m _ hm).bind fun _ =>
      ih _ fun b hb => h b (List.mem_cons_of_mem _ hb)

theorem runs_movepRead (k : Nat) (a v : Long) : Runs68k i s0 p (movepRead k a v) fun _ _ => True := by
  induction k generalizing a v with
  | zero => exact (holds_pure v).done
  | succ k ih => exact (holds_load68k .b a).bind fun _ => ih _ _

theorem runs_movepWrite (k : Nat) (a v : Long)
    (h : ∀ j < k, CanStore (Stored68k i s0) s0.launch (a + BitVec.ofNat 32 (2 * j)) .b) :
    Runs68k i s0 p (movepWrite k a v) fun _ _ => True := by
  induction k generalizing a with
  | zero => exact (holds_pure ()).done
  | succ k ih =>
    refine (holds_store68k _ ?_).bind fun _ => ih _ fun j hj => ?_
    · simpa using h 0 (by simp)
    · exact add_add_step a 2 j ▸ h (j + 1) (by simpa using hj)

end Runs

end Sys2Proof.Laws
end

section
/-! Every M68K instruction stays within its frame: its outcome, however it ends. -/

namespace Sys2Proof.Laws

open Sys2Proof.Machine

/-! ### The outcome of an activity -/

/-- The outcome of an M68K activity begun in `s`: a state within the frame, perhaps crashed, or one that waits in the activity, as
`State.start68k` begins it again (log 4). -/
def Outcome68k (K : Nat → Prop) (E : M68k → Prop) (act : Act68k) (s : State) (x : Host.Outcome State Fault Refusal) : Prop :=
  match x with
  | .next t =>
    In68k K E s.start68k.st t ∨
    (E t.m68k ∧ ∃ u, In68k K (fun _ => True) s.start68k.st u ∧ t = u.halt68k .crashed) ∨
    ∃ u mb log, In68k K E s.start68k.st u ∧ mb.intLevel = s.bus.mb68k.intLevel ∧
      t = { u with
        bus := { u.bus with mb68k := mb }
        wait68k := some { act := act, snap := s.start68k.st.m68k, log := log } }
  | .fault f => s.bus.mb68k.op = .none → f ≠ .protocolSecondAccess
  | .refused _ => True

/-- M68K begins again from its own first registers, with the rest of the state as it is (log 4). -/
theorem start68k_st (s : State) : s.start68k.st = { s with m68k := s.start68k.st.m68k, wait68k := none } := by
  rw [State.start68k]
  cases h : s.wait68k with
  | none => simp only [← h]
  | some w => rfl

theorem start68k_bus (s : State) : s.start68k.st.bus = s.bus := by rw [start68k_st]

theorem in68k_refl {K : Nat → Prop} {E : M68k → Prop} {s : State} (h : E s.m68k) : In68k K E s s := ⟨_, h, touches_refl K s⟩

theorem outcome_stopped {K : Nat → Prop} {E : M68k → Prop} {s : State} {c : Ctx} (act : Act68k) (e : Stop)
    (h : Stops68k K E s.start68k.st e c) : Outcome68k K E act s (finish68k act s (.error e c)) := by
  cases e with
  | ended => exact h.elim .inl fun h => .inr (.inl h)
  | fault f => exact fun hop => h (by rw [start68k_bus]; exact hop)
  | refused r => trivial
  | wait =>
    obtain ⟨u, mb, hu, hmb, ht⟩ := h
    rw [start68k_bus] at hmb
    exact .inr (.inr ⟨u, mb, c.done, hu, hmb, by simp only [ht]; rfl⟩)

theorem outcome_finish {K : Nat → Prop} {E : M68k → Prop} {s : State} {p : M68k → Prop} {x : Op Unit} {c : Ctx}
    {q : Unit → M68k → Prop} (act : Act68k) (hx : Holds68k K E s.start68k.st p x q) (hc : c.st = s.start68k.st)
    (hE : E s.start68k.st.m68k) (hp : p s.start68k.st.m68k) : Outcome68k K E act s (finish68k act s (x c)) := by
  have hi : In68k K E s.start68k.st c.st := by rw [hc]; exact in68k_refl hE
  have hpc : p c.st.m68k := hc ▸ hp
  cases hr : x c with
  | ok a d => exact .inl (Keeps.of_ok hx hi hpc hr).1
  | error e d => exact outcome_stopped act e (Keeps.of_error hx hi hpc hr)

/-- The outcome of the instruction `i` is within its frame. -/
def Within68k (i : Instr) (s : State) (x : Host.Outcome State Fault Refusal) : Prop :=
  Outcome68k (Stored68k i s.start68k.st) (Frame68k i s.start68k.st.m68k) (.exec i) s x

theorem within_run68k {i : Instr} {s : State} {rule : Op (List Nat)}
    (h : Runs68k i s.start68k.st (SameAddresses (s.start68k.st.m68k.skip 1)) rule fun _ _ => True) : Within68k i s (run68k i rule s) := by
  refine outcome_finish (p := (· = s.start68k.st.m68k)) (q := fun _ _ => True) _ ?_ rfl (frame_refl _ _) rfl
  refine (holds_setM68k (r := fun _ => SameAddresses (s.start68k.st.m68k.skip 1)) fun m hm e => ⟨hm.skip 1, ?_⟩).bind fun _ => ?_
  · rw [e]; exact same_refl _
  · exact h.bind fun _ => holds_spend68k (free_frame i _) _

theorem within_refuse {i : Instr} (r : Refusal) (s : State) : Within68k i s (refuse r s) := trivial

/-! ### Registers of a list of MOVEM -/

theorem setRegFile_in_frame {i : Instr} {m0 : M68k} {mask : Word} (hd : ∀ n : Reg, mask.getLsbD n.toNat = true → i.writesD n = true)
    (ha : ∀ n : Reg, mask.getLsbD (8 + n.toNat) = true → i.writesA n = true) :
    ∀ b ∈ maskBits mask, ∀ m v, Frame68k i m0 m → Frame68k i m0 (m.setRegFile b v) := by
  intro b hb m v hm
  obtain ⟨k, hk, rfl⟩ := List.mem_map.1 hb
  obtain ⟨hk16, hmask⟩ := List.mem_filter.1 hk
  have hlt : k < 16 := List.mem_range.1 hk16
  have low : ((BitVec.ofNat 4 k).setWidth 3).toNat = k % 8 := by simp
  have bit : ∀ k < 16, (BitVec.ofNat 4 k).getLsbD 3 = decide (8 ≤ k) := by decide
  have high := bit k hlt
  refine hm.setRegFile v (fun h => hd _ ?_) fun h => ha _ ?_
  · rw [low, Nat.mod_eq_of_lt (by rw [high] at h; simpa using h)]
    exact hmask
  · have : 8 + k % 8 = k := by rw [high] at h; simp at h; omega
    rw [low, this]
    exact hmask

/-- The stores of MOVEM at rising addresses. -/
theorem canStore_movem {sz : Size} {mask : Word} {ea : Ea} {s0 : State} {a : Long} {m' : M68k} (hp : ∀ n, ea ≠ .pre n)
    (hr : (s0.m68k.skip 2).resolve sz ea = some (.mem a, m')) {k : Nat} (hk : k < (maskBits mask).length) :
    CanStore (Stored68k (.movemStore sz mask ea) s0) s0.launch (a + BitVec.ofNat 32 (sz.bytes * k)) sz := by
  refine canStore_of_mem ?_
  have hs : (Instr.movemStore sz mask ea).stores68k s0.m68k =
      (List.range (maskBits mask).length).map fun k => (a + BitVec.ofNat 32 (sz.bytes * k), sz.bytes) := by
    cases ea with
    | pre n => exact absurd rfl (hp n)
    | _ =>
      dsimp only [Instr.stores68k]
      rw [hr]
  rw [hs]
  exact List.mem_map.2 ⟨k, List.mem_range.2 hk, rfl⟩

theorem runs_movemUp {sz : Size} {mask : Word} {ea : Ea} {s0 : State} (hp : ∀ n, ea ≠ .pre n) :
    Runs68k (.movemStore sz mask ea) s0 (SameAddresses (s0.m68k.skip 2))
      (resolveAddress sz ea >>= fun a => movemStoreUp sz (maskBits mask) a >>= fun _ => pure ([] : List Nat)) fun _ _ => True :=
  (holds_resolveAddress (free_frame _ _) (resolves_frame _ List.mem_cons_self)).bind fun a => holds_elim fun _ hr =>
    (runs_movemStoreUp _ a fun _ hk => canStore_movem hp hr hk).andPure

theorem runs_movemLoad {sz : Size} {mask : Word} {ea : Ea} {s0 : State} {p : M68k → Prop} (a : Long) :
    Runs68k (.movemLoad sz mask ea) s0 p (movemLoadUp sz (maskBits mask) a) fun _ _ => True := by
  refine runs_movemLoadUp _ a (setRegFile_in_frame (fun n h => ?_) fun n h => ?_)
  · exact h
  · exact Bool.or_inr h

end Sys2Proof.Laws
end

section
/-! Every M68K instruction stays within its frame: the walk over the instructions. -/

namespace Sys2Proof.Laws

open Sys2Proof.Machine

/-- The destination of an immediate form, past the immediate words. -/
theorem hasTarget_imm {i : Instr} {s0 : State} {sz : Size} {ea : Ea} {k : Nat} (ht : i.target = some (sz, ea))
    (hat : i.atTarget s0.m68k = some (s0.m68k.skip (1 + k))) (hs : i.stores68k s0.m68k = targetStores i s0.m68k)
    (he : ea ∈ i.operands) : HasTarget i s0 sz ea ((s0.m68k.skip 1).skip k) :=
  ⟨ht, hat.trans (congrArg some (skip_skip _ _ _).symm), hs, he⟩

theorem exec_within {i : Instr} (s : State) (h : i.is68k = true) : Within68k i s (exec i s) := by
  cases i <;> dsimp only [exec]
  -- 42: data movement
  case moveB | moveL | moveW =>
    exact within_run68k <| runs_moveOp List.mem_cons_self
      (fun loc m' hr => ⟨rfl, by exact congrArg (Option.map fun x => x.2) hr, rfl, List.mem_cons_of_mem _ List.mem_cons_self⟩) rfl
  case moveaL | moveaW =>
    exact within_run68k <| (runs_readEa List.mem_cons_self).bind fun _ =>
      (runs_setM68k fun _ hm _ => hm.setA _ (by exact Bool.or_inr (decide_eq_true rfl))).andPure
  case moveq =>
    exact within_run68k <| (runs_setProduct rfl (by exact Bool.or_inr (decide_eq_true rfl)) _).andPure
  case movemStore sz mask ea =>
    refine within_run68k <| (runs_skipWords 1).bind fun _ => ?_
    rw [skip_skip]
    cases ea with
    | pre n =>
      refine holds_regs fun m _ hp => ?_
      have ha : m.areg n = s.start68k.st.m68k.areg n := hp.areg n
      refine (runs_movemStoreDown (p := fun _ => True) _ _ fun k hk => ?_).any.bind fun a =>
        (runs_setM68k fun _ hm _ => hm.setA a (by exact writesA_of_pre List.mem_cons_self)).andPure
      rw [ha]
      exact canStore_of_mem (List.mem_map.2 ⟨k, List.mem_range.2 hk, rfl⟩)
    | _ => exact runs_movemUp fun _ h => nomatch h
  case movemLoad sz mask ea =>
    refine within_run68k <| (runs_skipWords 1).bind fun _ => ?_
    cases ea with
    | post n =>
      exact holds_regs fun m _ _ => (runs_movemLoad _).bind fun a =>
        (runs_setM68k fun _ hm _ => hm.setA a (by exact writesA_of_post List.mem_cons_self)).andPure
    | _ =>
      exact (holds_resolveAddress (free_frame _ _) (resolves_frame _ List.mem_cons_self)).bind fun a => (runs_movemLoad a).andPure
  case movepLoad =>
    exact within_run68k <| (runs_skipWords 1).bind fun _ => holds_regs fun _ _ _ => (runs_movepRead _ _ _).bind fun _ =>
      (runs_setM68k fun _ hm _ => hm.setD _ (by exact Bool.or_inr (decide_eq_true rfl))).andPure
  case movepStore sz x y d =>
    refine within_run68k <| (runs_skipWords 1).bind fun _ => holds_regs fun m _ hp => (runs_movepWrite _ _ _ fun j hj => ?_).andPure
    rw [hp.areg]
    exact canStore_of_mem (sz := .b) (List.mem_map.2 ⟨j, List.mem_range.2 hj, rfl⟩)
  case lea =>
    exact within_run68k <| (holds_resolveAddress (free_frame _ _) (resolves_frame _ List.mem_cons_self)).bind fun _ =>
      (runs_setM68k fun _ hm _ => hm.setA _ (by exact Bool.or_inr (decide_eq_true rfl))).andPure
  case pea =>
    refine within_run68k <| (holds_resolveAddress (free_frame _ _) (resolves_frame _ List.mem_cons_self)).bind fun _ =>
      holds_elim fun m' hr => (runs_push (by exact Bool.or_inr (decide_eq_true rfl)) ?_).andPure
    dsimp only [Instr.stores68k]
    rw [hr]
    rfl
  case exgDD x y =>
    exact within_run68k <| (runs_setM68k fun _ hm _ =>
      (hm.setD _ (by exact Bool.or_inr (by simp))).setD _ (by exact Bool.or_inr (by simp))).andPure
  case exgAA x y =>
    exact within_run68k <| (runs_setM68k fun _ hm _ =>
      (hm.setA _ (by exact Bool.or_inr (by simp))).setA _ (by exact Bool.or_inr (by simp))).andPure
  case exgDA x y =>
    exact within_run68k <| (runs_setM68k fun _ hm _ =>
      (hm.setD _ (by exact Bool.or_inr (by simp))).setA _ (by exact Bool.or_inr (by simp))).andPure
  case swap =>
    exact within_run68k <| holds_regs fun _ _ _ => (runs_setProduct rfl (by exact Bool.or_inr (decide_eq_true rfl)) _).andPure
  case link n d =>
    refine within_run68k <| (runs_skipWords 1).bind fun _ => ?_
    refine Holds68k.ite (fun _ => holds_refused_bind _) fun _ => ?_
    refine holds_regs fun m _ hp => ?_
    refine ((runs_push (m1 := s.start68k.st.m68k.skip 2) (by exact Bool.or_inr (by simp)) rfl).pre fun _ _ e => ?_).bind fun _ => ?_
    · rw [e, ← skip_skip _ 1 1]
      exact hp
    · exact (runs_setM68k fun _ hm _ => hm.setA _ (by exact Bool.or_inr (by simp))).bind fun _ =>
        (runs_setM68k fun _ hm _ => hm.setA _ (by exact Bool.or_inr (by simp))).andPure
  case unlk n =>
    refine within_run68k <| Holds68k.ite (fun _ => holds_refused_bind _) fun _ => ?_
    exact (runs_setM68k fun _ hm _ => hm.setA _ (by exact Bool.or_inr (by simp))).bind fun _ => holds_regs fun _ _ _ =>
      (holds_load68k .l _).bind fun _ => (runs_setM68k fun _ hm _ => hm.setA _ (by exact Bool.or_inr (by simp))).bind fun _ =>
        (runs_setM68k fun _ hm _ => hm.setA _ (by exact Bool.or_inr (by simp))).andPure
  case moveToCcr =>
    exact within_run68k <| (runs_readEa List.mem_cons_self).bind fun _ => (runs_setAllFlags rfl _).andPure
  case moveToSr =>
    exact within_run68k <| (runs_privileged rfl rfl).bind fun _ => (runs_readEa List.mem_cons_self).bind fun _ =>
      (runs_setM68k fun _ hm _ => hm.writeSr _ rfl).andPure
  case moveFromSr =>
    refine within_run68k <| (holds_resolve (free_frame _ _) (resolves_frame _ List.mem_cons_self)).bind fun loc =>
      holds_elim fun m' hr => holds_regs fun _ _ _ => (runs_writeTarget ⟨rfl, rfl, rfl, List.mem_cons_self⟩ hr _).andPure
  case moveUsp toAn n =>
    refine within_run68k <| (runs_privileged rfl rfl).bind fun _ => ?_
    cases toAn with
    | true => exact (runs_setM68k fun _ hm _ => hm.setA _ (by exact Bool.or_inr (decide_eq_true rfl))).andPure
    | false =>
      exact (runs_setM68k fun _ hm _ => by exact hm.setOsp _ rfl).andPure
  -- 43: arithmetic
  case addToDn | subToDn =>
    exact within_run68k <| runs_eaToDn List.mem_cons_self (by exact Bool.or_inr (decide_eq_true rfl)) fun _ _ _ => flagsFrom_all rfl
  case addToEa | subToEa =>
    exact within_run68k <| runs_dnToEa ⟨rfl, rfl, rfl, List.mem_cons_self⟩ fun _ _ _ => flagsFrom_all rfl
  case adda | suba =>
    exact within_run68k <| (runs_readEaLong List.mem_cons_self).bind fun _ =>
      (runs_setM68k fun _ hm _ => hm.setA _ (by exact Bool.or_inr (decide_eq_true rfl))).andPure
  case addi | subi =>
    exact within_run68k <| runs_immToEa (hasTarget_imm rfl rfl rfl List.mem_cons_self) fun _ _ _ => flagsFrom_all rfl
  case addq | subq =>
    exact within_run68k <| runs_quickToEa (fun n e => by subst e; exact writesA_of_target rfl)
      ⟨rfl, rfl, rfl, List.mem_cons_self⟩ fun hk _ _ _ => flagsFrom_all (if_neg hk)
  case addx sz mem y x | subx sz mem y x =>
    refine within_run68k ?_
    cases mem with
    | true =>
      exact runs_extended_mem List.mem_cons_self (fun loc m' hr => ⟨rfl, by exact congrArg (Option.map fun x => x.2) hr, rfl,
        List.mem_cons_of_mem _ List.mem_cons_self⟩) fun _ _ _ => flagsFrom_all rfl
    | false => exact runs_extended_reg (by exact Bool.or_inr (decide_eq_true rfl)) fun _ _ _ => flagsFrom_all rfl
  case neg | negx =>
    exact within_run68k <| runs_updateEa ⟨rfl, rfl, rfl, List.mem_cons_self⟩ fun _ _ => flagsFrom_all rfl
  case clr =>
    exact within_run68k <| (holds_resolve (free_frame _ _) (resolves_frame _ List.mem_cons_self)).bind fun loc =>
      holds_elim fun m' hr => (runs_writeTarget ⟨rfl, rfl, rfl, List.mem_cons_self⟩ hr _).bind fun _ =>
        runs_setCcr_pure fun _ => flagsFrom_x rfl rfl
  case cmp =>
    exact within_run68k <| (runs_readEa List.mem_cons_self).bind fun _ => holds_regs fun _ _ _ => runs_compareOp rfl _ _
  case cmpa =>
    exact within_run68k <| (runs_readEaLong List.mem_cons_self).bind fun _ => holds_regs fun _ _ _ => runs_compareOp rfl _ _
  case cmpi =>
    exact within_run68k <| (runs_skipWords _).bind fun _ => (runs_readEa List.mem_cons_self).bind fun _ => runs_compareOp rfl _ _
  case cmpm =>
    exact within_run68k <| (runs_readEa List.mem_cons_self).bind fun _ =>
      (runs_readEa (List.mem_cons_of_mem _ List.mem_cons_self)).bind fun _ => runs_compareOp rfl _ _
  case tst =>
    exact within_run68k <| (runs_readEa List.mem_cons_self).bind fun _ => runs_setCcr_pure fun _ => flagsFrom_x rfl rfl
  case mulu | muls =>
    exact within_run68k <| (runs_readEa List.mem_cons_self).bind fun _ => holds_regs fun _ _ _ =>
      (runs_setProduct rfl (by exact Bool.or_inr (decide_eq_true rfl)) _).andPure
  case extW n =>
    have hn : (Instr.extW n).writesD n = true := Bool.or_inr (decide_eq_true rfl)
    refine within_run68k <| holds_regs fun _ _ _ => ?_
    dsimp only
    exact (runs_setM68k fun _ hm _ => (hm.setD _ hn).setCcr hm (by exact flagsFrom_x rfl rfl)).andPure
  case extL =>
    exact within_run68k <| holds_regs fun _ _ _ => (runs_setProduct rfl (by exact Bool.or_inr (decide_eq_true rfl)) _).andPure
  case divu ea n | divs ea n =>
    refine within_run68k <| (holds_readEa (free_frame _ _) (resolves_frame _ List.mem_cons_self)).bind fun v => holds_elim fun r hr => ?_
    refine Holds68k.ite (fun _ => (runs_zeroDivide rfl rfl (by exact stores_operand rfl hr)).bind fun _ => holds_never) fun _ => ?_
    refine holds_regs fun _ _ _ => ?_
    exact runs_division rfl (by exact Bool.or_inr (decide_eq_true rfl))
  case chk ea n =>
    refine within_run68k <| (holds_readEa (free_frame _ _) (resolves_frame _ List.mem_cons_self)).bind fun v => holds_elim fun r hr => ?_
    refine runs_draw68k.bind fun _ => runs_draw68k.bind fun _ => runs_draw68k.bind fun _ => holds_regs fun m hm hp => ?_
    have trap (n' z v c : Bool) (k : Unit → Op (List Nat)) : Runs68k (.chk ea n) s.start68k.st (· = m)
        (setCcr { x := m.ccr.x, n := n', z := z, v := v, c := c } >>= fun _ => raise68k 6 m.pc >>= k) fun _ _ => True :=
      Holds68k.bind (q := fun _ => SameAddresses r.2)
        (Holds68k.pre (runs_setFlags hm (flagsFrom_x rfl rfl)) fun _ _ e => e ▸ hp) fun _ =>
          (runs_raise68k (q := fun _ _ => False) rfl (stores_operand rfl hr) fun _ h => h).bind fun _ => holds_never
    refine Holds68k.ite (fun _ => trap _ _ _ _ _) fun _ => Holds68k.ite (fun _ => trap _ _ _ _ _) fun _ => ?_
    exact (holds_draw68k (free_frame _ _)).bind fun free =>
      (runs_setM68k fun _ hm' _ => hm'.setCcr hm (by exact flagsFrom_x rfl rfl)).andPure
  -- 44: logic, shifts and bit operations
  case andToDn | orToDn =>
    exact within_run68k <| runs_eaToDn List.mem_cons_self (by exact Bool.or_inr (decide_eq_true rfl)) fun _ _ _ => flagsFrom_x rfl rfl
  case andToEa | orToEa | eor =>
    exact within_run68k <| runs_dnToEa ⟨rfl, rfl, rfl, List.mem_cons_self⟩ fun _ _ _ => flagsFrom_x rfl rfl
  case andi | ori | eori =>
    exact within_run68k <| runs_immToEa (hasTarget_imm rfl rfl rfl List.mem_cons_self) fun _ _ _ => flagsFrom_x rfl rfl
  case notOp =>
    exact within_run68k <| runs_updateEa ⟨rfl, rfl, rfl, List.mem_cons_self⟩ fun _ _ => flagsFrom_x rfl rfl
  case tas ea =>
    have ht : HasTarget (.tas ea) s.start68k.st .b ea (s.start68k.st.m68k.skip 1) := ⟨rfl, rfl, rfl, List.mem_cons_self⟩
    refine within_run68k <| (holds_resolve (free_frame _ _) (resolves_frame _ List.mem_cons_self)).bind fun loc =>
      holds_elim fun m' hr => ?_
    have update (loc : Loc) (hr : (s.start68k.st.m68k.skip 1).resolve .b ea = some (loc, m')) : Runs68k (.tas ea) s.start68k.st
        (SameAddresses m') (do
          let v ← readLoc .b loc
          writeLoc .b loc (v ||| 0x80#8)
          let f ← getCcr
          setCcr (flagsLogic v f)
          pure ([] : List Nat)) fun _ _ => True :=
      (holds_readLoc loc).bind fun v => (runs_writeTarget ht hr _).bind fun _ => runs_setCcr_pure fun _ => flagsFrom_x rfl rfl
    cases loc with
    | mem a =>
      exact (holds_tas68k (canStore_of_target ht.stores ht.target ht.atTarget hr)).bind fun v =>
        runs_setCcr_pure fun _ => flagsFrom_x rfl rfl
    | _ => exact update _ hr
  case asrReg | aslReg | lsrReg | lslReg | roxrReg | roxlReg =>
    exact within_run68k <| runs_shiftReg (by exact Bool.or_inr (decide_eq_true rfl)) fun _ _ _ => flagsFrom_all rfl
  case rorReg | rolReg =>
    exact within_run68k <| runs_shiftReg (by exact Bool.or_inr (decide_eq_true rfl)) <| flagsFrom_rotation rfl (by exact fun _ => rfl) _ _
  case asrMem | aslMem | lsrMem | lslMem | roxrMem | roxlMem =>
    exact within_run68k <| runs_shiftMem ⟨rfl, rfl, rfl, List.mem_cons_self⟩ fun _ _ _ => flagsFrom_all rfl
  case rorMem | rolMem =>
    exact within_run68k <| runs_shiftMem ⟨rfl, rfl, rfl, List.mem_cons_self⟩ <| flagsFrom_rotation rfl (by exact fun _ => rfl) _ _
  case btstImm =>
    exact within_run68k <| (runs_skipWords 1).bind fun _ => runs_bitTest List.mem_cons_self rfl _
  case bchgImm | bclrImm | bsetImm =>
    exact within_run68k <| (runs_skipWords 1).bind fun _ => runs_bitUpdate (hasTarget_imm rfl rfl rfl List.mem_cons_self) rfl _
  case btstReg =>
    exact within_run68k <| holds_regs fun _ _ _ => runs_bitTest List.mem_cons_self rfl _
  case bchgReg | bclrReg | bsetReg =>
    exact within_run68k <| holds_regs fun _ _ hp =>
      Holds68k.pre (runs_bitUpdate ⟨rfl, rfl, rfl, List.mem_cons_self⟩ rfl _) fun _ _ e => e ▸ hp
  case abcd | sbcd | nbcd => exact within_refuse _ s
  -- 45: program control, traps and system instructions
  case bcc cnd disp =>
    refine within_run68k <| holds_regs fun _ _ _ => (runs_branchDisp (p := fun _ => True) disp fun _ h => h).any.bind fun d => holds_ccr fun _ _ _ => ?_
    exact Holds68k.ite (fun _ => (runs_jump _).andPure) fun _ => (holds_pure _).done
  case bra disp =>
    exact within_run68k <| holds_regs fun _ _ _ => (runs_branchDisp (p := fun _ => True) disp fun _ h => h).any.bind fun d => (runs_jump _).andPure
  case bsr disp =>
    refine within_run68k <| holds_regs fun _ _ hp => ?_
    refine (Holds68k.pre (runs_branchDisp (p := fun m => m.a = s.start68k.st.m68k.a) disp fun _ h => h) fun _ _ e => ?_).bind fun d => ?_
    · exact e ▸ hp.a
    refine holds_regs fun m _ ha => ?_
    refine (Holds68k.pre (holds_push68k (a := s.start68k.st.m68k.sp - 4#32) (freeSp_frame _ (by exact Bool.or_inr (decide_eq_true rfl)))
      (sz := .l) m.pc (fun _ e => ?_) (canStore_of_slot rfl)) fun _ _ e => e).bind fun _ => (runs_jump _).andPure
    rw [e, M68k.sp, M68k.areg, ha]
    rfl
  case dbcc cnd n d =>
    refine within_run68k <| holds_regs fun _ _ _ => (runs_skipWords_any (p := fun _ => True) 1 fun _ h => h).any.bind fun _ => holds_ccr fun _ _ _ => ?_
    refine Holds68k.ite (fun _ => (holds_pure _).done) fun _ => holds_regs fun _ _ _ => ?_
    refine (runs_setM68k fun _ hm _ => hm.setD _ (by exact Bool.or_inr (decide_eq_true rfl))).bind fun _ => ?_
    exact Holds68k.ite (fun _ => (holds_pure _).done) fun _ => (runs_jump _).andPure
  case scc =>
    exact within_run68k <| (holds_resolve (free_frame _ _) (resolves_frame _ List.mem_cons_self)).bind fun loc =>
      holds_elim fun m' hr => holds_ccr fun _ _ _ => (runs_writeTarget ⟨rfl, rfl, rfl, List.mem_cons_self⟩ hr _).andPure
  case jmp =>
    exact within_run68k <| (holds_resolveAddress (free_frame _ _) (resolves_frame _ List.mem_cons_self)).bind fun _ =>
      (runs_jump _).andPure
  case jsr =>
    refine within_run68k <| (holds_resolveAddress (free_frame _ _) (resolves_frame _ List.mem_cons_self)).bind fun _ =>
      holds_elim fun m' hr => holds_regs fun _ _ hp =>
        (Holds68k.pre (runs_push (m1 := m') (by exact Bool.or_inr (decide_eq_true rfl)) ?_) fun _ _ e => by exact e ▸ hp).bind fun _ =>
          (runs_jump _).andPure
    dsimp only [Instr.stores68k]
    rw [hr]
    rfl
  case rts =>
    exact within_run68k <| (runs_pop (by exact Bool.or_inr (decide_eq_true rfl)) .l).bind fun _ => (runs_jump _).andPure
  case rtr =>
    exact within_run68k <| (runs_pop (by exact Bool.or_inr (decide_eq_true rfl)) .w).bind fun _ =>
      (runs_setAllFlags rfl _).bind fun _ => (runs_pop (by exact Bool.or_inr (decide_eq_true rfl)) .l).bind fun _ =>
        (runs_jump _).andPure
  case rte =>
    exact within_run68k <| (runs_privileged rfl rfl).bind fun _ =>
      (holds_returnException (free_frame _ _) (freeSp_frame _ (writesA_sp (.inr rfl))) fun _ v hm => hm.writeSr v rfl).andPure
  case trap =>
    exact within_run68k <| holds_regs fun _ _ hp => runs_raise68k rfl (by exact (frame_skip _ 1).symm) fun _ e => e ▸ hp
  case trapv =>
    refine within_run68k <| holds_regs fun _ _ hp => Holds68k.ite (fun _ => ?_) fun _ => (holds_pure _).done
    exact (runs_raise68k (q := fun _ _ => True) rfl (by exact (frame_skip _ 1).symm) fun _ e => e ▸ hp).andPure
  case nop => exact within_run68k (holds_pure _).done
  case reset =>
    exact within_run68k <| (runs_privileged rfl rfl).bind fun _ => (holds_record _).andPure
  case stop =>
    refine within_run68k <| (runs_privileged rfl rfl).bind fun _ => (runs_skipWords 1).bind fun _ =>
      (runs_setM68k fun _ hm _ => hm.writeSr _ rfl).bind fun _ => (runs_setM68k fun _ hm _ => hm.run _ rfl).andPure
  case illegal | lineA | lineF =>
    exact within_run68k <| (runs_illegalPolicy rfl (by exact (frame_skip _ 1).symm)).andPure
  case oriToCcr | andiToCcr | eoriToCcr => exact within_run68k (runs_immToCcr rfl)
  case oriToSr | andiToSr | eoriToSr => exact within_run68k (runs_immToSr rfl rfl rfl)
  -- the Z80 instructions
  all_goals cases h

end Sys2Proof.Laws
end

section
/-! The frames of the M68K instructions: registers, status and memory. -/

namespace Sys2Proof.Laws

open Sys2Proof.Machine

section Outcome

variable {K : Nat → Prop} {E : M68k → Prop} {act : Act68k} {s t : State}

/-- The registers of a next state, a waiting one too. -/
theorem Outcome68k.registers {x : Host.Outcome State Fault Refusal} (h : Outcome68k K E act s x) (hx : x = .next t) : E t.m68k := by
  subst hx
  rcases h with h | ⟨hE, -⟩ | ⟨u, mb, log, hu, -, rfl⟩
  · exact h.registers
  · exact hE
  · exact hu.registers

theorem In68k.mem {s0 : State} (h : In68k K E s0 t) : MemChange K s0.mem t.mem := by
  obtain ⟨m, -, mem, l, n, hm, rfl⟩ := h
  exact hm

/-- The memory of a next state. -/
theorem Outcome68k.mem {x : Host.Outcome State Fault Refusal} (h : Outcome68k K E act s x) (hx : x = .next t) :
    MemChange K s.mem t.mem := by
  subst hx
  have hs : s.start68k.st.mem = s.mem := by rw [start68k_st]
  rw [← hs]
  rcases h with h | ⟨-, u, hu, rfl⟩ | ⟨u, mb, log, hu, -, rfl⟩
  · exact h.mem
  · exact hu.mem
  · exact hu.mem

end Outcome

/-- What an M68K instruction may have changed of the registers in a next state. -/
theorem exec_frame {i : Instr} {s t : State} (hi : i.is68k = true) (h : exec i s = .next t) :
    Frame68k i s.start68k.st.m68k t.m68k := (exec_within s hi).registers h

/-- Settles O42, from the frame that every instruction keeps. -/
theorem m68kRegisterFrame : Obligations.M68kRegisterFrame := by
  unfold Obligations.M68kRegisterFrame
  intro i s t r hi h
  have frame := exec_frame hi h
  exact ⟨frame.dreg r, frame.areg r, fun ht hw => (frame.mode ht hw).1⟩

/-- Settles O43, from the frame that every instruction keeps. -/
theorem m68kStatusFrame : Obligations.M68kStatusFrame := by
  unfold Obligations.M68kStatusFrame
  intro i s t hi h
  have frame := exec_frame hi h
  exact ⟨frame.flag, fun ht hw => (frame.mode ht hw).2, frame.mask⟩

/-- Settles O44: an instruction writes memory only at the bytes of its stores. -/
theorem m68kMemoryFrame : Obligations.M68kMemoryFrame := by
  unfold Obligations.M68kMemoryFrame
  intro i s t k hi hm h hk
  refine ((exec_within s hi).mem h).read_eq hm fun ⟨r, hr, hc⟩ => ?_
  have hl : s.start68k.st.launch = s.launch := by rw [start68k_st]
  rw [hl, hk r hr] at hc
  cases hc

end Sys2Proof.Laws
end

section
/-! What Z80's accesses keep: the state stays what it was when the activity began, but for Z80's registers, for bytes of memory under
the keys that it may store to, for events, and for draws where the map lets Z80 reach more than ZRAM itself. -/

namespace Sys2Proof.Laws

open Sys2Proof.Machine

/-! ### The invariant of a Z80 activity -/

/-- The state of an activity that began in `s0`: registers with `E`, and memory changed under the keys `K` only. -/
def InZ80 (K : Nat → Prop) (E : Z80 → Prop) (s0 t : State) : Prop :=
  (∃ z, E z ∧ Touches K (s0.mapZ80 fun _ => z) t) ∧ (s0.launch.oracleIsOwners → t.bus.draws = s0.bus.draws)

/-- How the activity stops (20 R151, R154). -/
def StopsZ80 (K : Nat → Prop) (E : Z80 → Prop) (s0 : State) (e : Stop) (c : Ctx) : Prop :=
  match e with
  | .wait => ∃ u mb, InZ80 K E s0 u ∧ mb.intLevel = s0.bus.mbZ80.intLevel ∧ c.st = u.mapBus fun b => { b with mbZ80 := mb }
  | .ended => InZ80 K E s0 c.st
  | .fault f => s0.bus.mbZ80.op = .none → f ≠ .protocolSecondAccess
  | .refused _ => True

/-- The operation, begun with registers of `p` in an activity, ends with its value and registers of `q`. -/
def HoldsZ80 (K : Nat → Prop) (E : Z80 → Prop) (s0 : State) {α : Type} (p : Z80 → Prop) (x : Op α) (q : α → Z80 → Prop) : Prop :=
  Keeps (InZ80 K E s0) (StopsZ80 K E s0) (fun s => p s.z80) x fun a s => q a s.z80

/-- What holds of the registers does not depend on PC, the kept displacement and the counters. -/
def FreeZ80 (E : Z80 → Prop) : Prop := ∀ z pc dcache cyc draws, E z → E { z with pc := pc, dcache := dcache, cyc := cyc, draws := draws }

/-- The byte at the address may be written by Z80 itself. -/
def CanPoke (K : Nat → Prop) (s0 : State) (a : Word) : Prop := ∀ k, writtenKeyZ80 s0 a = some k → K k

section InZ80

variable {K : Nat → Prop} {E : Z80 → Prop} {s0 s t : State}

theorem InZ80.registers (h : InZ80 K E s0 t) : E t.z80 := by
  obtain ⟨⟨z, hz, ht⟩, -⟩ := h
  rw [ht.z80]
  exact hz

theorem InZ80.launch (h : InZ80 K E s0 t) : t.launch = s0.launch := by
  obtain ⟨⟨z, -, ht⟩, -⟩ := h
  exact ht.launch

theorem InZ80.bus (h : InZ80 K E s0 t) : t.bus = { s0.bus with draws := t.bus.draws } := by
  obtain ⟨⟨z, -, _, _, _, -, rfl⟩, -⟩ := h
  rfl

theorem InZ80.touched (h : InZ80 K E s0 s) (ht : Touches K s t) (hd : s0.launch.oracleIsOwners → t.bus.draws = s.bus.draws) :
    InZ80 K E s0 t := by
  obtain ⟨⟨z, hz, hs⟩, hs'⟩ := h
  exact ⟨⟨z, hz, hs.trans ht⟩, fun ho => (hd ho).trans (hs' ho)⟩

theorem InZ80.mapZ80 {E' : Z80 → Prop} {f : Z80 → Z80} (h : InZ80 K E s0 s) (hf : E' (f s.z80)) : InZ80 K E' s0 (s.mapZ80 f) := by
  obtain ⟨⟨z, hz, hs⟩, hd⟩ := h
  rw [hs.z80] at hf
  exact ⟨⟨f z, hf, hs.mapZ80 f⟩, hd⟩

theorem InZ80.mem (h : InZ80 K E s0 t) : MemChange K s0.mem t.mem := by
  obtain ⟨⟨z, -, mem, l, n, hm, rfl⟩, -⟩ := h
  exact hm

theorem inZ80_refl {s : State} (h : E s.z80) : InZ80 K E s s := ⟨⟨_, h, touches_refl K s⟩, fun _ => rfl⟩

end InZ80

/-! ### Rows -/

/-- No row of Z80's own holds the bank register. -/
theorem localZ80_not_bank {l : Launch} {a : Word} (h : l.localZ80 a = true) : placeZ80 l a ≠ some .bank := by
  rw [Launch.localZ80] at h
  rw [placeZ80]
  cases hr : l.rowZ80 a with
  | none => simp
  | some r =>
    rw [hr] at h
    simp only [Option.any_some, Bool.and_eq_true, decide_eq_true_eq] at h
    intro he
    simp only [Option.map_some, Option.some.injEq, MapRow.placeZ80] at he
    cases hh : r.holds with
    | bank => exact h.2 hh
    | _ => rw [hh] at he; cases he

/-- Where the oracle answers OWNER only, what Z80 reaches itself is ZRAM (20 R130, R131). -/
theorem zram_of_oracleIsOwners {l : Launch} {a : Word} {p : PlaceZ80} (ho : l.oracleIsOwners) (h : l.localZ80 a = true)
    (hp : placeZ80 l a = some p) : ∃ off, p = .zram off := by
  rw [Launch.localZ80] at h
  rw [placeZ80] at hp
  cases hr : l.rowZ80 a with
  | none => rw [hr] at hp; cases hp
  | some r =>
    rw [hr] at h hp
    simp only [Option.any_some, Bool.and_eq_true] at h
    have held := ho.1 r (List.mem_of_find?_eq_some hr) h.1
    simp only [Option.map_some, Option.some.injEq, MapRow.placeZ80, held] at hp
    exact ⟨_, hp.symm⟩

/-- An access Z80 makes itself changes only what it may write. -/
theorem accessAtZ80_touches {K : Nat → Prop} {stores : Prop} {s : State} {a : Word} {p : PlaceZ80} {r : RowAccess}
    (hl : s.launch.localZ80 a = true) (hp : placeZ80 s.launch a = some p) (hr : accessAtZ80 s a p = .ok r)
    (hk : stores → CanPoke K s a) : RowTouches K stores s r := by
  cases p with
  | bank => exact absurd hp (localZ80_not_bank hl)
  | device => cases hr; exact ⟨touches_drawByte K s, fun _ _ t => touches_record K t _⟩
  | zram off =>
    cases hr
    refine ⟨touches_refl K s, fun hs v t => touches_write _ (hk hs _ ?_)⟩
    rw [writtenKeyZ80, if_pos hl, hp]
  | window =>
    cases hq : place68k s.launch (windowAddress s.bus.bank a) with
    | none => rw [accessAtZ80, windowAccess, hq] at hr; cases hr
    | some q =>
      have row : r = plainAccess s (windowAddress s.bus.bank a) .b [q] := by
        rw [accessAtZ80, windowAccess, hq] at hr
        cases q <;> cases hr <;> rfl
      refine row ▸ plainAccess_touches s _ .b fun hs q' hq' k hkey => hk hs k ?_
      rw [writtenKeyZ80, if_pos hl, hp]
      rw [List.mem_singleton.1 hq'] at hkey
      exact (congrArg (Option.bind · Place.key) hq).trans hkey

section Access

variable {K : Nat → Prop} {E : Z80 → Prop} {s0 : State} {α β : Type} {p p' : Z80 → Prop} {q : α → Z80 → Prop}

/-! ### The rules for Z80's operations -/

theorem HoldsZ80.bind {x : Op α} {f : α → Op β} {r : β → Z80 → Prop} (h : HoldsZ80 K E s0 p x q)
    (hf : ∀ a, HoldsZ80 K E s0 (q a) (f a) r) : HoldsZ80 K E s0 p (x >>= f) r := Keeps.bind h hf

theorem HoldsZ80.pre {x : Op α} (h : HoldsZ80 K E s0 p x q) (hp : ∀ z, E z → p' z → p z) : HoldsZ80 K E s0 p' x q :=
  Keeps.pre h fun _ hi => hp _ hi.registers

theorem HoldsZ80.done {x : Op α} (h : HoldsZ80 K E s0 p x q) : HoldsZ80 K E s0 p x fun _ _ => True := Keeps.post h fun _ _ _ _ => trivial

theorem HoldsZ80.any {x : Op α} (h : HoldsZ80 K E s0 (fun _ => True) x q) : HoldsZ80 K E s0 p x q := h.pre fun _ _ _ => trivial

theorem holdsZ80_pure (a : α) : HoldsZ80 K E s0 p (pure a) fun _ => p := keeps_pure fun _ _ hp => hp

/-- An operation before a value. -/
theorem HoldsZ80.andPure {x : Op α} {f : α → β} (h : HoldsZ80 K E s0 p x q) :
    HoldsZ80 K E s0 p (x >>= fun a => pure (f a)) fun _ _ => True := h.done.bind fun _ => holdsZ80_pure _

theorem HoldsZ80.ite {c : Prop} [Decidable c] {x y : Op α} (hx : HoldsZ80 K E s0 p x q) (hy : HoldsZ80 K E s0 p y q) :
    HoldsZ80 K E s0 p (if c then x else y) q := Keeps.ite (fun _ => hx) fun _ => hy

theorem holdsZ80_refused (r : Refusal) : HoldsZ80 K E s0 p (Op.stop (.refused r) : Op α) q := keeps_stop fun _ _ _ => trivial

/-- What follows a read of the registers knows them. -/
theorem holds_z80 {f : Z80 → Op β} {r : β → Z80 → Prop} (h : ∀ z, E z → p z → HoldsZ80 K E s0 (· = z) (f z) r) :
    HoldsZ80 K E s0 p (z80Regs >>= f) r := fun c hi hp => h c.st.z80 hi.registers hp c hi rfl

/-- As `holds_z80`, where what is known of the registers is enough. -/
theorem holds_z80_any {f : Z80 → Op β} {r : β → Z80 → Prop} (h : ∀ z, E z → p z → HoldsZ80 K E s0 p (f z) r) :
    HoldsZ80 K E s0 p (z80Regs >>= f) r := fun c hi hp => h c.st.z80 hi.registers hp c hi hp

theorem holds_setZ80 {f : Z80 → Z80} {r : Unit → Z80 → Prop} (hf : ∀ z, E z → p z → E (f z) ∧ r () (f z)) :
    HoldsZ80 K E s0 p (setZ80 f) r :=
  fun _ hi hp => ⟨hi.mapZ80 (hf _ hi.registers hp).1, (hf _ hi.registers hp).2⟩

theorem holdsZ80_record (e : Event) : HoldsZ80 K E s0 p (Op.modify (·.record e)) fun _ => p :=
  fun _ hi hp => ⟨hi.touched (touches_record K _ e) fun _ => rfl, hp⟩

/-! ### One access -/

theorem holds_issueZ80 (k : Access) (a : Word) (v : Byte) : HoldsZ80 K E s0 p (issueZ80 k a v) fun _ => p := by
  intro c hi _
  have hmb : c.st.bus.mbZ80 = s0.bus.mbZ80 := by rw [hi.bus]
  rw [issueZ80]
  by_cases h : c.st.bus.mbZ80.op = .none
  · rw [if_neg (not_not_intro h)]
    exact ⟨c.st, c.st.bus.mbZ80.issue k a .b (v.setWidth 32), hi, (congrArg Mailbox.intLevel hmb :), rfl⟩
  · rw [if_pos h]
    exact fun h0 => absurd (hmb ▸ h0) h

theorem accessAtZ80_error {s : State} {a : Word} {pl : PlaceZ80} {f : Fault} (h : accessAtZ80 s a pl = .error f) :
    f ≠ .protocolSecondAccess := by
  cases pl with
  | window =>
    rw [accessAtZ80, windowAccess] at h
    split at h <;> cases h <;> decide
  | _ => cases h

theorem writtenKeyZ80_congr {s : State} (hl : s.launch = s0.launch) (hb : s.bus.bank = s0.bus.bank) (a : Word) :
    writtenKeyZ80 s a = writtenKeyZ80 s0 a := by simp only [writtenKeyZ80, hl, hb]

theorem holds_performZ80 {k : Access} {a : Word} (v : Byte) (hk : changesPlaces k = true → CanPoke K s0 a) :
    HoldsZ80 K E s0 p (performZ80 k a v) fun _ => p := by
  intro c hi hp
  have hl := hi.launch
  rw [performZ80]
  cases hpl : placeZ80 c.st.launch a with
  | none => exact fun _ => by decide
  | some pl =>
    dsimp only
    by_cases hloc : c.st.launch.localZ80 a = true
    · rw [if_pos hloc]
      cases hr : accessAtZ80 c.st a pl with
      | error f => exact fun _ => accessAtZ80_error hr
      | ok r =>
        have hk' : changesPlaces k = true → CanPoke K c.st a := fun hs j hj =>
          hk hs j (writtenKeyZ80_congr hl (by rw [hi.bus]) a ▸ hj)
        have ht : Touches K c.st (performRow k a .b (v.setWidth 32) c.st r).2 :=
          performRow_touches a .b _ (accessAtZ80_touches hloc hpl hr hk')
        have hd : s0.launch.oracleIsOwners → (performRow k a .b (v.setWidth 32) c.st r).2.bus.draws = c.st.bus.draws := by
          intro ho
          obtain ⟨off, rfl⟩ := zram_of_oracleIsOwners (hl ▸ ho) hloc hpl
          cases hr
          cases k <;> rfl
        exact ⟨hi.touched ht hd, by dsimp only; rw [ht.z80]; exact hp⟩
    · rw [if_neg hloc]
      exact holds_issueZ80 k a v c hi hp

theorem holds_performPort (k : Access) (port : Word) (v : Byte) : HoldsZ80 K E s0 p (performPort k port v) fun _ => p := by
  intro c hi hp
  have hl := hi.launch
  rw [performPort]
  by_cases ho : c.st.launch.map.ownPorts = true
  · rw [if_pos ho]
    have ht : Touches K c.st (performRow k port .b (v.setWidth 32) c.st (portAccess c.st port)).2 :=
      performRow_touches port .b _ ⟨touches_drawByte K _, fun _ _ t => touches_record K t _⟩
    refine ⟨hi.touched ht fun h => ?_, by dsimp only; rw [ht.z80]; exact hp⟩
    rw [hl, h.2] at ho
    cases ho
  · rw [if_neg ho]
    exact holds_issueZ80 k port v c hi hp

theorem holds_loadZ80 (a : Word) : HoldsZ80 K E s0 p (loadZ80 a) fun _ => p :=
  HoldsZ80.bind (Keeps.once (holds_performZ80 0 fun h => nomatch h)) fun _ => holdsZ80_pure _

theorem holds_storeZ80 {a : Word} (v : Byte) (h : CanPoke K s0 a) : HoldsZ80 K E s0 p (storeZ80 a v) fun _ => p :=
  HoldsZ80.bind (Keeps.once (holds_performZ80 v fun _ => h)) fun _ => holdsZ80_pure _

theorem holds_inPort (port : Word) : HoldsZ80 K E s0 p (inPort port) fun _ => p :=
  HoldsZ80.bind (Keeps.once (holds_performPort .portRead port 0)) fun _ => holdsZ80_pure _

theorem holds_outPort (port : Word) (v : Byte) : HoldsZ80 K E s0 p (outPort port v) fun _ => p :=
  HoldsZ80.bind (Keeps.once (holds_performPort .portWrite port v)) fun _ => holdsZ80_pure _

theorem holds_load16Z80 (a : Word) : HoldsZ80 K E s0 p (load16Z80 a) fun _ => p :=
  (holds_loadZ80 a).bind fun _ => (holds_loadZ80 _).bind fun _ => holdsZ80_pure _

theorem holds_store16Z80 {a : Word} (v : Word) (h0 : CanPoke K s0 a) (h1 : CanPoke K s0 (a + 1#16)) :
    HoldsZ80 K E s0 p (store16Z80 a v) fun _ => p :=
  (holds_storeZ80 _ h0).bind fun _ => holds_storeZ80 _ h1

/-! ### The stack -/

/-- SP may be written. -/
def FreeSpZ80 (E : Z80 → Prop) : Prop := ∀ z v, E z → E { z with sp := v }

theorem holds_pushZ80 (hs : FreeSpZ80 E) {a : Word} (v : Word) (ha : ∀ z, p z → z.sp = a) (h1 : CanPoke K s0 (a - 1#16))
    (h2 : CanPoke K s0 (a - 2#16)) : HoldsZ80 K E s0 p (pushZ80 v) fun _ _ => True := by
  have dec (b : Word) : HoldsZ80 K E s0 (fun z => z.sp = b) (setZ80 fun z => { z with sp := z.sp - 1#16 }) fun _ z => z.sp = b - 1#16 :=
    holds_setZ80 fun z hz e => ⟨hs z _ hz, congrArg (· - 1#16) e⟩
  have put {b : Word} (w : Byte) (hb : CanPoke K s0 b) {f : Unit → Op Unit} {r : Unit → Z80 → Prop}
      (hf : HoldsZ80 K E s0 (fun z => z.sp = b) (f ()) r) :
      HoldsZ80 K E s0 (fun z => z.sp = b) (z80Regs >>= fun z => storeZ80 z.sp w >>= f) r :=
    holds_z80_any fun z _ e => (holds_storeZ80 w (e ▸ hb)).bind fun _ => hf
  have last : HoldsZ80 K E s0 (fun z => z.sp = a - 1#16 - 1#16) (z80Regs >>= fun z => storeZ80 z.sp (v.extractLsb' 0 8)) fun _ _ => True :=
    holds_z80_any fun z _ e => (holds_storeZ80 _ (by rw [e, BitVec.sub_sub]; exact h2)).done
  exact (HoldsZ80.pre (dec a) fun z _ hp => ha z hp).bind fun _ => put _ h1 ((dec _).bind fun _ => last)

theorem holds_popZ80 (hs : FreeSpZ80 E) : HoldsZ80 K E s0 p popZ80 fun _ _ => True :=
  have inc : HoldsZ80 K E s0 (fun _ => True) (setZ80 fun z => { z with sp := z.sp + 1#16 }) fun _ _ => True :=
    holds_setZ80 fun z hz _ => ⟨hs z _ hz, trivial⟩
  HoldsZ80.any <| holds_z80_any fun _ _ _ => (holds_loadZ80 _).bind fun _ => inc.bind fun _ => holds_z80_any fun _ _ _ =>
    (holds_loadZ80 _).bind fun _ => inc.andPure

theorem holds_fetch8 (hE : FreeZ80 E) : HoldsZ80 K E s0 p fetch8 fun _ _ => True :=
  holds_z80_any fun _ _ _ => (holds_loadZ80 _).bind fun _ =>
    (holds_setZ80 (r := fun _ _ => True) fun z hz _ => ⟨hE z (z.pc + 1#16) z.dcache z.cyc z.draws hz, trivial⟩).andPure

theorem holds_spendZ80 (hE : FreeZ80 E) (k : CostZ80) : HoldsZ80 K E s0 p (spendZ80 k) fun _ _ => True :=
  holds_setZ80 fun z hz _ => ⟨hE z z.pc z.dcache _ z.draws hz, trivial⟩

end Access

end Sys2Proof.Laws
end

section
/-! The frame of a Z80 instruction: the registers that it may change, and the rules that instructions share, within the frame. -/

namespace Sys2Proof.Laws

open Sys2Proof.Machine

/-! ### The registers an instruction may change -/

/-- One of the six flags. -/
def zflagOf (f : ZFlags) : ZFlag → Bool
  | .s => f.s
  | .z => f.z
  | .h => f.h
  | .p => f.p
  | .n => f.n
  | .c => f.c

theorem zflagOf_flags (z : Z80) (fl : ZFlag) : zflagOf z.flags fl = z.f.flag fl := by cases fl <;> rfl

theorem flag_toF (f : ZFlags) (free : Byte) (fl : ZFlag) : (f.toF free).flag fl = zflagOf f fl := by cases fl <;> rfl

/-- The second set of registers, which EXX exchanges. -/
def Alternates (z : Z80) : Byte × Byte × Byte × Byte × Byte × Byte := (z.b', z.c', z.d', z.e', z.h', z.l')

/-- The registers `z` differ from `z0` in what the instruction may change only. -/
structure FrameZ80 (i : Instr) (z0 z : Z80) : Prop where
  reg : ∀ r, i.writesZ r = false → z.reg r = z0.reg r
  flag : ∀ f, f ∉ i.flagsZ80 → z.f.flag f = z0.f.flag f
  regF : i.flagsZ80 = [] → z.f = z0.f
  exAf : i ≠ .zExAf → z.a' = z0.a' ∧ z.f' = z0.f'
  exx : i ≠ .zExx → Alternates z = Alternates z0
  idx : ∀ x, i.writesIdx x = false → z.idx x = z0.idx x
  sp : i.writesSp = false → z.sp = z0.sp
  regI : i ≠ .zLdIA → z.i = z0.i
  regR : i ≠ .zLdRfA → z.r = z0.r
  iff1 : i ∉ [Instr.zDi, .zEi, .zReti, .zRetn] → z.iff1 = z0.iff1
  iff2 : i ∉ [Instr.zDi, .zEi] → z.iff2 = z0.iff2
  im : i ∉ [Instr.zIm0, .zIm1, .zIm2] → z.im = z0.im
  cooldown : i ≠ .zEi → z.cooldown = z0.cooldown
  halted : i ≠ .zHalt → z.halted = z0.halted
  run : z.run = z0.run
  iffOk : z0.iffOk → z.iffOk

/-- The flags are those of `g`, but for the flags the instruction writes. -/
def FlagsFromZ80 (i : Instr) (f g : ZFlags) : Prop := ∀ fl, fl ∉ i.flagsZ80 → zflagOf f fl = zflagOf g fl

section FrameZ80

variable {i : Instr} {z0 z z1 : Z80}

theorem frameZ80_refl (i : Instr) (z : Z80) : FrameZ80 i z z :=
  ⟨fun _ _ => rfl, fun _ _ => rfl, fun _ => rfl, fun _ => ⟨rfl, rfl⟩, fun _ => rfl, fun _ _ => rfl, fun _ => rfl, fun _ => rfl,
    fun _ => rfl, fun _ => rfl, fun _ => rfl, fun _ => rfl, fun _ => rfl, fun _ => rfl, rfl, fun h => h⟩

/-- PC, the kept displacement and the counters stand outside the frame. -/
theorem free_frameZ80 (i : Instr) (z0 : Z80) : FreeZ80 (FrameZ80 i z0) := fun z _ _ _ _ h =>
  { h with
    reg := fun r hr => (show _ = z.reg r by cases r <;> rfl).trans (h.reg r hr)
    idx := fun x hx => (show _ = z.idx x by cases x <;> rfl).trans (h.idx x hx)
    exx := h.exx
    iffOk := h.iffOk }

/-- A register is written. -/
theorem reg_setReg (z : Z80) (q r : ZReg) (v : Byte) : (z.setReg q v).reg r = if q = r then v else z.reg r := by
  cases q <;> cases r <;> rfl

theorem FrameZ80.setReg (h : FrameZ80 i z0 z) {q : ZReg} (v : Byte) (hq : i.writesZ q = true) : FrameZ80 i z0 (z.setReg q v) := by
  have reg : ∀ r, i.writesZ r = false → (z.setReg q v).reg r = z0.reg r := by
    intro r hr
    rw [reg_setReg, if_neg (by rintro rfl; rw [hq] at hr; cases hr)]
    exact h.reg r hr
  cases q <;> exact { h with
    reg := reg
    idx := fun x hx => (show _ = z.idx x by cases x <;> rfl).trans (h.idx x hx)
    exx := h.exx
    iffOk := h.iffOk }

theorem FrameZ80.setBc (h : FrameZ80 i z0 z) (v : Word) (hb : i.writesZ .b = true) (hc : i.writesZ .c = true) :
    FrameZ80 i z0 (z.setBc v) :=
  FrameZ80.setReg (q := .c) (h.setReg (q := .b) (v.extractLsb' 8 8) hb) (v.extractLsb' 0 8) hc

theorem FrameZ80.setDe (h : FrameZ80 i z0 z) (v : Word) (hd : i.writesZ .d = true) (he : i.writesZ .e = true) :
    FrameZ80 i z0 (z.setDe v) :=
  FrameZ80.setReg (q := .e) (h.setReg (q := .d) (v.extractLsb' 8 8) hd) (v.extractLsb' 0 8) he

theorem FrameZ80.setHl (h : FrameZ80 i z0 z) (v : Word) (hh : i.writesZ .h = true) (hl : i.writesZ .l = true) :
    FrameZ80 i z0 (z.setHl v) :=
  FrameZ80.setReg (q := .l) (h.setReg (q := .h) (v.extractLsb' 8 8) hh) (v.extractLsb' 0 8) hl

theorem FrameZ80.setSp (h : FrameZ80 i z0 z) (v : Word) (hs : i.writesSp = true) : FrameZ80 i z0 { z with sp := v } :=
  { h with
    reg := fun r hr => (show _ = z.reg r by cases r <;> rfl).trans (h.reg r hr)
    idx := fun x hx => (show _ = z.idx x by cases x <;> rfl).trans (h.idx x hx)
    sp := fun hw => absurd (hs.symm.trans hw) (by decide)
    exx := h.exx
    iffOk := h.iffOk }

theorem FrameZ80.setIdx (h : FrameZ80 i z0 z) {x : Idx} (v : Word) (hx : i.writesIdx x = true) : FrameZ80 i z0 (z.setIdx x v) := by
  have idx : ∀ y, i.writesIdx y = false → (z.setIdx x v).idx y = z0.idx y := by
    intro y hy
    have hne : x ≠ y := by rintro rfl; rw [hx] at hy; cases hy
    refine Eq.trans ?_ (h.idx y hy)
    cases x <;> cases y <;> first | rfl | exact absurd rfl hne
  cases x <;> exact { h with
    reg := fun r hr => (show _ = z.reg r by cases r <;> rfl).trans (h.reg r hr)
    idx := idx
    exx := h.exx
    iffOk := h.iffOk }

theorem FrameZ80.setPair (h : FrameZ80 i z0 z) {p : ZPair} (v : Word) (hp : ∀ r, p.has r = true → i.writesZ r = true)
    (hs : p = .sp → i.writesSp = true) : FrameZ80 i z0 (z.setPair p v) := by
  cases p with
  | bc => exact h.setBc v (hp _ rfl) (hp _ rfl)
  | de => exact h.setDe v (hp _ rfl) (hp _ rfl)
  | hl => exact h.setHl v (hp _ rfl) (hp _ rfl)
  | sp => exact h.setSp v (hs rfl)

/-- F is written as a whole, with flags that are those of a moment of the instruction but for the flags it writes. -/
theorem FrameZ80.setF (h : FrameZ80 i z0 z) (f : FReg) (hne : i.flagsZ80 ≠ [])
    (hf : ∀ fl, fl ∉ i.flagsZ80 → f.flag fl = z0.f.flag fl) : FrameZ80 i z0 { z with f := f } :=
  { h with
    reg := fun r hr => (show _ = z.reg r by cases r <;> rfl).trans (h.reg r hr)
    idx := fun x hx => (show _ = z.idx x by cases x <;> rfl).trans (h.idx x hx)
    flag := hf
    regF := fun he => absurd he hne
    exx := h.exx
    iffOk := h.iffOk }

theorem FrameZ80.setFlags (h : FrameZ80 i z0 z) {f : ZFlags} (free : Byte) (hne : i.flagsZ80 ≠ []) (h1 : FrameZ80 i z0 z1)
    (hf : FlagsFromZ80 i f z1.flags) : FrameZ80 i z0 { z with f := f.toF free } :=
  h.setF _ hne fun fl hfl => by rw [flag_toF, hf fl hfl, zflagOf_flags, h1.flag fl hfl]

/-- All six flags are written. -/
theorem flagsFromZ80_all {f g : ZFlags} (h : i.flagsZ80 = [.s, .z, .h, .p, .n, .c]) : FlagsFromZ80 i f g := by
  intro fl hfl
  rw [h] at hfl
  cases fl <;> simp at hfl

/-- CF is kept. -/
theorem flagsFromZ80_c {f g : ZFlags} (h : i.flagsZ80 = [.s, .z, .h, .p, .n]) (hc : f.c = g.c) : FlagsFromZ80 i f g := by
  intro fl hfl
  rw [h] at hfl
  cases fl <;> first | exact hc | simp at hfl

/-- SF, ZF and PF are kept. -/
theorem flagsFromZ80_szp {f g : ZFlags} (h : i.flagsZ80 = [.h, .n, .c]) (hs : f.s = g.s) (hz : f.z = g.z) (hp : f.p = g.p) :
    FlagsFromZ80 i f g := by
  intro fl hfl
  rw [h] at hfl
  cases fl <;> first | exact hs | exact hz | exact hp | simp at hfl

end FrameZ80

/-! ### The registers that addresses depend on -/

/-- The pointers are the same. -/
structure SamePointers (z1 z : Z80) : Prop where
  bc : z.bc = z1.bc
  de : z.de = z1.de
  hl : z.hl = z1.hl
  ix : z.ix = z1.ix
  iy : z.iy = z1.iy
  sp : z.sp = z1.sp

theorem SamePointers.idx {z1 z : Z80} (h : SamePointers z1 z) (x : Idx) : z.idx x = z1.idx x := by
  cases x
  · exact h.ix
  · exact h.iy

/-! ### The bytes an instruction may store to -/

/-- The keys of the bytes that the instruction, begun in `s0`, stores to. -/
def StoredZ80 (i : Instr) (s0 : State) (k : Nat) : Prop := ∃ a ∈ i.storesZ80 s0.z80, writtenKeyZ80 s0 a = some k

theorem canPoke_of_mem {i : Instr} {s0 : State} {a : Word} (h : a ∈ i.storesZ80 s0.z80) : CanPoke (StoredZ80 i s0) s0 a :=
  fun _ hk => ⟨a, h, hk⟩

/-- The instruction, begun in `s0`, runs the operation from registers of `p` within its frame, to registers of `q`. -/
abbrev RunsZ80 (i : Instr) (s0 : State) {α : Type} (p : Z80 → Prop) (x : Op α) (q : α → Z80 → Prop) : Prop :=
  HoldsZ80 (StoredZ80 i s0) (FrameZ80 i s0.z80) s0 p x q

section Runs

variable {i : Instr} {s0 : State} {α β : Type} {p : Z80 → Prop} {q : α → Z80 → Prop} {z1 : Z80}

theorem freeSp_frameZ80 (z0 : Z80) (h : i.writesSp = true) : FreeSpZ80 (FrameZ80 i z0) := fun _ v hz => hz.setSp v h

theorem runs_setZ80 {f : Z80 → Z80} (h : ∀ z, FrameZ80 i s0.z80 z → p z → FrameZ80 i s0.z80 (f z)) :
    RunsZ80 i s0 p (setZ80 f) fun _ _ => True := holds_setZ80 fun z hz hp => ⟨h z hz hp, trivial⟩

theorem runs_jumpZ80 (v : Word) : RunsZ80 i s0 p (jumpZ80 v) fun _ _ => True :=
  runs_setZ80 fun z hz _ => free_frameZ80 i _ z v z.dcache z.cyc z.draws hz

/-- Flags written from those of a moment, with the pointers as they are. -/
theorem runs_setFlagsOf {z : Z80} {f : ZFlags} (hne : i.flagsZ80 ≠ []) (hz : FrameZ80 i s0.z80 z) (hf : FlagsFromZ80 i f z.flags) :
    RunsZ80 i s0 (SamePointers z1) (Sys2Proof.Machine.setFlags f) fun _ => SamePointers z1 := by
  intro c hi hp
  refine ⟨hi.mapZ80 (f := fun z => { z with draws := z.draws + 1, f := f.toF ((Config.drawZ80 z.draws).setWidth 8) }) ?_, ?_⟩
  · exact (free_frameZ80 i _ c.st.z80 c.st.z80.pc c.st.z80.dcache c.st.z80.cyc (c.st.z80.draws + 1) hi.registers).setFlags _ hne hz hf
  · exact ⟨hp.bc, hp.de, hp.hl, hp.ix, hp.iy, hp.sp⟩

theorem samePointers_refl (z : Z80) : SamePointers z z := ⟨rfl, rfl, rfl, rfl, rfl, rfl⟩

/-- As `runs_setFlagsOf`, where the pointers do not matter. -/
theorem runs_setFlags_any {z : Z80} {f : ZFlags} (hne : i.flagsZ80 ≠ []) (hz : FrameZ80 i s0.z80 z)
    (hf : FlagsFromZ80 i f z.flags) : RunsZ80 i s0 p (Sys2Proof.Machine.setFlags f) fun _ _ => True :=
  fun c hi _ => (runs_setFlagsOf (z1 := c.st.z80) hne hz hf).done c hi (samePointers_refl _)

/-- Flags written from those of the moment. -/
theorem runs_getSetFlags {g : ZFlags → ZFlags} (hne : i.flagsZ80 ≠ []) (hf : ∀ f, FlagsFromZ80 i (g f) f) {k : ZFlags → Op β}
    {r : β → Z80 → Prop} (hk : ∀ f, RunsZ80 i s0 (SamePointers z1) (k f) r) :
    RunsZ80 i s0 (SamePointers z1) (getFlags >>= fun f => Sys2Proof.Machine.setFlags (g f) >>= fun _ => k f) r :=
  holds_z80_any (f := fun z => Sys2Proof.Machine.setFlags (g z.flags) >>= fun _ => k z.flags) fun z hz _ =>
    (runs_setFlagsOf hne hz (hf z.flags)).bind fun _ => hk _

theorem runs_drawZ80 : RunsZ80 i s0 (SamePointers z1) drawZ80 fun _ => SamePointers z1 := by
  intro c hi hp
  refine ⟨hi.mapZ80 (f := fun z => { z with draws := z.draws + 1 }) ?_, ⟨hp.bc, hp.de, hp.hl, hp.ix, hp.iy, hp.sp⟩⟩
  exact free_frameZ80 i _ c.st.z80 c.st.z80.pc c.st.z80.dcache c.st.z80.cyc (c.st.z80.draws + 1) hi.registers

theorem runs_drawZ80_any : RunsZ80 i s0 p drawZ80 fun _ _ => True :=
  fun c hi _ => (runs_drawZ80 (z1 := c.st.z80)).done c hi (samePointers_refl _)

/-! ### Operands -/

theorem runs_xxd (x : Idx) (d : Byte) :
    RunsZ80 i s0 (SamePointers z1) (xxd x d) fun a z => a = z1.idx x + d.signExtend 16 ∧ SamePointers z1 z := by
  intro c hi hp
  refine ⟨hi.mapZ80 (f := fun z => { z with dcache := some d }) ?_, ?_, ⟨hp.bc, hp.de, hp.hl, hp.ix, hp.iy, hp.sp⟩⟩
  · exact free_frameZ80 i _ c.st.z80 c.st.z80.pc (some d) c.st.z80.cyc c.st.z80.draws hi.registers
  · cases x
    · exact congrArg (· + d.signExtend 16) hp.ix
    · exact congrArg (· + d.signExtend 16) hp.iy

/-- What follows a displaced address knows it. -/
theorem runs_bindXxd {x : Idx} {d : Byte} {f : Word → Op β} {r : β → Z80 → Prop}
    (h : RunsZ80 i s0 (SamePointers z1) (f (z1.idx x + d.signExtend 16)) r) :
    RunsZ80 i s0 (SamePointers z1) (xxd x d >>= f) r :=
  (runs_xxd x d).bind fun _ c hi ⟨ha, hp⟩ => ha ▸ h c hi hp

theorem runs_hlAddress {f : Word → Op β} {r : β → Z80 → Prop} (h : RunsZ80 i s0 (SamePointers z1) (f z1.hl) r) :
    RunsZ80 i s0 (SamePointers z1) (hlAddress >>= f) r := by
  intro c hi hp
  have hf : (hlAddress >>= f) c = f c.st.z80.hl c := rfl
  rw [hf, hp.hl]
  exact h c hi hp

theorem runs_readOp8 (o : ZOp8) : RunsZ80 i s0 (SamePointers z1) (readOp8 o) fun _ => SamePointers z1 := by
  cases o with
  | reg r => exact holds_z80_any fun _ _ _ => holdsZ80_pure _
  | hl => exact runs_hlAddress (holds_loadZ80 _)

theorem runs_writeOp8 {o : ZOp8} (v : Byte) (hr : ∀ r, o = .reg r → i.writesZ r = true)
    (hm : o = .hl → CanPoke (StoredZ80 i s0) s0 z1.hl) : RunsZ80 i s0 (SamePointers z1) (writeOp8 o v) fun _ _ => True := by
  cases o with
  | reg r => exact runs_setZ80 fun _ hz _ => hz.setReg v (hr r rfl)
  | hl => exact runs_hlAddress (holds_storeZ80 v (hm rfl)).done

theorem runs_updateOp8 {o : ZOp8} {f : Byte → Op Byte} (hr : ∀ r, o = .reg r → i.writesZ r = true)
    (hm : o = .hl → CanPoke (StoredZ80 i s0) s0 z1.hl)
    (hf : ∀ v, RunsZ80 i s0 (SamePointers z1) (f v) fun _ => SamePointers z1) :
    RunsZ80 i s0 (SamePointers z1) (updateOp8 o f) fun _ _ => True :=
  (runs_readOp8 o).bind fun v => (hf v).bind fun w => runs_writeOp8 w hr hm

theorem runs_readXd (x : Idx) (d : Byte) : RunsZ80 i s0 (SamePointers z1) (readXd x d) fun _ => SamePointers z1 :=
  runs_bindXxd (holds_loadZ80 _)

theorem runs_updateXd {x : Idx} {d : Byte} {f : Byte → Op Byte} (hm : CanPoke (StoredZ80 i s0) s0 (z1.idx x + d.signExtend 16))
    (hf : ∀ v, RunsZ80 i s0 (SamePointers z1) (f v) fun _ => SamePointers z1) :
    RunsZ80 i s0 (SamePointers z1) (updateXd x d f) fun _ _ => True :=
  runs_bindXxd <| (holds_loadZ80 _).bind fun v => (hf v).bind fun w => (holds_storeZ80 w hm).done

/-! ### Arithmetic -/

theorem runs_accumulate {f : Alu8} (hf : i.flagsZ80 = [.s, .z, .h, .p, .n, .c]) (ha : i.writesZ .a = true) (v : Byte) :
    RunsZ80 i s0 p (accumulate f v) fun _ _ => True :=
  holds_z80 fun _ hz _ => (runs_setZ80 fun _ hz' _ => hz'.setReg (q := .a) _ ha).bind fun _ =>
    (runs_setFlags_any (by rw [hf]; simp) hz (flagsFromZ80_all hf)).andPure

/-- CP writes A with what it holds. -/
theorem runs_accumulate_cp (hf : i.flagsZ80 = [.s, .z, .h, .p, .n, .c]) (v : Byte) :
    RunsZ80 i s0 p (accumulate alu8Cp v) fun _ _ => True :=
  holds_z80 fun z hz _ => (runs_setZ80 fun z' hz' e => e ▸ hz').bind fun _ =>
    (runs_setFlags_any (by rw [hf]; simp) hz (flagsFromZ80_all hf)).andPure

theorem runs_incValue (hf : i.flagsZ80 = [.s, .z, .h, .p, .n]) (v : Byte) :
    RunsZ80 i s0 (SamePointers z1) (incValue v) fun _ => SamePointers z1 :=
  runs_getSetFlags (by rw [hf]; simp) (fun _ => by exact flagsFromZ80_c hf rfl) fun _ => holdsZ80_pure _

theorem runs_decValue (hf : i.flagsZ80 = [.s, .z, .h, .p, .n]) (v : Byte) :
    RunsZ80 i s0 (SamePointers z1) (decValue v) fun _ => SamePointers z1 :=
  runs_getSetFlags (by rw [hf]; simp) (fun _ => by exact flagsFromZ80_c hf rfl) fun _ => holdsZ80_pure _

theorem runs_rotateA (hf : i.flagsZ80 = [.h, .n, .c]) (ha : i.writesZ .a = true) (k : Rot) :
    RunsZ80 i s0 p (rotateA k) fun _ _ => True :=
  holds_z80 fun _ hz _ => (runs_setZ80 fun _ hz' _ => hz'.setReg (q := .a) _ ha).bind fun _ =>
    (runs_setFlags_any (by rw [hf]; simp) hz (by exact flagsFromZ80_szp hf rfl rfl rfl)).andPure

theorem runs_rotateValue (hf : i.flagsZ80 = [.s, .z, .h, .p, .n, .c]) (k : Rot) (v : Byte) :
    RunsZ80 i s0 (SamePointers z1) (rotateValue k v) fun _ => SamePointers z1 :=
  runs_getSetFlags (g := fun f => rotFlags (k.apply v f.c).1 (k.apply v f.c).2) (by rw [hf]; simp) (fun _ => flagsFromZ80_all hf)
    fun _ => holdsZ80_pure _

/-- The flags of BIT (47 R604). -/
def bitFlags (b : BitVec 3) (v free : Byte) (f : ZFlags) : ZFlags :=
  { s := free.getLsbD 7, z := !v.getLsbD b.toNat, h := true, p := free.getLsbD 2, n := false, c := f.c }

theorem runs_bitValue (hf : i.flagsZ80 = [.s, .z, .h, .p, .n]) (b : BitVec 3) (v : Byte) :
    RunsZ80 i s0 p (bitValue b v) fun _ _ => True :=
  runs_drawZ80_any.bind fun free => holds_z80
    (f := fun z => Sys2Proof.Machine.setFlags (bitFlags b v free z.flags) >>= fun _ => pure []) fun _ hz _ =>
    (runs_setFlags_any (by rw [hf]; simp) hz (by exact flagsFromZ80_c hf rfl)).andPure

theorem runs_rotateDigit {mem acc : Byte → Byte → Byte} (hf : i.flagsZ80 = [.s, .z, .h, .p, .n]) (ha : i.writesZ .a = true)
    (hm : CanPoke (StoredZ80 i s0) s0 z1.hl) : RunsZ80 i s0 (SamePointers z1) (rotateDigit mem acc) fun _ _ => True :=
  holds_z80 fun z _ hp => (holds_loadZ80 _).bind fun _ => (holds_storeZ80 _ (hp.hl ▸ hm)).bind fun _ =>
    (runs_setZ80 fun _ hz' _ => hz'.setReg (q := .a) _ ha).bind fun _ => holds_z80 fun t ht _ =>
      (runs_setFlags_any (by rw [hf]; simp) ht (by exact flagsFromZ80_c hf rfl)).andPure

/-! ### The stack, blocks, calls and ports -/

theorem runs_exchangeTop (v : Word) (h0 : CanPoke (StoredZ80 i s0) s0 z1.sp) (h1 : CanPoke (StoredZ80 i s0) s0 (z1.sp + 1#16)) :
    RunsZ80 i s0 (SamePointers z1) (exchangeTop v) fun _ _ => True :=
  holds_z80 fun _ _ hp => (holds_loadZ80 _).bind fun _ => (holds_loadZ80 _).bind fun _ =>
    (holds_storeZ80 _ (hp.sp ▸ h1)).bind fun _ => (holds_storeZ80 _ (hp.sp ▸ h0)).andPure

theorem runs_pushZ80 (v : Word) (hs : i.writesSp = true) (h1 : CanPoke (StoredZ80 i s0) s0 (z1.sp - 1#16))
    (h2 : CanPoke (StoredZ80 i s0) s0 (z1.sp - 2#16)) : RunsZ80 i s0 (SamePointers z1) (pushZ80 v) fun _ _ => True :=
  holds_pushZ80 (freeSp_frameZ80 _ hs) v (fun _ h => h.sp) h1 h2

theorem runs_popZ80 (hs : i.writesSp = true) : RunsZ80 i s0 p popZ80 fun _ _ => True := holds_popZ80 (freeSp_frameZ80 _ hs)

theorem runs_callZ80 (v : Word) (hs : i.writesSp = true) (h1 : CanPoke (StoredZ80 i s0) s0 (z1.sp - 1#16))
    (h2 : CanPoke (StoredZ80 i s0) s0 (z1.sp - 2#16)) : RunsZ80 i s0 (SamePointers z1) (callZ80 v) fun _ _ => True :=
  holds_z80_any fun _ _ _ => (runs_pushZ80 _ hs h1 h2).bind fun _ => runs_jumpZ80 v

theorem runs_returnZ80 (hs : i.writesSp = true) : RunsZ80 i s0 p returnZ80 fun _ _ => True :=
  (runs_popZ80 hs).bind fun _ => runs_jumpZ80 _

theorem runs_blockTransfer (down : Bool) (hf : i.flagsZ80 = [.h, .p, .n]) (hw : ∀ r, r ≠ ZReg.a → i.writesZ r = true)
    (hm : CanPoke (StoredZ80 i s0) s0 z1.de) : RunsZ80 i s0 (SamePointers z1) (blockTransfer down) fun _ _ => True := by
  refine holds_z80 fun z _ hp => (holds_loadZ80 _).bind fun _ => (holds_storeZ80 _ (hp.de ▸ hm)).bind fun _ => ?_
  refine (runs_setZ80 fun _ hz _ => ((hz.setDe _ (hw _ (by decide)) (hw _ (by decide))).setHl _ (hw _ (by decide))
    (hw _ (by decide))).setBc _ (hw _ (by decide)) (hw _ (by decide))).bind fun _ => holds_z80 fun t ht _ => ?_
  refine runs_setFlags_any (by rw [hf]; simp) ht fun fl hfl => ?_
  rw [hf] at hfl
  cases fl <;> first | rfl | simp at hfl

theorem runs_blockCompare (down : Bool) (hf : i.flagsZ80 = [.s, .z, .h, .p, .n]) (hb : i.writesZ .b = true)
    (hc : i.writesZ .c = true) (hh : i.writesZ .h = true) (hl : i.writesZ .l = true) :
    RunsZ80 i s0 p (blockCompare down) fun _ _ => True :=
  holds_z80 fun _ _ _ => (holds_loadZ80 _).bind fun _ =>
    (runs_setZ80 fun _ hz _ => (hz.setHl _ hh hl).setBc _ hb hc).bind fun _ => holds_z80 fun t ht _ =>
      (runs_setFlags_any (by rw [hf]; simp) ht (by exact flagsFromZ80_c hf rfl)).andPure

theorem runs_repeatIf (ipc : Word) (more : Bool) : RunsZ80 i s0 p (repeatIf ipc more) fun _ _ => True :=
  HoldsZ80.ite (runs_jumpZ80 ipc).andPure (holdsZ80_pure _).done

/-- An operation, and the repetition that depends on what it left. -/
theorem runs_repeat {x : Op α} (hx : RunsZ80 i s0 p x fun _ _ => True) (ipc : Word) (more : α → Z80 → Bool) :
    RunsZ80 i s0 p (x >>= fun a => z80Regs >>= fun z => repeatIf ipc (more a z)) fun _ _ => True :=
  hx.bind fun _ => holds_z80 fun _ _ _ => runs_repeatIf ipc _

theorem runs_blockIoFlags (hf : i.flagsZ80 = [.s, .z, .h, .p, .n, .c]) : RunsZ80 i s0 p blockIoFlags fun _ _ => True :=
  runs_drawZ80_any.bind fun _ => holds_z80 fun _ hz _ => runs_setFlags_any (by rw [hf]; simp) hz (flagsFromZ80_all hf)

theorem runs_blockIn (down : Bool) (hf : i.flagsZ80 = [.s, .z, .h, .p, .n, .c]) (hb : i.writesZ .b = true)
    (hh : i.writesZ .h = true) (hl : i.writesZ .l = true) (hm : CanPoke (StoredZ80 i s0) s0 z1.hl) :
    RunsZ80 i s0 (SamePointers z1) (blockIn down) fun _ _ => True :=
  holds_z80 fun _ _ hp => (holds_inPort _).bind fun _ => (holds_storeZ80 _ (hp.hl ▸ hm)).bind fun _ =>
    (runs_setZ80 fun _ hz _ => (hz.setHl _ hh hl).setReg (q := .b) _ hb).bind fun _ => runs_blockIoFlags hf

theorem runs_blockOut (down : Bool) (hf : i.flagsZ80 = [.s, .z, .h, .p, .n, .c]) (hb : i.writesZ .b = true)
    (hh : i.writesZ .h = true) (hl : i.writesZ .l = true) : RunsZ80 i s0 p (blockOut down) fun _ _ => True :=
  holds_z80 fun _ _ _ => (holds_loadZ80 _).bind fun _ => (runs_setZ80 fun _ hz _ => hz.setReg (q := .b) _ hb).bind fun _ =>
    holds_z80 fun _ _ _ => (holds_outPort _ _).bind fun _ => (runs_setZ80 fun _ hz _ => hz.setHl _ hh hl).bind fun _ =>
      runs_blockIoFlags hf

end Runs

end Sys2Proof.Laws
end

section
/-! Every Z80 instruction stays within its frame: its outcome, however it ends, and the walk over the instructions. -/

namespace Sys2Proof.Laws

open Sys2Proof.Machine

/-! ### The outcome of an activity -/

/-- The outcome of a Z80 activity begun in `s`: a state within the frame, or one that waits in the activity, as `State.startZ80`
begins it again (log 4). -/
def OutcomeZ80 (K : Nat → Prop) (E : Z80 → Prop) (act : ActZ80) (s : State) (x : Host.Outcome State Fault Refusal) : Prop :=
  match x with
  | .next t =>
    InZ80 K E s.startZ80.st t ∨
    ∃ u mb log, InZ80 K E s.startZ80.st u ∧ mb.intLevel = s.bus.mbZ80.intLevel ∧
      t = { u with
        bus := { u.bus with mbZ80 := mb }
        waitZ80 := some { act := act, snap := s.startZ80.st.z80, log := log } }
  | .fault f => s.bus.mbZ80.op = .none → f ≠ .protocolSecondAccess
  | .refused _ => True

/-- Z80 begins again from its own first registers, with the rest of the state as it is (log 4). -/
theorem startZ80_st (s : State) : s.startZ80.st = { s with z80 := s.startZ80.st.z80, waitZ80 := none } := by
  rw [State.startZ80]
  cases h : s.waitZ80 with
  | none => simp only [← h]
  | some w => rfl

theorem startZ80_bus (s : State) : s.startZ80.st.bus = s.bus := by rw [startZ80_st]

theorem outcomeZ80_stopped {K : Nat → Prop} {E : Z80 → Prop} {s : State} {c : Ctx} (act : ActZ80) (e : Stop)
    (h : StopsZ80 K E s.startZ80.st e c) : OutcomeZ80 K E act s (finishZ80 act s (.error e c)) := by
  cases e with
  | ended => exact .inl h
  | fault f => exact fun hop => h (by rw [startZ80_bus]; exact hop)
  | refused r => trivial
  | wait =>
    obtain ⟨u, mb, hu, hmb, ht⟩ := h
    rw [startZ80_bus] at hmb
    exact .inr ⟨u, mb, c.done, hu, hmb, by simp only [ht]; rfl⟩

theorem outcomeZ80_finish {K : Nat → Prop} {E : Z80 → Prop} {s : State} {p : Z80 → Prop} {x : Op Unit} {c : Ctx}
    {q : Unit → Z80 → Prop} (act : ActZ80) (hx : HoldsZ80 K E s.startZ80.st p x q) (hc : c.st = s.startZ80.st)
    (hE : E s.startZ80.st.z80) (hp : p s.startZ80.st.z80) : OutcomeZ80 K E act s (finishZ80 act s (x c)) := by
  have hi : InZ80 K E s.startZ80.st c.st := by rw [hc]; exact inZ80_refl hE
  have hpc : p c.st.z80 := hc ▸ hp
  cases hr : x c with
  | ok a d => exact .inl (Keeps.of_ok hx hi hpc hr).1
  | error e d => exact outcomeZ80_stopped act e (Keeps.of_error hx hi hpc hr)

/-- The outcome of the instruction `i` is within its frame. -/
def WithinZ80 (i : Instr) (s : State) (x : Host.Outcome State Fault Refusal) : Prop :=
  OutcomeZ80 (StoredZ80 i s.startZ80.st) (FrameZ80 i s.startZ80.st.z80) (.exec i) s x

theorem within_runZ80 {i : Instr} {s : State} {rule : Word → Op (List Nat)}
    (h : ∀ ipc, RunsZ80 i s.startZ80.st (SamePointers s.startZ80.st.z80) (rule ipc) fun _ _ => True) :
    WithinZ80 i s (runZ80 i rule s) := by
  refine outcomeZ80_finish (p := (· = s.startZ80.st.z80)) (q := fun _ _ => True) _ ?_ rfl (frameZ80_refl _ _) rfl
  refine holds_z80_any fun z _ _ => ?_
  refine (holds_setZ80 (r := fun _ => SamePointers s.startZ80.st.z80) fun z hz e => ⟨?_, ?_⟩).bind fun _ =>
    (h _).bind fun _ => holds_spendZ80 (free_frameZ80 i _) _
  · exact free_frameZ80 i _ z _ none z.cyc z.draws hz
  · subst e
    exact ⟨rfl, rfl, rfl, rfl, rfl, rfl⟩

theorem within_refuseZ80 {i : Instr} (r : Refusal) (s : State) : WithinZ80 i s (refuse r s) := trivial

/-! ### Rules of single instructions -/

section Runs

variable {i : Instr} {s0 : State} {α β : Type} {p : Z80 → Prop} {z1 : Z80}

theorem runs_getFlags {f : ZFlags → Op β} {r : β → Z80 → Prop} (h : ∀ z, FrameZ80 i s0.z80 z → p z → RunsZ80 i s0 p (f z.flags) r) :
    RunsZ80 i s0 p (getFlags >>= f) r := holds_z80_any (f := fun z => f z.flags) h

/-- A register is computed, then the flags. -/
theorem runs_setZ80_setFlags {f : Z80 → Z80} {g : ZFlags} {z : Z80} (hz : FrameZ80 i s0.z80 z) (hne : i.flagsZ80 ≠ [])
    (hf : ∀ z, FrameZ80 i s0.z80 z → FrameZ80 i s0.z80 (f z)) (hg : FlagsFromZ80 i g z.flags) :
    RunsZ80 i s0 p (setZ80 f >>= fun _ => Sys2Proof.Machine.setFlags g >>= fun _ => pure ([] : List Nat)) fun _ _ => True :=
  (runs_setZ80 fun z' hz' _ => hf z' hz').bind fun _ => (runs_setFlags_any hne hz hg).andPure

/-- A read, modify and write of an operand, which the instruction names. -/
theorem runs_updateOperand {o : ZOp8} {f : Byte → Op Byte} (hw : i.writesZ = o.isReg)
    (hs : o = .hl → i.storesZ80 s0.z80 = [s0.z80.hl])
    (hf : ∀ v, RunsZ80 i s0 (SamePointers s0.z80) (f v) fun _ => SamePointers s0.z80) :
    RunsZ80 i s0 (SamePointers s0.z80) (updateOp8 o f >>= fun _ => pure ([] : List Nat)) fun _ _ => True :=
  (runs_updateOp8 (fun r e => by rw [hw, e]; exact decide_eq_true rfl)
    (fun e => canPoke_of_mem (by rw [hs e]; exact List.mem_cons_self)) hf).andPure

theorem runs_updateDisplaced {x : Idx} {d : Byte} {f : Byte → Op Byte} (hs : i.storesZ80 s0.z80 = [s0.z80.idx x + d.signExtend 16])
    (hf : ∀ v, RunsZ80 i s0 (SamePointers s0.z80) (f v) fun _ => SamePointers s0.z80) :
    RunsZ80 i s0 (SamePointers s0.z80) (updateXd x d f >>= fun _ => pure ([] : List Nat)) fun _ _ => True :=
  (runs_updateXd (canPoke_of_mem (by rw [hs]; exact List.mem_cons_self)) hf).andPure

/-- A store of two bytes at the number. -/
theorem runs_storePair {nn v : Word} (hs : i.storesZ80 s0.z80 = [nn, nn + 1#16]) :
    RunsZ80 i s0 p (store16Z80 nn v >>= fun _ => pure ([] : List Nat)) fun _ _ => True :=
  HoldsZ80.andPure (q := fun _ => p) <| holds_store16Z80 v (canPoke_of_mem (by rw [hs]; exact List.mem_cons_self))
    (canPoke_of_mem (by rw [hs]; exact List.mem_cons_of_mem _ List.mem_cons_self))

/-- The flip-flops are written, alike. -/
theorem FrameZ80.setIff {z : Z80} (h : FrameZ80 i s0.z80 z) {a b c : Bool} (hok : a = b) (h1 : i ∈ [Instr.zDi, .zEi, .zReti, .zRetn])
    (h2 : i ∈ [Instr.zDi, .zEi] ∨ b = z.iff2) (hc : i = .zEi ∨ c = z.cooldown) :
    FrameZ80 i s0.z80 { z with iff1 := a, iff2 := b, cooldown := c } :=
  { h with
    reg := fun r hr => (show _ = z.reg r by cases r <;> rfl).trans (h.reg r hr)
    idx := fun x hx => (show _ = z.idx x by cases x <;> rfl).trans (h.idx x hx)
    exx := h.exx
    iff1 := fun hn => absurd h1 hn
    iff2 := fun hn => (h2.resolve_left hn).trans (h.iff2 hn)
    cooldown := fun hn => (hc.resolve_left hn).trans (h.cooldown hn)
    iffOk := fun _ => hok }

theorem FrameZ80.setIm {z : Z80} (h : FrameZ80 i s0.z80 z) (m : IntMode) (hi : i ∈ [Instr.zIm0, .zIm1, .zIm2]) :
    FrameZ80 i s0.z80 { z with im := m } :=
  { h with
    reg := fun r hr => (show _ = z.reg r by cases r <;> rfl).trans (h.reg r hr)
    idx := fun x hx => (show _ = z.idx x by cases x <;> rfl).trans (h.idx x hx)
    exx := h.exx
    im := fun hn => absurd hi hn
    iffOk := h.iffOk }

theorem FrameZ80.setHalted {z : Z80} (h : FrameZ80 .zHalt s0.z80 z) : FrameZ80 .zHalt s0.z80 { z with halted := true } :=
  { h with
    reg := fun r hr => (show _ = z.reg r by cases r <;> rfl).trans (h.reg r hr)
    idx := fun x hx => (show _ = z.idx x by cases x <;> rfl).trans (h.idx x hx)
    exx := h.exx
    halted := fun hn => absurd rfl hn
    iffOk := h.iffOk }

theorem FrameZ80.setI {z : Z80} (h : FrameZ80 .zLdIA s0.z80 z) (v : Byte) : FrameZ80 .zLdIA s0.z80 { z with i := v } :=
  { h with
    reg := fun r hr => (show _ = z.reg r by cases r <;> rfl).trans (h.reg r hr)
    idx := fun x hx => (show _ = z.idx x by cases x <;> rfl).trans (h.idx x hx)
    exx := h.exx
    regI := fun hn => absurd rfl hn
    iffOk := h.iffOk }

theorem FrameZ80.setR {z : Z80} (h : FrameZ80 .zLdRfA s0.z80 z) (v : Byte) : FrameZ80 .zLdRfA s0.z80 { z with r := v } :=
  { h with
    reg := fun r hr => (show _ = z.reg r by cases r <;> rfl).trans (h.reg r hr)
    idx := fun x hx => (show _ = z.idx x by cases x <;> rfl).trans (h.idx x hx)
    exx := h.exx
    regR := fun hn => absurd rfl hn
    iffOk := h.iffOk }

theorem FrameZ80.exchangeAf {z : Z80} (h : FrameZ80 .zExAf s0.z80 z) :
    FrameZ80 .zExAf s0.z80 { z with a := z.a', f := z.f', a' := z.a, f' := z.f } :=
  { h with
    reg := fun r hr => (show _ = z.reg r by cases r <;> first | rfl | exact absurd hr (by decide)).trans (h.reg r hr)
    idx := fun x hx => (show _ = z.idx x by cases x <;> rfl).trans (h.idx x hx)
    flag := fun f hf => absurd (show f ∈ [ZFlag.s, .z, .h, .p, .n, .c] by cases f <;> simp) hf
    regF := fun hn => absurd hn (List.cons_ne_nil _ _)
    exAf := fun hn => absurd rfl hn
    exx := h.exx
    iffOk := h.iffOk }

theorem FrameZ80.exchangeSets {z : Z80} (h : FrameZ80 .zExx s0.z80 z) :
    FrameZ80 .zExx s0.z80 { z with b := z.b', c := z.c', d := z.d', e := z.e', h := z.h', l := z.l', b' := z.b, c' := z.c, d' := z.d, e' := z.e, h' := z.h, l' := z.l } :=
  { h with
    reg := fun r hr => (show _ = z.reg r by cases r <;> first | rfl | exact absurd hr (by decide)).trans (h.reg r hr)
    idx := fun x hx => (show _ = z.idx x by cases x <;> rfl).trans (h.idx x hx)
    exx := fun hn => absurd rfl hn
    iffOk := h.iffOk }

theorem FrameZ80.setPairQ {z : Z80} (h : FrameZ80 i s0.z80 z) {q : ZPairQ} (v : Word) (hq : ∀ r, q.has r = true → i.writesZ r = true)
    (hf : q = .af → i.flagsZ80 = [.s, .z, .h, .p, .n, .c]) : FrameZ80 i s0.z80 (z.setPairQ q v) := by
  cases q with
  | bc => exact h.setBc v (hq _ rfl) (hq _ rfl)
  | de => exact h.setDe v (hq _ rfl) (hq _ rfl)
  | hl => exact h.setHl v (hq _ rfl) (hq _ rfl)
  | af =>
    have all := hf rfl
    refine FrameZ80.setF (h.setReg (q := .a) (v.extractLsb' 8 8) (hq _ rfl)) (FReg.ofByte (v.extractLsb' 0 8)) (by rw [all]; simp) ?_
    intro fl hfl
    rw [all] at hfl
    cases fl <;> simp at hfl

end Runs

end Sys2Proof.Laws
end

section
/-! Every Z80 instruction stays within its frame: the walk over the instructions; and so the frames of the Z80 instructions. -/

namespace Sys2Proof.Laws

open Sys2Proof.Machine

theorem mem_pair_left {α : Type} {a b : α} {l : List α} (h : l = [a, b]) : a ∈ l := h ▸ List.mem_cons_self

theorem mem_pair_right {α : Type} {a b : α} {l : List α} (h : l = [a, b]) : b ∈ l := h ▸ List.mem_cons_of_mem _ List.mem_cons_self

theorem exec_withinZ80 {i : Instr} (s : State) (h : i.is68k = false) : WithinZ80 i s (exec i s) := by
  cases i <;> dsimp only [exec]
  -- 46: loads, exchanges, stack and block instructions
  case zLdRR | zLdRImm =>
    exact within_runZ80 fun _ => (runs_setZ80 fun _ hz _ => hz.setReg _ (by exact decide_eq_true rfl)).andPure
  case zExDeHl =>
    exact within_runZ80 fun _ => (runs_setZ80 fun z hz _ => by
      exact (((hz.setReg (q := .d) z.h rfl).setReg (q := .e) z.l rfl).setReg (q := .h) z.d rfl).setReg (q := .l) z.e rfl).andPure
  case zExAf => exact within_runZ80 fun _ => (runs_setZ80 fun _ hz _ => hz.exchangeAf).andPure
  case zExx => exact within_runZ80 fun _ => (runs_setZ80 fun _ hz _ => hz.exchangeSets).andPure
  case zLdIA => exact within_runZ80 fun _ => (runs_setZ80 fun z hz _ => hz.setI z.a).andPure
  case zLdRfA => exact within_runZ80 fun _ => (runs_setZ80 fun z hz _ => hz.setR z.a).andPure
  case zLdPairImm | zIncPair | zDecPair =>
    exact within_runZ80 fun _ => (runs_setZ80 fun _ hz _ => hz.setPair _ (fun _ hr => by exact hr) fun e => by exact decide_eq_true e).andPure
  case zLdXxImm | zIncXx | zDecXx =>
    exact within_runZ80 fun _ => (runs_setZ80 fun _ hz _ => hz.setIdx _ (by exact decide_eq_true rfl)).andPure
  case zLdSpHl | zLdSpXx => exact within_runZ80 fun _ => (runs_setZ80 fun _ hz _ => hz.setSp _ rfl).andPure
  case zLdRHl =>
    exact within_runZ80 fun _ => (runs_readOp8 _).bind fun _ =>
      (runs_setZ80 fun _ hz _ => hz.setReg _ (by exact decide_eq_true rfl)).andPure
  case zLdRXd =>
    exact within_runZ80 fun _ => (runs_readXd _ _).bind fun _ =>
      (runs_setZ80 fun _ hz _ => hz.setReg _ (by exact decide_eq_true rfl)).andPure
  case zLdHlR =>
    exact within_runZ80 fun _ => holds_z80_any fun _ _ _ =>
      (runs_writeOp8 _ (fun _ e => by cases e) fun _ => canPoke_of_mem List.mem_cons_self).andPure
  case zLdHlImm =>
    exact within_runZ80 fun _ => (runs_writeOp8 _ (fun _ e => by cases e) fun _ => canPoke_of_mem List.mem_cons_self).andPure
  case zLdXdR =>
    exact within_runZ80 fun _ => runs_bindXxd <| holds_z80_any fun _ _ _ =>
      (holds_storeZ80 _ (canPoke_of_mem List.mem_cons_self)).andPure
  case zLdXdImm =>
    exact within_runZ80 fun _ => runs_bindXxd (holds_storeZ80 _ (canPoke_of_mem List.mem_cons_self)).andPure
  case zLdAInd =>
    exact within_runZ80 fun _ => holds_z80_any fun _ _ _ => (holds_loadZ80 _).bind fun v =>
      (runs_setZ80 fun _ hz _ => hz.setReg (q := .a) v rfl).andPure
  case zLdANn =>
    exact within_runZ80 fun _ => (holds_loadZ80 _).bind fun v => (runs_setZ80 fun _ hz _ => hz.setReg (q := .a) v rfl).andPure
  case zLdIndA q =>
    refine within_runZ80 fun _ => holds_z80_any fun z _ hp => (holds_storeZ80 _ (canPoke_of_mem ?_)).andPure
    have same : z.bcDe q = s.startZ80.st.z80.bcDe q := by
      cases q
      · exact hp.bc
      · exact hp.de
    rw [same]
    exact List.mem_cons_self
  case zLdNnA =>
    exact within_runZ80 fun _ => holds_z80_any fun _ _ _ => (holds_storeZ80 _ (canPoke_of_mem List.mem_cons_self)).andPure
  case zExSpHl =>
    exact within_runZ80 fun _ => holds_z80_any fun _ _ _ => (runs_exchangeTop _ (canPoke_of_mem (mem_pair_left rfl))
      (canPoke_of_mem (mem_pair_right rfl))).bind fun v => (runs_setZ80 fun _ hz _ => hz.setHl v rfl rfl).andPure
  case zExSpXx =>
    exact within_runZ80 fun _ => holds_z80_any fun _ _ _ => (runs_exchangeTop _ (canPoke_of_mem (mem_pair_left rfl))
      (canPoke_of_mem (mem_pair_right rfl))).bind fun v =>
        (runs_setZ80 fun _ hz _ => hz.setIdx v (by exact decide_eq_true rfl)).andPure
  case zLdAI =>
    exact within_runZ80 fun _ => holds_z80 fun z hz _ =>
      runs_setZ80_setFlags hz (List.cons_ne_nil _ _) (fun _ hz' => hz'.setReg (q := .a) _ rfl) (by exact flagsFromZ80_c rfl rfl)
  case zLdARf =>
    exact within_runZ80 fun _ => holds_z80 fun z hz _ => runs_drawZ80_any.bind fun _ =>
      runs_setZ80_setFlags hz (List.cons_ne_nil _ _) (fun _ hz' => hz'.setReg (q := .a) _ rfl) (by exact flagsFromZ80_c rfl rfl)
  case zLdHlNn =>
    exact within_runZ80 fun _ => (holds_load16Z80 _).bind fun v => (runs_setZ80 fun _ hz _ => hz.setHl v rfl rfl).andPure
  case zLdXxNn =>
    exact within_runZ80 fun _ => (holds_load16Z80 _).bind fun v =>
      (runs_setZ80 fun _ hz _ => hz.setIdx v (by exact decide_eq_true rfl)).andPure
  case zLdPairNn =>
    exact within_runZ80 fun _ => (holds_load16Z80 _).bind fun v =>
      (runs_setZ80 fun _ hz _ => hz.setPair v (fun _ hr => by exact hr) fun e => by exact decide_eq_true e).andPure
  case zLdNnHl | zLdNnXx | zLdNnPair => exact within_runZ80 fun _ => holds_z80_any fun _ _ _ => runs_storePair rfl
  case zPush | zPushXx =>
    exact within_runZ80 fun _ => holds_z80_any fun _ _ _ =>
      (runs_pushZ80 _ rfl (canPoke_of_mem (mem_pair_left rfl)) (canPoke_of_mem (mem_pair_right rfl))).andPure
  case zPop =>
    exact within_runZ80 fun _ => (runs_popZ80 rfl).bind fun v =>
      (runs_setZ80 fun _ hz _ => hz.setPairQ v (fun _ hr => by exact hr) fun e => by exact if_pos e).andPure
  case zPopXx =>
    exact within_runZ80 fun _ => (runs_popZ80 rfl).bind fun v =>
      (runs_setZ80 fun _ hz _ => hz.setIdx v (by exact decide_eq_true rfl)).andPure
  case zLdi | zLdd =>
    exact within_runZ80 fun _ =>
      (runs_blockTransfer _ rfl (fun r hr => by exact decide_eq_true hr) (canPoke_of_mem List.mem_cons_self)).andPure
  case zLdir | zLddr =>
    exact within_runZ80 fun ipc => runs_repeat (more := fun _ z => z.bc ≠ 0#16)
      (runs_blockTransfer _ rfl (fun r hr => by exact decide_eq_true hr) (canPoke_of_mem List.mem_cons_self)) ipc
  case zCpi | zCpd => exact within_runZ80 fun _ => (runs_blockCompare _ rfl rfl rfl rfl rfl).andPure
  case zCpir | zCpdr =>
    exact within_runZ80 fun ipc => runs_repeat (more := fun r z => z.bc ≠ 0#16 && r ≠ 0#8) (runs_blockCompare _ rfl rfl rfl rfl rfl) ipc
  -- 47: arithmetic, logic, rotates and bit operations
  case zAddR | zAdcR | zSubR | zSbcR | zAndR | zXorR | zOrR =>
    exact within_runZ80 fun _ => (runs_readOp8 _).bind fun v => runs_accumulate rfl rfl v
  case zCpR => exact within_runZ80 fun _ => (runs_readOp8 _).bind fun v => runs_accumulate_cp rfl v
  case zAddN | zAdcN | zSubN | zSbcN | zAndN | zXorN | zOrN => exact within_runZ80 fun _ => runs_accumulate rfl rfl _
  case zCpN => exact within_runZ80 fun _ => runs_accumulate_cp rfl _
  case zAddXd | zAdcXd | zSubXd | zSbcXd | zAndXd | zXorXd | zOrXd =>
    exact within_runZ80 fun _ => (runs_readXd _ _).bind fun v => runs_accumulate rfl rfl v
  case zCpXd => exact within_runZ80 fun _ => (runs_readXd _ _).bind fun v => runs_accumulate_cp rfl v
  case zIncR => exact within_runZ80 fun _ => runs_updateOperand rfl (fun e => by subst e; rfl) (runs_incValue rfl)
  case zDecR => exact within_runZ80 fun _ => runs_updateOperand rfl (fun e => by subst e; rfl) (runs_decValue rfl)
  case zIncXd => exact within_runZ80 fun _ => runs_updateDisplaced rfl (runs_incValue rfl)
  case zDecXd => exact within_runZ80 fun _ => runs_updateDisplaced rfl (runs_decValue rfl)
  case zCpl =>
    refine within_runZ80 fun _ => runs_getFlags fun z hz _ => runs_setZ80_setFlags hz (List.cons_ne_nil _ _)
      (fun z' hz' => hz'.setReg (q := .a) (~~~z'.a) rfl) fun fl hfl => ?_
    have hfl' : fl ∉ [ZFlag.h, .n] := hfl
    cases fl <;> first | rfl | simp at hfl'
  case zCcf | zScf =>
    exact within_runZ80 fun _ => runs_getFlags fun z hz _ =>
      (runs_setFlags_any (by exact List.cons_ne_nil _ _) hz (by exact flagsFromZ80_szp rfl rfl rfl rfl)).andPure
  case zNeg =>
    exact within_runZ80 fun _ => holds_z80 fun z hz _ =>
      runs_setZ80_setFlags hz (List.cons_ne_nil _ _) (fun _ hz' => hz'.setReg (q := .a) _ rfl) (flagsFromZ80_all rfl)
  case zAdcHl | zSbcHl =>
    exact within_runZ80 fun _ => holds_z80 fun z hz _ =>
      runs_setZ80_setFlags hz (List.cons_ne_nil _ _) (fun _ hz' => hz'.setHl _ rfl rfl) (flagsFromZ80_all rfl)
  case zAddHl =>
    exact within_runZ80 fun _ => holds_z80 fun z hz _ =>
      runs_setZ80_setFlags hz (List.cons_ne_nil _ _) (fun _ hz' => hz'.setHl _ rfl rfl) (by exact flagsFromZ80_szp rfl rfl rfl rfl)
  case zAddXx =>
    exact within_runZ80 fun _ => holds_z80 fun z hz _ => runs_setZ80_setFlags hz (List.cons_ne_nil _ _)
      (fun _ hz' => hz'.setIdx _ (by exact decide_eq_true rfl)) (by exact flagsFromZ80_szp rfl rfl rfl rfl)
  case zRlca | zRla | zRrca | zRra => exact within_runZ80 fun _ => runs_rotateA rfl rfl _
  case zRlc | zRrc | zRl | zRr | zSla | zSra | zSrl =>
    exact within_runZ80 fun _ => runs_updateOperand rfl (fun e => by subst e; rfl) (runs_rotateValue rfl _)
  case zRlcXd | zRrcXd | zRlXd | zRrXd | zSlaXd | zSraXd | zSrlXd =>
    exact within_runZ80 fun _ => runs_updateDisplaced rfl (runs_rotateValue rfl _)
  case zRld | zRrd => exact within_runZ80 fun _ => runs_rotateDigit rfl rfl (canPoke_of_mem List.mem_cons_self)
  case zBit => exact within_runZ80 fun _ => (runs_readOp8 _).bind fun v => runs_bitValue rfl _ v
  case zBitXd => exact within_runZ80 fun _ => (runs_readXd _ _).bind fun v => runs_bitValue rfl _ v
  case zSet | zRes =>
    exact within_runZ80 fun _ => runs_updateOperand rfl (fun e => by subst e; rfl) fun _ => holdsZ80_pure _
  case zSetXd | zResXd => exact within_runZ80 fun _ => runs_updateDisplaced rfl fun _ => holdsZ80_pure _
  -- 48: jumps, calls, ports and CPU control
  case zJp | zJr => exact within_runZ80 fun _ => (runs_jumpZ80 _).andPure
  case zJpCc | zJrCc =>
    exact within_runZ80 fun _ => runs_getFlags fun _ _ _ => (runs_jumpZ80 _).andPure.ite (holdsZ80_pure _).done
  case zJpHl | zJpXx => exact within_runZ80 fun _ => holds_z80_any fun _ _ _ => (runs_jumpZ80 _).andPure
  case zDjnz =>
    exact within_runZ80 fun _ => (runs_setZ80 fun z hz _ => hz.setReg (q := .b) (z.b - 1#8) rfl).bind fun _ =>
      holds_z80_any fun _ _ _ => (runs_jumpZ80 _).andPure.ite (holdsZ80_pure _).done
  case zCall | zRst =>
    exact within_runZ80 fun _ =>
      (runs_callZ80 _ rfl (canPoke_of_mem (mem_pair_left rfl)) (canPoke_of_mem (mem_pair_right rfl))).andPure
  case zCallCc =>
    exact within_runZ80 fun _ => runs_getFlags fun _ _ _ =>
      (runs_callZ80 _ rfl (canPoke_of_mem (mem_pair_left rfl)) (canPoke_of_mem (mem_pair_right rfl))).andPure.ite (holdsZ80_pure _).done
  case zRet => exact within_runZ80 fun _ => (runs_returnZ80 rfl).andPure
  case zRetCc => exact within_runZ80 fun _ => runs_getFlags fun _ _ _ => (runs_returnZ80 rfl).andPure.ite (holdsZ80_pure _).done
  case zReti =>
    exact within_runZ80 fun _ => (runs_returnZ80 rfl).bind fun _ => (runs_setZ80 fun z hz _ => by
      exact hz.setIff (a := z.iff2) (b := z.iff2) (c := z.cooldown) rfl (by decide) (.inr rfl) (.inr rfl)).bind fun _ =>
        (holdsZ80_record _).andPure
  case zRetn =>
    exact within_runZ80 fun _ => (runs_returnZ80 rfl).bind fun _ => (runs_setZ80 fun z hz _ => by
      exact hz.setIff (a := z.iff2) (b := z.iff2) (c := z.cooldown) rfl (by decide) (.inr rfl) (.inr rfl)).andPure
  case zInAN =>
    exact within_runZ80 fun _ => holds_z80_any fun _ _ _ => (holds_inPort _).bind fun v =>
      (runs_setZ80 fun _ hz _ => hz.setReg (q := .a) v rfl).andPure
  case zInRC =>
    exact within_runZ80 fun _ => holds_z80 fun z hz _ => (holds_inPort _).bind fun v =>
      runs_setZ80_setFlags hz (List.cons_ne_nil _ _) (fun _ hz' => hz'.setReg v (by exact decide_eq_true rfl))
        (by exact flagsFromZ80_c rfl rfl)
  case zOutNA | zOutCR => exact within_runZ80 fun _ => holds_z80_any fun _ _ _ => (holds_outPort _ _).andPure
  case zIni | zInd =>
    exact within_runZ80 fun _ => (runs_blockIn _ rfl rfl rfl rfl (canPoke_of_mem List.mem_cons_self)).andPure
  case zInir | zIndr =>
    exact within_runZ80 fun ipc => runs_repeat (more := fun _ z => z.b ≠ 0#8)
      (runs_blockIn _ rfl rfl rfl rfl (canPoke_of_mem List.mem_cons_self)) ipc
  case zOuti | zOutd => exact within_runZ80 fun _ => (runs_blockOut _ rfl rfl rfl rfl).andPure
  case zOtir | zOtdr =>
    exact within_runZ80 fun ipc => runs_repeat (more := fun _ z => z.b ≠ 0#8) (runs_blockOut _ rfl rfl rfl rfl) ipc
  case zNop => exact within_runZ80 fun _ => (holdsZ80_pure _).done
  case zHalt => exact within_runZ80 fun _ => (runs_setZ80 fun _ hz _ => hz.setHalted).andPure
  case zDi =>
    exact within_runZ80 fun _ => (runs_setZ80 fun z hz _ => by
      exact hz.setIff (a := false) (b := false) (c := z.cooldown) rfl (by decide) (.inl (by decide)) (.inr rfl)).andPure
  case zEi =>
    exact within_runZ80 fun _ => (runs_setZ80 fun z hz _ => by
      exact hz.setIff (a := true) (b := true) (c := true) rfl (by decide) (.inl (by decide)) (.inl rfl)).andPure
  case zIm0 | zIm1 | zIm2 => exact within_runZ80 fun _ => (runs_setZ80 fun _ hz _ => hz.setIm _ (by decide)).andPure
  -- refused on every path
  case zDaa | zCbPrefix | zEdPrefix | zDdPrefix | zFdPrefix | zDdcbPrefix => exact within_refuseZ80 _ s
  -- the M68K instructions
  all_goals exact absurd h (is68k_ne_false rfl)

end Sys2Proof.Laws
end

section
/-! The frames of the Z80 instructions: registers and memory. -/

namespace Sys2Proof.Laws

open Sys2Proof.Machine

section Outcome

variable {K : Nat → Prop} {E : Z80 → Prop} {act : ActZ80} {s t : State}

/-- The registers of a next state, a waiting one too. -/
theorem OutcomeZ80.registers {x : Host.Outcome State Fault Refusal} (h : OutcomeZ80 K E act s x) (hx : x = .next t) : E t.z80 := by
  subst hx
  rcases h with h | ⟨u, mb, log, hu, -, rfl⟩
  · exact h.registers
  · exact hu.registers

/-- The memory of a next state. -/
theorem OutcomeZ80.mem {x : Host.Outcome State Fault Refusal} (h : OutcomeZ80 K E act s x) (hx : x = .next t) :
    MemChange K s.mem t.mem := by
  subst hx
  have hs : s.startZ80.st.mem = s.mem := by rw [startZ80_st]
  rw [← hs]
  rcases h with h | ⟨u, mb, log, hu, -, rfl⟩
  · exact h.mem
  · exact hu.mem

end Outcome

/-- What a Z80 instruction may have changed of the registers in a next state. -/
theorem exec_frameZ80 {i : Instr} {s t : State} (hi : i.is68k = false) (h : exec i s = .next t) :
    FrameZ80 i s.startZ80.st.z80 t.z80 := (exec_withinZ80 s hi).registers h

/-- Settles O45, from the frame that every instruction keeps. -/
theorem z80RegisterFrame : Obligations.Z80RegisterFrame := by
  unfold Obligations.Z80RegisterFrame
  intro i s t hi h
  have frame := exec_frameZ80 hi h
  refine ⟨frame.reg, frame.flag, frame.regF, frame.exAf, fun hx => ?_, frame.idx, frame.sp, frame.regI, frame.regR, frame.iff1,
    frame.iff2, frame.im, frame.cooldown, frame.halted, frame.run⟩
  simpa only [Alternates, Prod.mk.injEq] using frame.exx hx

/-- Settles O46: an instruction writes memory only at the bytes of its stores. -/
theorem z80MemoryFrame : Obligations.Z80MemoryFrame := by
  unfold Obligations.Z80MemoryFrame
  intro i s t k hi hm h hk
  refine ((exec_withinZ80 s hi).mem h).read_eq hm fun ⟨a, ha, hkey⟩ => hk a ha ?_
  rwa [writtenKeyZ80_congr (s := s.startZ80.st) (s0 := s) (by rw [startZ80_st]) (by rw [startZ80_bus])] at hkey

end Sys2Proof.Laws
end

section
/-! What an activity of a processor, an instruction, a fetch or the acceptance of an interrupt, leaves alone in the block. -/

namespace Sys2Proof.Laws

open Sys2Proof.Machine

/-! ### M68K -/

/-- What an M68K activity begun in `s` leaves alone in the next state `t`, and what it waits in. -/
structure Acts68k (s t : State) : Prop where
  z80 : t.z80 = s.z80
  waitZ80 : t.waitZ80 = s.waitZ80
  launch : t.launch = s.launch
  refused : t.refusedMarks = s.refusedMarks
  faulted : t.faultedMarks = s.faultedMarks ∨
    (t.m68k.run = .halted .crashed ∧ t.faultedMarks = (.m68k, .halt .crashed) :: s.faultedMarks)
  schedule : t.schedule = s.schedule
  turns : t.turns = s.turns
  fairDue : t.fairDue = s.fairDue
  events : ∃ l, t.events = l ++ s.events
  bus : t.bus = { s.bus with mb68k := t.bus.mb68k, draws := t.bus.draws }
  level : t.bus.mb68k.intLevel = s.bus.mb68k.intLevel
  mem : MemChange (fun _ => True) s.mem t.mem
  wait : (t.wait68k = none ∧ t.bus.mb68k = s.bus.mb68k) ∨
    ∃ w, t.wait68k = some w ∧ ∀ i, w.act = .exec i → i.is68k = true

/-- An outcome of M68K: a next state as of an activity, and no fault for want of a mailbox that is free (20 R154). -/
def Yields68k (s : State) (x : Host.Outcome State Fault Refusal) : Prop :=
  match x with
  | .next t => Acts68k s t
  | .fault f => s.bus.mb68k.op = .none → f ≠ .protocolSecondAccess
  | .refused _ => True

section M68k

variable {K : Nat → Prop} {E : M68k → Prop} {s t : State}

/-- A state of an activity, written out. -/
theorem In68k.written (h : In68k K E s.start68k.st t) :
    ∃ m mem l n, E m ∧ MemChange (fun _ => True) s.mem mem ∧
      t = { s with m68k := m, wait68k := none, mem := mem, events := l ++ s.events, bus := { s.bus with draws := n } } := by
  rw [start68k_st] at h
  obtain ⟨m, hm, mem, l, n, hmem, rfl⟩ := h
  exact ⟨m, mem, l, n, hm, hmem.mono fun _ _ => trivial, rfl⟩

theorem yields_of_outcome {act : Act68k} {x : Host.Outcome State Fault Refusal} (h : Outcome68k K E act s x)
    (ha : ∀ i, act = .exec i → i.is68k = true) : Yields68k s x := by
  cases x with
  | fault f => exact h
  | refused r => trivial
  | next t =>
    rcases h with h | ⟨-, u, h, rfl⟩ | ⟨u, mb, log, h, hmb, rfl⟩
    · obtain ⟨m, mem, l, n, -, hmem, rfl⟩ := h.written
      exact ⟨rfl, rfl, rfl, rfl, .inl rfl, rfl, rfl, rfl, ⟨l, rfl⟩, rfl, rfl, hmem, .inl ⟨rfl, rfl⟩⟩
    · obtain ⟨m, mem, l, n, -, hmem, rfl⟩ := h.written
      exact ⟨rfl, rfl, rfl, rfl, .inr ⟨rfl, rfl⟩, rfl, rfl, rfl, ⟨l, rfl⟩, rfl, rfl, hmem, .inl ⟨rfl, rfl⟩⟩
    · obtain ⟨m, mem, l, n, -, hmem, rfl⟩ := h.written
      exact ⟨rfl, rfl, rfl, rfl, .inl rfl, rfl, rfl, rfl, ⟨l, rfl⟩, rfl, hmb, hmem, .inr ⟨_, rfl, ha⟩⟩

theorem yields_exec {i : Instr} (s : State) (h : i.is68k = true) : Yields68k s (exec i s) :=
  yields_of_outcome (exec_within s h) fun _ e => by cases e; exact h

theorem withEa_is68k {f : Ea → Instr} (sz : Size) (w : Word) (ws : List Word) (hf : ∀ ea, (f ea).is68k = true) :
    (withEa sz w ws f).1.is68k = true := by
  rw [withEa]
  split
  · exact hf _
  · rfl

theorem takeMove_is68k {f : Ea → Ea → Instr} (sz : Size) (w : Word) (ws : List Word) (hf : ∀ src dst, (f src dst).is68k = true) :
    (takeMove sz w ws f).1.is68k = true := by
  rw [takeMove]
  split
  · rfl
  · split
    · rfl
    · exact hf _ _

theorem takeDisp_is68k {f : Disp → Instr} (w : Word) (ws : List Word) (hf : ∀ d, (f d).is68k = true) :
    (takeDisp w ws f).1.is68k = true := by
  simp only [takeDisp]
  split
  · exact hf _
  · exact hf _

/-- What M68K fetches is an instruction of its own. -/
theorem build68k_is68k (g : Tag68k) (w : Word) (ws : List Word) : (build68k g w ws).1.is68k = true := by
  cases g
  case moveB | moveL | moveW => exact takeMove_is68k _ _ _ fun _ _ => rfl
  case bra | bsr | bcc => exact takeDisp_is68k _ _ fun _ => rfl
  case movepLoad | movepStore | swap | extW | extL | illegal | trap | link | unlk | moveUsp | reset | nop | stop | rte | rts | trapv
      | rtr | dbcc | moveq | sbcd | subx | addx | lineA | cmpm | abcd | exgDD | exgAA | exgDA | asrReg | aslReg | lsrReg | lslReg
      | roxrReg | roxlReg | rorReg | rolReg | lineF | oriToCcr | oriToSr | andiToCcr | andiToSr | eoriToCcr | eoriToSr => rfl
  all_goals exact withEa_is68k _ _ _ fun _ => rfl

theorem fetchInstr68k_is68k {i : Instr} {c d : Ctx} (h : fetchInstr68k c = .ok i d) : i.is68k = true := by
  obtain ⟨m, c1, h⟩ := exists_ok_of_bind_ok h
  obtain ⟨w, c2, h⟩ := exists_ok_of_bind_ok h
  obtain ⟨ws, c3, h⟩ := exists_ok_of_bind_ok h
  cases h
  exact build68k_is68k _ _ _

theorem fetchExec68k_ok {i : Instr} {c : Ctx} (h : fetchInstr68k s.start68k = .ok i c) :
    fetchExec68k s = exec i { c.st with m68k := s.start68k.st.m68k } := by
  rw [fetchExec68k, h]

theorem fetchExec68k_error {e : Stop} {c : Ctx} (h : fetchInstr68k s.start68k = .error e c) :
    fetchExec68k s = finish68k .fetch s (.error e c) := by
  rw [fetchExec68k, h]
  cases e <;> rfl

theorem free68k_true : Free68k fun _ => True := fun _ _ _ _ _ => trivial

theorem holds_fetchWords {s0 : State} {p : M68k → Prop} (k : Nat) :
    Holds68k (fun _ => True) (fun _ => True) s0 p (fetchWords k) fun _ _ => True := by
  induction k generalizing p with
  | zero => exact (holds_pure _).done
  | succ k ih => exact (holds_fetch16 free68k_true).bind fun _ => ih.bind fun _ => holds_pure _

theorem holds_fetchInstr68k {s0 : State} {p : M68k → Prop} :
    Holds68k (fun _ => True) (fun _ => True) s0 p fetchInstr68k fun _ _ => True :=
  holds_regs fun _ _ _ => (holds_fetch16 free68k_true).bind fun _ => (holds_fetchWords _).bind fun _ => holds_pure _

/-- What follows a state of an activity, afresh, is as if from where the activity began. -/
theorem Yields68k.fetched {u : State} {m : M68k} {x : Host.Outcome State Fault Refusal}
    (hu : In68k (fun _ => True) E s.start68k.st u) (h : Yields68k { u with m68k := m } x) : Yields68k s x := by
  obtain ⟨m', mem, l, n, -, hmem, rfl⟩ := hu.written
  cases x with
  | fault f => exact h
  | refused r => trivial
  | next t =>
    have h : Acts68k _ t := h
    obtain ⟨l', hl'⟩ := h.events
    exact ⟨h.z80, h.waitZ80, h.launch, h.refused, h.faulted, h.schedule, h.turns, h.fairDue,
      ⟨l' ++ l, hl'.trans (List.append_assoc _ _ _).symm⟩, h.bus, h.level, hmem.trans h.mem, h.wait⟩

theorem yields_fetchExec68k (s : State) : Yields68k s (fetchExec68k s) := by
  have hx := holds_fetchInstr68k (s0 := s.start68k.st) (p := fun _ => True)
  have hi : In68k (fun _ => True) (fun _ => True) s.start68k.st s.start68k.st := in68k_refl trivial
  cases hc : fetchInstr68k s.start68k with
  | ok i c =>
    rw [fetchExec68k_ok hc]
    exact .fetched (Keeps.of_ok hx hi trivial hc).1 (yields_exec _ (fetchInstr68k_is68k hc))
  | error e c =>
    rw [fetchExec68k_error hc]
    exact yields_of_outcome (outcome_stopped .fetch e (Keeps.of_error hx hi trivial hc)) fun _ h => by cases h

theorem freeEntry_true : FreeEntry fun _ => True where
  free := free68k_true
  sp _ _ _ := trivial
  super _ _ := trivial
  running _ _ := trivial

theorem canStore_true (l : Launch) (a : Long) (sz : Size) : CanStore (fun _ => True) l a sz := fun _ _ _ _ => trivial

theorem yields_enterInterrupt68k (level : Nat) (s : State) : Yields68k s (enterInterrupt68k level s) := by
  refine yields_of_outcome (act := .irq level) (K := fun _ => True) (E := fun _ => True) ?_ fun _ h => by cases h
  refine outcome_finish (p := fun _ => True) (q := fun _ _ => True) _ ?_ rfl trivial trivial
  exact holds_regs fun m _ _ => holds_enterException freeEntry_true _ _ (fun _ _ _ _ => trivial) fun _ _ _ =>
    ⟨canStore_true _ _ _, canStore_true _ _ _⟩

end M68k

/-! ### Z80 -/

/-- What a Z80 activity begun in `s` leaves alone in the next state `t`, and what it waits in. -/
structure ActsZ80 (s t : State) : Prop where
  m68k : t.m68k = s.m68k
  wait68k : t.wait68k = s.wait68k
  launch : t.launch = s.launch
  refused : t.refusedMarks = s.refusedMarks
  faulted : t.faultedMarks = s.faultedMarks
  schedule : t.schedule = s.schedule
  turns : t.turns = s.turns
  fairDue : t.fairDue = s.fairDue
  events : ∃ l, t.events = l ++ s.events
  bus : t.bus = { s.bus with mbZ80 := t.bus.mbZ80, draws := t.bus.draws }
  level : t.bus.mbZ80.intLevel = s.bus.mbZ80.intLevel
  draws : s.launch.oracleIsOwners → t.bus.draws = s.bus.draws
  mem : MemChange (fun _ => True) s.mem t.mem
  iff : s.startZ80.st.z80.iffOk → t.z80.iffOk
  wait : (t.waitZ80 = none ∧ t.bus.mbZ80 = s.bus.mbZ80) ∨
    ∃ w, t.waitZ80 = some w ∧ (∀ i, w.act = .exec i → i.is68k = false) ∧ w.snap = s.startZ80.st.z80

/-- An outcome of Z80: a next state as of an activity, and no fault for want of a mailbox that is free (20 R154). -/
def YieldsZ80 (s : State) (x : Host.Outcome State Fault Refusal) : Prop :=
  match x with
  | .next t => ActsZ80 s t
  | .fault f => s.bus.mbZ80.op = .none → f ≠ .protocolSecondAccess
  | .refused _ => True

/-- The flip-flops are alike if they were when the activity began. -/
def KeepsIff (s : State) (z : Z80) : Prop := s.startZ80.st.z80.iffOk → z.iffOk

section Z80

variable {K : Nat → Prop} {E : Z80 → Prop} {s t : State}

/-- A state of an activity, written out. -/
theorem InZ80.written (h : InZ80 K E s.startZ80.st t) :
    ∃ z mem l n, E z ∧ MemChange (fun _ => True) s.mem mem ∧ (s.launch.oracleIsOwners → n = s.bus.draws) ∧
      t = { s with z80 := z, waitZ80 := none, mem := mem, events := l ++ s.events, bus := { s.bus with draws := n } } := by
  rw [startZ80_st] at h
  obtain ⟨⟨z, hz, mem, l, n, hmem, rfl⟩, hd⟩ := h
  exact ⟨z, mem, l, n, hz, hmem.mono fun _ _ => trivial, hd, rfl⟩

theorem yieldsZ80_of_outcome {act : ActZ80} {x : Host.Outcome State Fault Refusal} (h : OutcomeZ80 K E act s x)
    (hE : ∀ z, E z → KeepsIff s z) (ha : ∀ i, act = .exec i → i.is68k = false) : YieldsZ80 s x := by
  cases x with
  | fault f => exact h
  | refused r => trivial
  | next t =>
    rcases h with h | ⟨u, mb, log, h, hmb, rfl⟩
    · obtain ⟨z, mem, l, n, hz, hmem, hn, rfl⟩ := h.written
      exact ⟨rfl, rfl, rfl, rfl, rfl, rfl, rfl, rfl, ⟨l, rfl⟩, rfl, rfl, hn, hmem, hE z hz, .inl ⟨rfl, rfl⟩⟩
    · obtain ⟨z, mem, l, n, hz, hmem, hn, rfl⟩ := h.written
      exact ⟨rfl, rfl, rfl, rfl, rfl, rfl, rfl, rfl, ⟨l, rfl⟩, rfl, hmb, hn, hmem, hE z hz, .inr ⟨_, rfl, ha, rfl⟩⟩

theorem yieldsZ80_exec {i : Instr} (s : State) (h : i.is68k = false) : YieldsZ80 s (exec i s) :=
  yieldsZ80_of_outcome (exec_withinZ80 s h) (fun _ hz => hz.iffOk) fun _ e => by cases e; exact h

theorem freeZ80_keepsIff (s : State) : FreeZ80 (KeepsIff s) := fun _ _ _ _ _ h => h

theorem holds_fetchBytes {s0 : State} {p : Z80 → Prop} (k : Nat) (bs : List Byte) :
    HoldsZ80 (fun _ => True) (KeepsIff s) s0 p (fetchBytes k bs) fun _ _ => True := by
  induction k generalizing bs p with
  | zero => exact (holdsZ80_pure _).done
  | succ k ih =>
    exact .ite (holdsZ80_pure _).done ((holds_fetch8 (freeZ80_keepsIff s)).bind fun _ => ih _)

theorem holds_fetchInstrZ80 {s0 : State} {p : Z80 → Prop} :
    HoldsZ80 (fun _ => True) (KeepsIff s) s0 p fetchInstrZ80 fun _ _ => True :=
  (holds_fetch8 (freeZ80_keepsIff s)).bind fun _ => (holds_fetchBytes 3 _).bind fun _ => holdsZ80_pure _

/-- What follows a state of an activity, afresh, is as if from where the activity began. -/
theorem YieldsZ80.fetched {u : State} {x : Host.Outcome State Fault Refusal} (hu : InZ80 (fun _ => True) E s.startZ80.st u)
    (h : YieldsZ80 { u with z80 := s.startZ80.st.z80 } x) : YieldsZ80 s x := by
  obtain ⟨z, mem, l, n, -, hmem, hn, rfl⟩ := hu.written
  cases x with
  | fault f => exact h
  | refused r => trivial
  | next t =>
    have h : ActsZ80 _ t := h
    obtain ⟨l', hl'⟩ := h.events
    exact ⟨h.m68k, h.wait68k, h.launch, h.refused, h.faulted, h.schedule, h.turns, h.fairDue,
      ⟨l' ++ l, hl'.trans (List.append_assoc _ _ _).symm⟩, h.bus, h.level, fun ho => (h.draws ho).trans (hn ho), hmem.trans h.mem,
      h.iff, h.wait⟩

theorem yieldsZ80_fetchExecZ80 (s : State) : YieldsZ80 s (fetchExecZ80 s) := by
  have hx := holds_fetchInstrZ80 (s := s) (s0 := s.startZ80.st) (p := fun _ => True)
  have hi : InZ80 (fun _ => True) (KeepsIff s) s.startZ80.st s.startZ80.st := inZ80_refl fun h => h
  cases hc : fetchInstrZ80 s.startZ80 with
  | ok i c =>
    rw [fetchExecZ80_ok hc]
    exact .fetched (Keeps.of_ok hx hi trivial hc).1 (yieldsZ80_exec _ (fetchInstrZ80_isZ80 hc))
  | error e c =>
    rw [fetchExecZ80_error hc]
    exact yieldsZ80_of_outcome (outcomeZ80_stopped .fetch e (Keeps.of_error hx hi trivial hc)) (fun _ h => h) fun _ h => by cases h

theorem canPoke_true (s0 : State) (a : Word) : CanPoke (fun _ => True) s0 a := fun _ _ => trivial

theorem yieldsZ80_enterInterruptZ80 (s : State) : YieldsZ80 s (enterInterruptZ80 s) := by
  refine yieldsZ80_of_outcome (act := .irq) (K := fun _ => True) (E := KeepsIff s) ?_ (fun _ h => h) fun _ h => by cases h
  refine outcomeZ80_finish (p := fun _ => True) (q := fun _ _ => True) _ ?_ rfl (fun h => h) trivial
  refine holds_z80_any fun z _ _ => ?_
  have accept (b : Word) : HoldsZ80 (fun _ => True) (KeepsIff s) s.startZ80.st (fun z => z.sp = b) (do
      setZ80 fun z => { z with halted := false, iff1 := false, iff2 := false }
      pushZ80 z.pc
      setZ80 fun z => { z with pc := 0x0038#16 }
      spendZ80 .intAcceptIM1) fun _ _ => True := by
    refine HoldsZ80.bind (q := fun _ z => z.sp = b) (holds_setZ80 fun z _ e => ⟨fun _ => rfl, e⟩) fun _ => ?_
    refine (holds_pushZ80 (fun _ _ h => h) _ (fun _ e => e) (canPoke_true _ _) (canPoke_true _ _)).bind fun _ => ?_
    exact HoldsZ80.bind (q := fun _ _ => True) (holds_setZ80 fun z hz _ => ⟨hz, trivial⟩) fun _ =>
      holds_spendZ80 (freeZ80_keepsIff s) _
  exact .ite ((holdsZ80_refused (q := fun _ _ => True) _).bind fun _ c hi _ => accept c.st.z80.sp c hi rfl)
    fun c hi _ => accept c.st.z80.sp c hi rfl

end Z80

end Sys2Proof.Laws
end

section
/-! The turns of the two processors: what each of their steps is, and what it leaves alone in the block. -/

namespace Sys2Proof.Laws

open Sys2Proof.Machine

/-! ### Marks -/

/-- Marks set for one agent end no steps of another (log 14). -/
theorem dead_eq_of_marks {s t : State} {ag own : Agent} {l : List (Agent × Refusal)} {l' : List (Agent × FaultReason)}
    (hr : t.refusedMarks = l ++ s.refusedMarks) (hl : ∀ m ∈ l, m.1 = own) (hf : t.faultedMarks = l' ++ s.faultedMarks)
    (hl' : ∀ m ∈ l', m.1 = own) (h : ag ≠ own) : t.dead ag = s.dead ag := by
  have refused : l.find? (fun m => m.1 = ag) = none := List.find?_eq_none.2 fun m hm => by simp [hl m hm, Ne.symm h]
  have faulted (g : Agent × FaultReason → Bool) : l'.find? (fun m => decide (m.1 = ag) && g m) = none :=
    List.find?_eq_none.2 fun m hm => by simp [hl' m hm, Ne.symm h]
  rw [State.dead, State.dead, hr, hf, List.find?_append, refused, List.find?_append, faulted, Option.none_or, Option.none_or]

/-- A fault that ends an agent's steps is a mark of the agent. -/
theorem fault_of_dead {s : State} {ag : Agent} {f : Fault} (h : s.dead ag = some (.fault f)) : (ag, .fault f) ∈ s.faultedMarks := by
  rw [State.dead] at h
  split at h
  · cases h
  · split at h
    · rename_i a g hg
      cases h
      have hp := List.find?_some hg
      simp only [Bool.and_true, decide_eq_true_eq] at hp
      exact hp ▸ List.mem_of_find?_eq_some hg
    · cases h

/-! ### M68K: what a turn is -/

/-- The next states of a turn of M68K. -/
inductive Step68k (s : State) : State → Prop
  | idle (f : M68k → M68k) : Step68k s (s.mapM68k f)
  | oddPc : Step68k s (s.halt68k .oddPc)
  | trace : Step68k s (s.markRefused .m68k .trace)
  | interrupt {t : State} (level : Nat) (hw : s.ready68k)
      (h : settle68k s.clearInt68k (enterInterrupt68k level s.clearInt68k) = .next t) : Step68k s t
  | fetch {t : State} (hw : s.ready68k) (h : settle68k s (fetchExec68k s) = .next t) : Step68k s t
  | resume {t : State} (w : Wait68k) (hw : s.wait68k = some w) (hop : s.bus.mb68k.op = .none) (h : resume68k w s = .next t) :
    Step68k s t

theorem step68k_of_boundary {s t : State} (hw : s.ready68k) (h : boundary68k s = .next t) : Step68k s t := by
  simp only [boundary68k] at h
  split at h
  · cases h
    exact .idle _
  · split_ifs at h
    · exact .interrupt _ hw h
    · cases h
      exact .idle _
    · cases h
      exact .trace
    · cases h
      exact .oddPc
    · exact .fetch hw h

theorem step68k_of_turn {s t : State} (h : turn68k s = .next t) : Step68k s t := by
  rw [turn68k] at h
  cases hd : s.dead .m68k with
  | some x =>
    rw [hd] at h
    exact absurd h (dead_ne_next hd t)
  | none =>
    cases hw : s.wait68k with
    | none =>
      rw [hd, hw] at h
      exact step68k_of_boundary hw h
    | some w =>
      rw [hd, hw] at h
      dsimp only at h
      split_ifs at h with hop
      · exact .resume w hw hop h
      · cases h
        exact .idle id

theorem settle68k_ne_fault (s : State) (x : Host.Outcome State Fault Refusal) (f : Fault) : settle68k s x ≠ .fault f := by
  cases x <;> simp [settle68k]

/-- A turn of M68K answers a fault only for a mark (log 14). -/
theorem dead_of_turn68k_fault {s : State} {f : Fault} (h : turn68k s = .fault f) : s.dead .m68k = some (.fault f) := by
  rw [turn68k] at h
  cases hd : s.dead .m68k with
  | some x =>
    rw [hd] at h
    exact congrArg some h
  | none =>
    rw [hd] at h
    dsimp only at h
    split at h
    · simp only [boundary68k] at h
      split at h
      · cases h
      · split_ifs at h <;> first | cases h | exact absurd h (settle68k_ne_fault _ _ _)
    · split_ifs at h
      exact absurd h (settle68k_ne_fault _ _ _)

/-! ### M68K: what a turn leaves alone -/

/-- What a turn of M68K in `s` leaves alone in the next state `t`. -/
structure Turned68k (s t : State) : Prop where
  z80 : t.z80 = s.z80
  waitZ80 : t.waitZ80 = s.waitZ80
  launch : t.launch = s.launch
  schedule : t.schedule = s.schedule
  turns : t.turns = s.turns
  fairDue : t.fairDue = s.fairDue
  bus : t.bus = { s.bus with mb68k := t.bus.mb68k, draws := t.bus.draws }
  level : t.bus.mb68k.intLevel = s.bus.mb68k.intLevel ∨ t.bus.mb68k.intLevel = 0
  mem : MemChange (fun _ => True) s.mem t.mem
  refused : ∃ l, t.refusedMarks = l ++ s.refusedMarks ∧ ∀ m ∈ l, m.1 = .m68k
  faulted : ∃ l, t.faultedMarks = l ++ s.faultedMarks ∧ ∀ m ∈ l, m.1 = .m68k ∧ m.2 ≠ .fault .protocolSecondAccess
  pending : (s.bus.mb68k.op ≠ .none → s.wait68k ≠ none) → t.bus.mb68k.op ≠ .none → t.wait68k ≠ none
  act : (∀ w i, s.wait68k = some w → w.act = .exec i → i.is68k = true) →
    ∀ w i, t.wait68k = some w → w.act = .exec i → i.is68k = true

section Turned68k

variable {s t : State}

theorem Turned68k.of_acts (h : Acts68k s t) (hop : s.bus.mb68k.op = .none) : Turned68k s t where
  z80 := h.z80
  waitZ80 := h.waitZ80
  launch := h.launch
  schedule := h.schedule
  turns := h.turns
  fairDue := h.fairDue
  bus := h.bus
  level := .inl h.level
  mem := h.mem
  refused := ⟨[], h.refused, fun _ hm => by cases hm⟩
  faulted := by
    rcases h.faulted with e | ⟨-, e⟩
    · exact ⟨[], e, fun _ hm => by cases hm⟩
    · exact ⟨[_], e, fun m hm => by rw [List.mem_singleton.1 hm]; exact ⟨rfl, by decide⟩⟩
  pending _ hp := by
    rcases h.wait with ⟨-, e⟩ | ⟨w, e, -⟩
    · exact absurd hop (e ▸ hp)
    · simp [e]
  act _ w i hw ha := by
    rcases h.wait with ⟨e, -⟩ | ⟨v, e, hv⟩
    · rw [e] at hw
      cases hw
    · rw [e] at hw
      cases hw
      exact hv i ha

/-- A failure of M68K sets its mark. -/
theorem turned68k_settle {x : Host.Outcome State Fault Refusal} (hy : Yields68k s x) (hop : s.bus.mb68k.op = .none)
    (h : settle68k s x = .next t) : Turned68k s t := by
  cases x with
  | next u =>
    cases h
    exact .of_acts hy hop
  | fault f =>
    cases h
    have hf : f ≠ .protocolSecondAccess := hy hop
    exact ⟨rfl, rfl, rfl, rfl, rfl, rfl, rfl, .inl rfl, .refl, ⟨[], rfl, fun _ hm => by cases hm⟩,
      ⟨[_], rfl, fun m hm => by rw [List.mem_singleton.1 hm]; exact ⟨rfl, by simpa using hf⟩⟩, fun h => h, fun h => h⟩
  | refused r =>
    cases h
    exact ⟨rfl, rfl, rfl, rfl, rfl, rfl, rfl, .inl rfl, .refl,
      ⟨[_], rfl, fun m hm => by rw [List.mem_singleton.1 hm]⟩, ⟨[], rfl, fun _ hm => by cases hm⟩, fun h => h, fun h => h⟩

/-- A resumed activity is one of the state that waits. -/
theorem Yields68k.answered {w : Wait68k} {x : Host.Outcome State Fault Refusal} (h : Yields68k (s.answered68k w) x) : Yields68k s x := by
  cases x with
  | next t =>
    have h : Acts68k _ t := h
    exact ⟨h.z80, h.waitZ80, h.launch, h.refused, h.faulted, h.schedule, h.turns, h.fairDue, h.events, h.bus, h.level, h.mem, h.wait⟩
  | fault f => exact h
  | refused r => trivial

theorem turned68k_of_step (hp : s.bus.mb68k.op ≠ .none → s.wait68k ≠ none)
    (ha : ∀ w i, s.wait68k = some w → w.act = .exec i → i.is68k = true) (h : Step68k s t) : Turned68k s t := by
  have free (hw : s.ready68k) : s.bus.mb68k.op = .none := by
    by_contra hop
    exact hp hop hw
  cases h with
  | idle f =>
    exact ⟨rfl, rfl, rfl, rfl, rfl, rfl, rfl, .inl rfl, .refl, ⟨[], rfl, fun _ hm => by cases hm⟩,
      ⟨[], rfl, fun _ hm => by cases hm⟩, fun h => h, fun h => h⟩
  | oddPc =>
    exact ⟨rfl, rfl, rfl, rfl, rfl, rfl, rfl, .inl rfl, .refl, ⟨[], rfl, fun _ hm => by cases hm⟩,
      ⟨[_], rfl, fun m hm => by rw [List.mem_singleton.1 hm]; exact ⟨rfl, by decide⟩⟩, fun h => h, fun h => h⟩
  | trace =>
    exact ⟨rfl, rfl, rfl, rfl, rfl, rfl, rfl, .inl rfl, .refl, ⟨[_], rfl, fun m hm => by rw [List.mem_singleton.1 hm]⟩,
      ⟨[], rfl, fun _ hm => by cases hm⟩, fun h => h, fun h => h⟩
  | interrupt level hw h =>
    have base := turned68k_settle (yields_enterInterrupt68k level s.clearInt68k) (free hw) h
    exact ⟨base.z80, base.waitZ80, base.launch, base.schedule, base.turns, base.fairDue, base.bus,
      .inr (base.level.elim id id), base.mem, base.refused, base.faulted, base.pending, base.act⟩
  | fetch hw h => exact turned68k_settle (yields_fetchExec68k s) (free hw) h
  | resume w hw hop h =>
    refine turned68k_settle (.answered (w := w) ?_) hop h
    cases hact : w.act with
    | fetch => exact yields_fetchExec68k _
    | exec i => exact yields_exec _ (ha w i hw hact)
    | irq level => exact yields_enterInterrupt68k level _

/-- A turn of M68K, from a state with the invariant. -/
theorem turned68k (hi : s.Inv) (h : turn68k s = .next t) : Turned68k s t :=
  turned68k_of_step hi.pending68k hi.act68k (step68k_of_turn h)

end Turned68k

/-! ### Z80: what a turn is -/

/-- Z80 with the bus, at a boundary where nothing else is to do. -/
def onBus (s : State) : State := s.mapBus fun b => { b with busAck := false }

/-- Z80 about to fetch. -/
def beforeFetch (s : State) : State := (onBus s).mapZ80 fun z => { z with cooldown := false, dcache := none }

/-- The next states of a turn of Z80. -/
inductive StepZ80 (s : State) : State → Prop
  | wait : StepZ80 s s
  | reset : StepZ80 s s.resetZ80
  | grant : StepZ80 s (s.mapBus fun b => { b with busAck := true }).idleZ80
  | idle : StepZ80 s (onBus s).idleZ80
  | interrupt {t : State} (hw : s.readyZ80)
      (h : settleZ80 (onBus s).clearIntZ80 (enterInterruptZ80 (onBus s).clearIntZ80) = .next t) : StepZ80 s t
  | fetch {t : State} (hw : s.readyZ80) (h : settleZ80 (beforeFetch s) (fetchExecZ80 (beforeFetch s)) = .next t) : StepZ80 s t
  | resume {t : State} (w : WaitZ80) (hw : s.waitZ80 = some w) (hop : s.bus.mbZ80.op = .none) (h : resumeZ80 w s = .next t) :
    StepZ80 s t

theorem stepZ80_of_boundary {s t : State} (hw : s.readyZ80) (h : boundaryZ80 s = .next t) : StepZ80 s t := by
  simp only [boundaryZ80] at h
  split_ifs at h
  · cases h
    exact .reset
  · cases h
    exact .grant
  · exact .interrupt hw h
  · cases h
    exact .idle
  · exact .fetch hw h

theorem stepZ80_of_turn {s t : State} (h : turnZ80 s = .next t) : StepZ80 s t := by
  rw [turnZ80] at h
  cases hd : s.dead .z80 with
  | some x =>
    rw [hd] at h
    exact absurd h (dead_ne_next hd t)
  | none =>
    cases hw : s.waitZ80 with
    | none =>
      rw [hd, hw] at h
      exact stepZ80_of_boundary hw h
    | some w =>
      rw [hd, hw] at h
      dsimp only at h
      split_ifs at h with hop
      · exact .resume w hw hop h
      · cases h
        exact .wait

theorem settleZ80_ne_fault (s : State) (x : Host.Outcome State Fault Refusal) (f : Fault) : settleZ80 s x ≠ .fault f := by
  cases x <;> simp [settleZ80]

/-- A turn of Z80 answers a fault only for a mark (log 14). -/
theorem dead_of_turnZ80_fault {s : State} {f : Fault} (h : turnZ80 s = .fault f) : s.dead .z80 = some (.fault f) := by
  rw [turnZ80] at h
  cases hd : s.dead .z80 with
  | some x =>
    rw [hd] at h
    exact congrArg some h
  | none =>
    rw [hd] at h
    dsimp only at h
    split at h
    · simp only [boundaryZ80] at h
      split_ifs at h <;> first | cases h | exact absurd h (settleZ80_ne_fault _ _ _)
    · split_ifs at h
      exact absurd h (settleZ80_ne_fault _ _ _)

/-! ### Z80: what a turn leaves alone -/

/-- The flip-flops are alike in the registers and in those a waiting Z80 began with. -/
def IffAlike (s : State) : Prop := s.z80.iffOk ∧ ∀ w, s.waitZ80 = some w → w.snap.iffOk

/-- What a turn of Z80 in `s` leaves alone in the next state `t`. -/
structure TurnedZ80 (s t : State) : Prop where
  m68k : t.m68k = s.m68k
  wait68k : t.wait68k = s.wait68k
  launch : t.launch = s.launch
  schedule : t.schedule = s.schedule
  turns : t.turns = s.turns
  fairDue : t.fairDue = s.fairDue
  bus : t.bus = { s.bus with
    mbZ80 := t.bus.mbZ80, busAck := t.bus.busAck, z80ResetPulse := t.bus.z80ResetPulse, draws := t.bus.draws }
  draws : s.launch.oracleIsOwners → t.bus.draws = s.bus.draws
  mem : MemChange (fun _ => True) s.mem t.mem
  refused : ∃ l, t.refusedMarks = l ++ s.refusedMarks ∧ ∀ m ∈ l, m.1 = .z80
  faulted : ∃ l, t.faultedMarks = l ++ s.faultedMarks ∧ ∀ m ∈ l, m.1 = .z80 ∧ m.2 ≠ .fault .protocolSecondAccess
  iff : IffAlike s → IffAlike t
  pending : (s.bus.mbZ80.op ≠ .none → s.waitZ80 ≠ none) → t.bus.mbZ80.op ≠ .none → t.waitZ80 ≠ none
  act : (∀ w i, s.waitZ80 = some w → w.act = .exec i → i.is68k = false) →
    ∀ w i, t.waitZ80 = some w → w.act = .exec i → i.is68k = false

section TurnedZ80

variable {s t : State}

/-- The registers an activity begins with have their flip-flops alike. -/
theorem IffAlike.start (h : IffAlike s) : s.startZ80.st.z80.iffOk := by
  rw [State.startZ80]
  cases hw : s.waitZ80 with
  | none => exact h.1
  | some w => exact h.2 w hw

theorem TurnedZ80.of_acts (h : ActsZ80 s t) (hop : s.bus.mbZ80.op = .none) : TurnedZ80 s t where
  m68k := h.m68k
  wait68k := h.wait68k
  launch := h.launch
  schedule := h.schedule
  turns := h.turns
  fairDue := h.fairDue
  bus := by rw [h.bus]
  draws := h.draws
  mem := h.mem
  refused := ⟨[], h.refused, fun _ hm => by cases hm⟩
  faulted := ⟨[], h.faulted, fun _ hm => by cases hm⟩
  iff hs := by
    refine ⟨h.iff hs.start, fun w hw => ?_⟩
    rcases h.wait with ⟨e, -⟩ | ⟨v, e, -, hv⟩
    · rw [e] at hw
      cases hw
    · rw [e] at hw
      cases hw
      exact hv ▸ hs.start
  pending _ hp := by
    rcases h.wait with ⟨-, e⟩ | ⟨w, e, -⟩
    · exact absurd hop (e ▸ hp)
    · simp [e]
  act _ w i hw ha := by
    rcases h.wait with ⟨e, -⟩ | ⟨v, e, hv, -⟩
    · rw [e] at hw
      cases hw
    · rw [e] at hw
      cases hw
      exact hv i ha

/-- A failure of Z80 sets its mark and its run state. -/
theorem turnedZ80_settle {x : Host.Outcome State Fault Refusal} (hy : YieldsZ80 s x) (hop : s.bus.mbZ80.op = .none)
    (h : settleZ80 s x = .next t) : TurnedZ80 s t := by
  cases x with
  | next u =>
    cases h
    exact .of_acts hy hop
  | fault f =>
    cases h
    have hf : f ≠ .protocolSecondAccess := hy hop
    exact ⟨rfl, rfl, rfl, rfl, rfl, rfl, rfl, fun _ => rfl, .refl, ⟨[], rfl, fun _ hm => by cases hm⟩,
      ⟨[_], rfl, fun m hm => by rw [List.mem_singleton.1 hm]; exact ⟨rfl, by simpa using hf⟩⟩, fun h => h, fun h => h, fun h => h⟩
  | refused r =>
    cases h
    exact ⟨rfl, rfl, rfl, rfl, rfl, rfl, rfl, fun _ => rfl, .refl, ⟨[_], rfl, fun m hm => by rw [List.mem_singleton.1 hm]⟩,
      ⟨[], rfl, fun _ hm => by cases hm⟩, fun h => h, fun h => h, fun h => h⟩

/-- A resumed activity is one of the state that waits. -/
theorem YieldsZ80.answered {w : WaitZ80} {x : Host.Outcome State Fault Refusal} (hw : s.waitZ80 = some w)
    (h : YieldsZ80 (s.answeredZ80 w) x) : YieldsZ80 s x := by
  have start : s.startZ80.st.z80 = (s.answeredZ80 w).startZ80.st.z80 := by rw [State.startZ80, hw]; rfl
  cases x with
  | next t =>
    have h : ActsZ80 _ t := h
    exact ⟨h.m68k, h.wait68k, h.launch, h.refused, h.faulted, h.schedule, h.turns, h.fairDue, h.events, h.bus, h.level, h.draws, h.mem,
      start ▸ h.iff, start ▸ h.wait⟩
  | fault f => exact h
  | refused r => trivial

theorem turnedZ80_of_step (hp : s.bus.mbZ80.op ≠ .none → s.waitZ80 ≠ none)
    (ha : ∀ w i, s.waitZ80 = some w → w.act = .exec i → i.is68k = false) (h : StepZ80 s t) : TurnedZ80 s t := by
  have free (hw : s.readyZ80) : s.bus.mbZ80.op = .none := by
    by_contra hop
    exact hp hop hw
  cases h with
  | wait | grant | idle =>
    exact ⟨rfl, rfl, rfl, rfl, rfl, rfl, rfl, fun _ => rfl, .refl, ⟨[], rfl, fun _ hm => by cases hm⟩,
      ⟨[], rfl, fun _ hm => by cases hm⟩, fun h => h, fun h => h, fun h => h⟩
  | reset =>
    exact ⟨rfl, rfl, rfl, rfl, rfl, rfl, rfl, fun _ => rfl, .refl, ⟨[], rfl, fun _ hm => by cases hm⟩,
      ⟨[], rfl, fun _ hm => by cases hm⟩, fun h => ⟨rfl, h.2⟩, fun h => h, fun h => h⟩
  | interrupt hw h =>
    have base := turnedZ80_settle (yieldsZ80_enterInterruptZ80 (onBus s).clearIntZ80) (free hw) h
    exact ⟨base.m68k, base.wait68k, base.launch, base.schedule, base.turns, base.fairDue, by rw [base.bus]; rfl, base.draws,
      base.mem, base.refused, base.faulted, base.iff, base.pending, base.act⟩
  | fetch hw h =>
    have base := turnedZ80_settle (yieldsZ80_fetchExecZ80 (beforeFetch s)) (free hw) h
    exact ⟨base.m68k, base.wait68k, base.launch, base.schedule, base.turns, base.fairDue, by rw [base.bus]; rfl, base.draws,
      base.mem, base.refused, base.faulted, base.iff, base.pending, base.act⟩
  | resume w hw hop h =>
    refine turnedZ80_settle (.answered hw ?_) hop h
    cases hact : w.act with
    | fetch => exact yieldsZ80_fetchExecZ80 _
    | exec i => exact yieldsZ80_exec _ (ha w i hw hact)
    | irq => exact yieldsZ80_enterInterruptZ80 _

/-- A turn of Z80, from a state with the invariant. -/
theorem turnedZ80 (hi : s.Inv) (h : turnZ80 s = .next t) : TurnedZ80 s t :=
  turnedZ80_of_step hi.pendingZ80 hi.actZ80 (stepZ80_of_turn h)

end TurnedZ80

end Sys2Proof.Laws
end

section
/-! The turns of OWNER; and so what every step keeps: the invariant of the block, the absence of a second transaction, and the
separation of the processors. -/

namespace Sys2Proof.Laws

open Sys2Proof.Machine

/-! ### OWNER's accesses -/

/-- OWNER's access changes memory, events and the bus, but no mailbox. -/
def Serves (s t : State) : Prop :=
  ∃ mem l b, MemChange (fun _ => True) s.mem mem ∧ b.mb68k = s.bus.mb68k ∧ b.mbZ80 = s.bus.mbZ80 ∧
    t = { s with mem := mem, events := l ++ s.events, bus := b }

/-- The halves of the access, made from the state `s`, are OWNER's. -/
structure RowServes (s : State) (r : RowAccess) : Prop where
  read : Serves s r.read.2
  write : ∀ v t, Serves t (r.write v t)

section Serves

variable {s t u : State}

theorem Serves.trans (h : Serves s t) (h' : Serves t u) : Serves s u := by
  obtain ⟨m, l, b, hm, h1, h2, rfl⟩ := h
  obtain ⟨m', l', b', hm', h1', h2', rfl⟩ := h'
  exact ⟨m', l' ++ l, b', hm.trans hm', h1'.trans h1, h2'.trans h2, by simp⟩

theorem serves_of_touches (h : Touches (fun _ => True) s t) : Serves s t := by
  obtain ⟨m, l, n, hm, rfl⟩ := h
  exact ⟨m, l, { s.bus with draws := n }, hm, rfl, rfl, rfl⟩

theorem serves_setBus (t : State) (b : Bus) (h1 : b.mb68k = t.bus.mb68k) (h2 : b.mbZ80 = t.bus.mbZ80) :
    Serves t { t with bus := b } := ⟨_, [], b, .refl, h1, h2, rfl⟩

theorem plainAccess_serves (s : State) (a : Addr24) (sz : Size) (ps : List Place) : RowServes s (plainAccess s a sz ps) where
  read := serves_of_touches (touches_plainRead _ s ps)
  write v _ := serves_of_touches (touches_plainWrite a sz v fun _ _ _ _ => trivial)

theorem portAccess_serves (s : State) (port : Word) : RowServes s (portAccess s port) where
  read := serves_of_touches (touches_drawByte _ s)
  write _ t := serves_of_touches (touches_record _ t _)

theorem busReqAccess_serves (s : State) (a : Addr24) (sz : Size) (ps : List Place) (first : Bool) :
    RowServes s (busReqAccess s a sz ps first) := by
  cases first with
  | false => exact plainAccess_serves s a sz ps
  | true => exact ⟨serves_of_touches (touches_plainRead _ s ps),
      fun v t => serves_setBus t { t.bus with busReq := v.getLsbD (controlBit sz) } rfl rfl⟩

theorem z80ResetAccess_serves (s : State) (a : Addr24) (sz : Size) (ps : List Place) (first : Bool) :
    RowServes s (z80ResetAccess s a sz ps first) := by
  cases first with
  | false => exact plainAccess_serves s a sz ps
  | true =>
    refine ⟨serves_of_touches (touches_plainRead _ s ps), fun v t => ⟨t.mem, [], _, .refl, ?_, ?_, rfl⟩⟩
    · dsimp only
      split <;> rfl
    · dsimp only
      split <;> rfl

theorem accessAtZ80_serves {a : Word} {p : PlaceZ80} {r : RowAccess} (h : accessAtZ80 s a p = .ok r) : RowServes s r := by
  cases p with
  | zram off => cases h; exact ⟨serves_of_touches (touches_refl _ s), fun v t => serves_of_touches (touches_write _ trivial)⟩
  | device => cases h; exact ⟨serves_of_touches (touches_drawByte _ s), fun _ t => serves_of_touches (touches_record _ t _)⟩
  | bank =>
    cases h
    exact ⟨serves_of_touches (touches_drawByte _ s), fun v t => serves_setBus t { t.bus with bank := shiftBank t.bus.bank v } rfl rfl⟩
  | window =>
    rw [accessAtZ80, windowAccess] at h
    split at h
    all_goals cases h
    exact plainAccess_serves s _ .b _

theorem transact_serves {w : Nat} (m : Mailbox w) {r : RowAccess} (h : RowServes s r) : Serves s (transact m s r).2 := by
  rw [transact]
  split
  · exact h.write _ _
  · exact h.write _ _
  · split
    · exact h.read.trans (h.write _ _)
    · exact h.read

theorem ownerAccess68k_serves {m : Mailbox 24} {x : Long × State} (h : ownerAccess68k s m = .ok x) : Serves s x.2 := by
  rw [ownerAccess68k] at h
  split at h
  · cases h
  split at h
  · cases h
  split at h
  · cases h; exact transact_serves m (busReqAccess_serves s _ _ _ _)
  · cases h; exact transact_serves m (z80ResetAccess_serves s _ _ _ _)
  · cases h; exact transact_serves m (plainAccess_serves s _ _ _)

theorem ownerAccess68k_error {m : Mailbox 24} {f : Fault} (h : ownerAccess68k s m = .error f) : f ≠ .protocolSecondAccess := by
  rw [ownerAccess68k] at h
  split at h
  · cases h; decide
  split at h
  · rename_i hz
    cases h
    exact zramFault_ne_protocol hz
  split at h <;> cases h

theorem ownerAccessZ80_serves {m : Mailbox 16} {x : Long × State} (h : ownerAccessZ80 s m = .ok x) : Serves s x.2 := by
  rw [ownerAccessZ80] at h
  split at h
  · cases h; exact transact_serves m (portAccess_serves s _)
  · cases h; exact transact_serves m (portAccess_serves s _)
  · cases hp : placeZ80 s.launch m.addr with
    | none => rw [hp] at h; cases h
    | some p =>
      rw [hp] at h
      dsimp only at h
      cases hr : accessAtZ80 s m.addr p with
      | error f => rw [hr] at h; cases h
      | ok r => rw [hr] at h; cases h; exact transact_serves m (accessAtZ80_serves hr)

theorem ownerAccessZ80_error {m : Mailbox 16} {f : Fault} (h : ownerAccessZ80 s m = .error f) : f ≠ .protocolSecondAccess := by
  rw [ownerAccessZ80] at h
  split at h
  · cases h
  · cases h
  · cases hp : placeZ80 s.launch m.addr with
    | none => rw [hp] at h; cases h; decide
    | some p =>
      rw [hp] at h
      dsimp only at h
      cases hr : accessAtZ80 s m.addr p with
      | error g => rw [hr] at h; cases h; exact accessAtZ80_error hr
      | ok r => rw [hr] at h; cases h

end Serves

/-! ### OWNER's turns -/

/-- What a turn of OWNER in `s` leaves alone in the next state `t`. -/
structure TurnedOwner (s t : State) : Prop where
  m68k : t.m68k = s.m68k
  z80 : t.z80 = { s.z80 with run := t.z80.run }
  wait68k : t.wait68k = s.wait68k
  waitZ80 : t.waitZ80 = s.waitZ80
  launch : t.launch = s.launch
  schedule : t.schedule = s.schedule
  turns : t.turns = s.turns
  fairDue : t.fairDue = s.fairDue
  mem : MemChange (fun _ => True) s.mem t.mem
  level : s.bus.mb68k.intLevel ≤ 7 → t.bus.mb68k.intLevel ≤ 7
  op68k : t.bus.mb68k.op ≠ .none → s.bus.mb68k.op ≠ .none
  opZ80 : t.bus.mbZ80.op ≠ .none → s.bus.mbZ80.op ≠ .none
  faulted : ∃ l, t.faultedMarks = l ++ s.faultedMarks ∧ ∀ m ∈ l, m.2 ≠ .fault .protocolSecondAccess

section TurnedOwner

variable {s t : State}

theorem turnedOwner_refl (s : State) : TurnedOwner s s :=
  ⟨rfl, rfl, rfl, rfl, rfl, rfl, rfl, rfl, .refl, id, id, id, [], rfl, fun _ hm => by cases hm⟩

theorem answer_op {w : Nat} (m : Mailbox w) (v : Long) : (m.answer v).op = .none := by
  rw [Mailbox.answer]
  split <;> rfl

theorem answer_intLevel {w : Nat} (m : Mailbox w) (v : Long) : (m.answer v).intLevel = m.intLevel := by
  rw [Mailbox.answer]
  split <;> rfl

theorem turnedOwner_service68k (h : service68k s = .next t) : TurnedOwner s t := by
  rw [service68k] at h
  split at h
  · cases h
    exact turnedOwner_refl s
  · cases hx : ownerAccess68k s s.bus.mb68k with
    | error f =>
      rw [hx] at h
      cases h
      exact ⟨rfl, rfl, rfl, rfl, rfl, rfl, rfl, rfl, .refl, id, id, id, [_], rfl,
        fun m hm => by rw [List.mem_singleton.1 hm]; simpa using ownerAccess68k_error hx⟩
    | ok x =>
      obtain ⟨mem, l, b, hm, h1, h2, hs⟩ := ownerAccess68k_serves hx
      obtain ⟨v, u⟩ := x
      rw [hx] at h
      cases h
      cases hs
      exact ⟨rfl, rfl, rfl, rfl, rfl, rfl, rfl, rfl, hm, fun hl => (answer_intLevel b.mb68k v).trans_le (h1 ▸ hl),
        fun hn => absurd (answer_op b.mb68k v) hn, fun hn => by rw [← h2]; exact hn, [], rfl, fun _ hm => by cases hm⟩

theorem turnedOwner_serviceZ80 (h : serviceZ80 s = .next t) : TurnedOwner s t := by
  rw [serviceZ80] at h
  split at h
  · cases h
    exact turnedOwner_refl s
  · cases hx : ownerAccessZ80 s s.bus.mbZ80 with
    | error f =>
      rw [hx] at h
      cases h
      exact ⟨rfl, rfl, rfl, rfl, rfl, rfl, rfl, rfl, .refl, id, id, id, [_], rfl,
        fun m hm => by rw [List.mem_singleton.1 hm]; simpa using ownerAccessZ80_error hx⟩
    | ok x =>
      obtain ⟨mem, l, b, hm, h1, h2, hs⟩ := ownerAccessZ80_serves hx
      obtain ⟨v, u⟩ := x
      rw [hx] at h
      cases h
      cases hs
      exact ⟨rfl, rfl, rfl, rfl, rfl, rfl, rfl, rfl, hm, fun hl => by simpa [State.mapBus, h1] using hl,
        fun hn => by rw [← h1]; exact hn, fun hn => absurd (answer_op b.mbZ80 v) hn, [], rfl, fun _ hm => by cases hm⟩

theorem turnedOwner_postInt68k {level : Nat} (h : postInt68k level s = .next t) : TurnedOwner s t := by
  rw [postInt68k] at h
  split at h
  · cases h
    exact ⟨rfl, rfl, rfl, rfl, rfl, rfl, rfl, rfl, .refl, id, id, id, [_], rfl,
      fun m hm => by rw [List.mem_singleton.1 hm]; simp⟩
  · rename_i hl
    cases h
    exact ⟨rfl, rfl, rfl, rfl, rfl, rfl, rfl, rfl, .refl, fun _ => Nat.not_lt.1 hl, id, id, [], rfl, fun _ hm => by cases hm⟩

theorem turnedOwner_postIntZ80 {level : Nat} (h : postIntZ80 level s = .next t) : TurnedOwner s t := by
  cases h
  exact ⟨rfl, rfl, rfl, rfl, rfl, rfl, rfl, rfl, .refl, id, id, id, [], rfl, fun _ hm => by cases hm⟩

theorem next_of_ownerTurn {f : State → Host.Outcome State Fault Refusal} (h : ownerTurn f s = .next t) : f s = .next t := by
  rw [ownerTurn] at h
  cases hd : s.dead .owner with
  | some x =>
    rw [hd] at h
    exact absurd h (dead_ne_next hd t)
  | none =>
    rw [hd] at h
    exact h

theorem turnedOwner {n : Turn} (h1 : n ≠ .m68k) (h2 : n ≠ .z80) (h : takeTurn n s = .next t) : TurnedOwner s t := by
  cases n with
  | m68k => exact absurd rfl h1
  | z80 => exact absurd rfl h2
  | service68k => exact turnedOwner_service68k (next_of_ownerTurn h)
  | serviceZ80 => exact turnedOwner_serviceZ80 (next_of_ownerTurn h)
  | postInt68k level => exact turnedOwner_postInt68k (next_of_ownerTurn h)
  | postIntZ80 level => exact turnedOwner_postIntZ80 (next_of_ownerTurn h)

/-- OWNER's turn answers a fault only for a mark (log 14). -/
theorem dead_of_ownerTurn_fault {f : State → Host.Outcome State Fault Refusal} {g : Fault} (hf : f s ≠ .fault g)
    (h : ownerTurn f s = .fault g) : s.dead .owner = some (.fault g) := by
  rw [ownerTurn] at h
  cases hd : s.dead .owner with
  | some x =>
    rw [hd] at h
    exact congrArg some h
  | none =>
    rw [hd] at h
    exact absurd h hf

theorem service68k_ne_fault (s : State) (f : Fault) : service68k s ≠ .fault f := by
  rw [service68k]
  split
  · simp
  split
  · exact settle68k_ne_fault s _ f
  · simp

theorem serviceZ80_ne_fault (s : State) (f : Fault) : serviceZ80 s ≠ .fault f := by
  rw [serviceZ80]
  split
  · simp
  split
  · exact settleZ80_ne_fault s _ f
  · simp

theorem postInt68k_ne_fault (level : Nat) (s : State) (f : Fault) : postInt68k level s ≠ .fault f := by
  rw [postInt68k]
  split <;> simp

theorem dead_of_takeTurn_fault {n : Turn} {f : Fault} (h : takeTurn n s = .fault f) : ∃ ag, s.dead ag = some (.fault f) := by
  cases n with
  | m68k => exact ⟨_, dead_of_turn68k_fault h⟩
  | z80 => exact ⟨_, dead_of_turnZ80_fault h⟩
  | service68k => exact ⟨_, dead_of_ownerTurn_fault (service68k_ne_fault s f) h⟩
  | serviceZ80 => exact ⟨_, dead_of_ownerTurn_fault (serviceZ80_ne_fault s f) h⟩
  | postInt68k level => exact ⟨_, dead_of_ownerTurn_fault (postInt68k_ne_fault level s f) h⟩
  | postIntZ80 level => exact ⟨_, dead_of_ownerTurn_fault (f := postIntZ80 level) (by simp [postIntZ80]) h⟩

end TurnedOwner

/-! ### The invariant -/

section Invariant

variable {s t : State}

theorem Turned68k.inv (h : Turned68k s t) (hi : s.Inv) : t.Inv where
  memory := h.mem.wf hi.memory
  iff := h.z80 ▸ hi.iff
  iffSnap := h.waitZ80 ▸ hi.iffSnap
  level := by
    rcases h.level with e | e
    · exact e ▸ hi.level
    · omega
  pending68k := h.pending hi.pending68k
  pendingZ80 := by
    rw [h.waitZ80, h.bus]
    exact hi.pendingZ80
  act68k := h.act hi.act68k
  actZ80 := h.waitZ80 ▸ hi.actZ80

theorem TurnedZ80.inv (h : TurnedZ80 s t) (hi : s.Inv) : t.Inv where
  memory := h.mem.wf hi.memory
  iff := (h.iff ⟨hi.iff, hi.iffSnap⟩).1
  iffSnap := (h.iff ⟨hi.iff, hi.iffSnap⟩).2
  level := by
    rw [h.bus]
    exact hi.level
  pending68k := by
    rw [h.wait68k, h.bus]
    exact hi.pending68k
  pendingZ80 := h.pending hi.pendingZ80
  act68k := h.wait68k ▸ hi.act68k
  actZ80 := h.act hi.actZ80

theorem TurnedOwner.inv (h : TurnedOwner s t) (hi : s.Inv) : t.Inv where
  memory := h.mem.wf hi.memory
  iff := by
    rw [h.z80]
    exact hi.iff
  iffSnap := h.waitZ80 ▸ hi.iffSnap
  level := h.level hi.level
  pending68k hn := h.wait68k ▸ hi.pending68k (h.op68k hn)
  pendingZ80 hn := h.waitZ80 ▸ hi.pendingZ80 (h.opZ80 hn)
  act68k := h.wait68k ▸ hi.act68k
  actZ80 := h.waitZ80 ▸ hi.actZ80

/-- Each turn keeps the invariant, and sets no mark for a second transaction. -/
theorem takeTurn_keeps {n : Turn} (hi : s.Inv) (h : takeTurn n s = .next t) :
    t.Inv ∧ ∃ l, t.faultedMarks = l ++ s.faultedMarks ∧ ∀ m ∈ l, m.2 ≠ .fault .protocolSecondAccess := by
  by_cases h1 : n = .m68k
  · subst h1
    have ht := turned68k hi h
    obtain ⟨l, e, hl⟩ := ht.faulted
    exact ⟨ht.inv hi, l, e, fun m hm => (hl m hm).2⟩
  by_cases h2 : n = .z80
  · subst h2
    have ht := turnedZ80 hi h
    obtain ⟨l, e, hl⟩ := ht.faulted
    exact ⟨ht.inv hi, l, e, fun m hm => (hl m hm).2⟩
  · have ht := turnedOwner h1 h2 h
    exact ⟨ht.inv hi, ht.faulted⟩

end Invariant

/-- Settles O40, a turn at a time: what each turn leaves alone, and what its processor then waits in. -/
theorem stepKeepsInvariant : Obligations.StepKeepsInvariant := by
  unfold Obligations.StepKeepsInvariant
  intro s t hi h
  obtain ⟨sch, n, due, hu⟩ := nextTurn_state s
  rw [step, hu] at h
  exact (takeTurn_keeps (s := { s with schedule := sch, turns := n, fairDue := due }) { hi with } h).1

/-- Settles O41: a processor acts only while its mailbox is free, so that no access of it finds a transaction pending. -/
theorem noSecondTransaction : Obligations.NoSecondTransaction := by
  unfold Obligations.NoSecondTransaction
  intro s hi
  obtain ⟨sch, n, due, hu⟩ := nextTurn_state s
  constructor
  · intro t ag h hm
    rw [step, hu] at h
    obtain ⟨-, l, e, hl⟩ := takeTurn_keeps (s := { s with schedule := sch, turns := n, fairDue := due }) { hi with } h
    rw [e] at hm
    rcases List.mem_append.1 hm with hm | hm
    · exact absurd rfl (hl _ hm)
    · exact hm
  · intro h
    rw [step, hu] at h
    obtain ⟨ag, hd⟩ := dead_of_takeTurn_fault h
    exact ⟨ag, fault_of_dead hd⟩

/-! ### The processors are separate -/

/-- Settles O47, from what an instruction and each turn leave alone. -/
theorem processorsAreSeparate : Obligations.ProcessorsAreSeparate := by
  unfold Obligations.ProcessorsAreSeparate
  refine ⟨fun i s t h => ?_, fun s t hi h => ?_, fun s t hi h => ?_, fun n s t h1 h2 h => ?_⟩
  · cases hk : i.is68k with
    | true =>
      have hy := yields_exec s hk
      rw [h] at hy
      have hy : Acts68k s t := hy
      refine ⟨hy.launch, hy.refused, hy.schedule, hy.turns, hy.fairDue, hy.events, ?_, ?_, ?_, ?_, ?_, hy.level, ?_,
        fun _ => ⟨hy.z80, hy.waitZ80, ?_, hy.faulted⟩, fun hf => by cases hf⟩
      all_goals rw [hy.bus]
    | false =>
      have hy := yieldsZ80_exec s hk
      rw [h] at hy
      have hy : ActsZ80 s t := hy
      refine ⟨hy.launch, hy.refused, hy.schedule, hy.turns, hy.fairDue, hy.events, ?_, ?_, ?_, ?_, ?_, ?_, hy.level,
        (fun hf => by cases hf), fun _ => ⟨hy.m68k, hy.wait68k, ?_, hy.draws, hy.faulted⟩⟩
      all_goals rw [hy.bus]
  · have ht := turned68k hi h
    obtain ⟨l, hl, hlm⟩ := ht.refused
    obtain ⟨l', hl', hlm'⟩ := ht.faulted
    refine ⟨ht.z80, ht.waitZ80, ?_, ?_, ?_, ?_, ?_, ?_, ht.launch, ht.schedule, ht.turns, ht.fairDue, fun ag hag =>
      dead_eq_of_marks hl hlm hl' (fun m hm => (hlm' m hm).1) hag⟩
    all_goals rw [ht.bus]
  · have ht := turnedZ80 hi h
    obtain ⟨l, hl, hlm⟩ := ht.refused
    obtain ⟨l', hl', hlm'⟩ := ht.faulted
    refine ⟨ht.m68k, ht.wait68k, ?_, ?_, ?_, ?_, ht.draws, ht.launch, ht.schedule, ht.turns, ht.fairDue, fun ag hag =>
      dead_eq_of_marks hl hlm hl' (fun m hm => (hlm' m hm).1) hag⟩
    all_goals rw [ht.bus]
  · have ht := turnedOwner h1 h2 h
    exact ⟨ht.m68k, ht.z80, ht.wait68k, ht.waitZ80, ht.launch, ht.schedule, ht.turns, ht.fairDue⟩

end Sys2Proof.Laws
end

section
/-! Schedules are weakly fair: no turn changes the schedule, so the turn that fairness owes comes round. -/

namespace Sys2Proof.Laws

open Sys2Proof.Machine

/-! ### No turn changes the schedule -/

/-- What says whose turn it is, is the same. -/
structure SameSchedule (s t : State) : Prop where
  schedule : t.schedule = s.schedule
  turns : t.turns = s.turns
  fairDue : t.fairDue = s.fairDue

section SameSchedule

variable {s t : State}

theorem sameSchedule_of_yields68k {x : Host.Outcome State Fault Refusal} (h : Yields68k s x) (hx : x = .next t) : SameSchedule s t := by
  subst hx
  have h : Acts68k s t := h
  exact ⟨h.schedule, h.turns, h.fairDue⟩

theorem sameSchedule_of_yieldsZ80 {x : Host.Outcome State Fault Refusal} (h : YieldsZ80 s x) (hx : x = .next t) : SameSchedule s t := by
  subst hx
  have h : ActsZ80 s t := h
  exact ⟨h.schedule, h.turns, h.fairDue⟩

theorem exec_sameSchedule {i : Instr} (h : exec i s = .next t) : SameSchedule s t := by
  cases hk : i.is68k with
  | true => exact sameSchedule_of_yields68k (yields_exec s hk) h
  | false => exact sameSchedule_of_yieldsZ80 (yieldsZ80_exec s hk) h

theorem settle68k_sameSchedule {x : Host.Outcome State Fault Refusal} (hx : ∀ u, x = .next u → SameSchedule s u)
    (h : settle68k s x = .next t) : SameSchedule s t := by
  cases x with
  | next u => cases h; exact hx _ rfl
  | fault f => cases h; exact ⟨rfl, rfl, rfl⟩
  | refused r => cases h; exact ⟨rfl, rfl, rfl⟩

theorem settleZ80_sameSchedule {x : Host.Outcome State Fault Refusal} (hx : ∀ u, x = .next u → SameSchedule s u)
    (h : settleZ80 s x = .next t) : SameSchedule s t := by
  cases x with
  | next u => cases h; exact hx _ rfl
  | fault f => cases h; exact ⟨rfl, rfl, rfl⟩
  | refused r => cases h; exact ⟨rfl, rfl, rfl⟩

theorem turn68k_sameSchedule (h : turn68k s = .next t) : SameSchedule s t := by
  cases step68k_of_turn h with
  | idle | oddPc | trace => exact ⟨rfl, rfl, rfl⟩
  | interrupt level hw h =>
    have hx := settle68k_sameSchedule (fun u => sameSchedule_of_yields68k (yields_enterInterrupt68k level s.clearInt68k)) h
    exact ⟨hx.schedule, hx.turns, hx.fairDue⟩
  | fetch hw h => exact settle68k_sameSchedule (fun u => sameSchedule_of_yields68k (yields_fetchExec68k s)) h
  | resume w hw hop h =>
    refine settle68k_sameSchedule (fun u hu => ?_) h
    cases hact : w.act with
    | fetch => rw [hact] at hu; exact sameSchedule_of_yields68k (yields_fetchExec68k _).answered hu
    | irq level => rw [hact] at hu; exact sameSchedule_of_yields68k (yields_enterInterrupt68k level _).answered hu
    | exec i =>
      rw [hact] at hu
      have hx := exec_sameSchedule hu
      exact ⟨hx.schedule, hx.turns, hx.fairDue⟩

theorem turnZ80_sameSchedule (h : turnZ80 s = .next t) : SameSchedule s t := by
  cases stepZ80_of_turn h with
  | wait | reset | grant | idle => exact ⟨rfl, rfl, rfl⟩
  | interrupt hw h =>
    have hx := settleZ80_sameSchedule (fun u => sameSchedule_of_yieldsZ80 (yieldsZ80_enterInterruptZ80 (onBus s).clearIntZ80)) h
    exact ⟨hx.schedule, hx.turns, hx.fairDue⟩
  | fetch hw h =>
    have hx := settleZ80_sameSchedule (fun u => sameSchedule_of_yieldsZ80 (yieldsZ80_fetchExecZ80 (beforeFetch s))) h
    exact ⟨hx.schedule, hx.turns, hx.fairDue⟩
  | resume w hw hop h =>
    refine settleZ80_sameSchedule (fun u hu => ?_) h
    cases hact : w.act with
    | fetch => rw [hact] at hu; exact sameSchedule_of_yieldsZ80 ((yieldsZ80_fetchExecZ80 _).answered hw) hu
    | irq => rw [hact] at hu; exact sameSchedule_of_yieldsZ80 ((yieldsZ80_enterInterruptZ80 _).answered hw) hu
    | exec i =>
      rw [hact] at hu
      have hx := exec_sameSchedule hu
      exact ⟨hx.schedule, hx.turns, hx.fairDue⟩

theorem takeTurn_sameSchedule {n : Turn} (h : takeTurn n s = .next t) : SameSchedule s t := by
  by_cases h1 : n = .m68k
  · subst h1
    exact turn68k_sameSchedule h
  by_cases h2 : n = .z80
  · subst h2
    exact turnZ80_sameSchedule h
  · have ht := turnedOwner h1 h2 h
    exact ⟨ht.schedule, ht.turns, ht.fairDue⟩

/-- The schedule after a step is the one its choice of a turn left. -/
theorem step_sameSchedule (h : step s = .next t) : SameSchedule s.nextTurn.2 t := takeTurn_sameSchedule h

end SameSchedule

/-! ### What a run reaches -/

/-- The run from the state reaches a state of `P` within some number of steps, unless it stops before. -/
def Reaches (P : State → Prop) (s : State) : Prop := ∃ n, ∀ u, s.after n = some u → ∃ m ≤ n, ∃ v, s.after m = some v ∧ P v

section Reaches

variable {P Q : State → Prop} {s t v : State}

theorem after_add {m : Nat} (n : Nat) (h : s.after m = some v) : s.after (m + n) = v.after n := by
  induction m generalizing s with
  | zero =>
    cases h
    rw [Nat.zero_add]
  | succ m ih =>
    rw [Nat.succ_add]
    by_cases hs : ∃ t, step s = .next t
    · obtain ⟨t, hs⟩ := hs
      rw [after_step _ hs] at h ⊢
      exact ih h
    · rw [after_stopped m (not_exists.1 hs)] at h
      cases h

/-- A run that goes on has gone on. -/
theorem exists_after_of_le {m n : Nat} {u : State} (hmn : m ≤ n) (h : s.after n = some u) : ∃ v, s.after m = some v := by
  induction m generalizing s n with
  | zero => exact ⟨s, rfl⟩
  | succ m ih =>
    obtain ⟨k, rfl⟩ := Nat.exists_eq_add_of_lt (Nat.lt_of_lt_of_le (Nat.zero_lt_succ m) hmn)
    rw [Nat.zero_add] at h hmn
    by_cases hs : ∃ t, step s = .next t
    · obtain ⟨t, hs⟩ := hs
      rw [after_step _ hs] at h ⊢
      exact ih (Nat.le_of_succ_le_succ hmn) h
    · rw [after_stopped k (not_exists.1 hs)] at h
      cases h

theorem reaches_now (h : P s) : Reaches P s := ⟨0, fun _ _ => ⟨0, Nat.le_refl 0, s, rfl, h⟩⟩

theorem Reaches.bind (h : Reaches P s) (hq : ∀ v, P v → Reaches Q v) : Reaches Q s := by
  obtain ⟨n, hn⟩ := h
  cases hu : s.after n with
  | none => exact ⟨n, fun u h => by rw [hu] at h; cases h⟩
  | some u =>
    obtain ⟨m, hm, v, hv, hpv⟩ := hn u hu
    obtain ⟨k, hk⟩ := hq v hpv
    refine ⟨m + k, fun w hw => ?_⟩
    rw [after_add k hv] at hw
    obtain ⟨j, hj, x, hx, hqx⟩ := hk w hw
    exact ⟨m + j, by omega, x, by rw [after_add j hv, hx], hqx⟩

theorem reaches_step (h : ∀ t, step s = .next t → Reaches P t) : Reaches P s := by
  by_cases hs : ∃ t, step s = .next t
  · obtain ⟨t, hs⟩ := hs
    obtain ⟨n, hn⟩ := h t hs
    refine ⟨n + 1, fun u hu => ?_⟩
    rw [after_step n hs] at hu
    obtain ⟨m, hm, v, hv, hpv⟩ := hn u hu
    exact ⟨m + 1, Nat.succ_le_succ hm, v, by rw [after_step m hs, hv], hpv⟩
  · exact ⟨1, fun u hu => by rw [after_stopped 0 (not_exists.1 hs)] at hu; cases hu⟩

/-- What a run reaches, it reaches before some step. -/
theorem Reaches.before (h : Reaches P s) : ∃ n, ∀ u, s.after n = some u → ∃ m < n, ∃ v, s.after m = some v ∧ P v := by
  obtain ⟨n, hn⟩ := h
  refine ⟨n + 1, fun u hu => ?_⟩
  obtain ⟨w, hw⟩ := exists_after_of_le (Nat.le_succ n) hu
  obtain ⟨m, hm, v, hv, hpv⟩ := hn w hw
  exact ⟨m, Nat.lt_succ_of_le hm, v, hv, hpv⟩

end Reaches

/-! ### The turn that fairness owes -/

/-- The next turn is the one that fairness owes. -/
def Owed (s : State) : Prop := s.schedule = [] ∧ (s.fairDue = true ∨ Config.turnsBefore s.turns = [])

section Owed

variable {P : State → Prop} {s : State}

/-- The run comes to the end of its schedule. -/
theorem reaches_end (s : State) : Reaches (fun v => v.schedule = [] ∧ v.turns = s.turns ∧ v.fairDue = s.fairDue) s := by
  generalize hl : s.schedule = l
  induction l generalizing s with
  | nil => exact reaches_now ⟨hl, rfl, rfl⟩
  | cons n r ih =>
    refine reaches_step fun t ht => ?_
    obtain ⟨hs, hn, hd⟩ := step_sameSchedule ht
    rw [nextTurn_scheduled hl] at hs hn hd
    refine (ih t hs).bind fun v ⟨h1, h2, h3⟩ => reaches_now ⟨h1, h2.trans hn, h3.trans hd⟩

/-- The run comes to a turn that fairness owes. -/
theorem reaches_owed (s : State) : Reaches (fun v => Owed v ∧ v.turns = s.turns) s := by
  refine (reaches_end s).bind fun v ⟨hv, hn, _⟩ => ?_
  cases hd : v.fairDue with
  | true => exact reaches_now ⟨⟨hv, .inl hd⟩, hn⟩
  | false =>
    cases hb : Config.turnsBefore v.turns with
    | nil => exact reaches_now ⟨⟨hv, .inr hb⟩, hn⟩
    | cons n r =>
      refine reaches_step fun t ht => ?_
      obtain ⟨-, hn', hd'⟩ := step_sameSchedule ht
      rw [nextTurn_block hv hd hb] at hn' hd'
      exact (reaches_end t).bind fun w ⟨h1, h2, h3⟩ => reaches_now ⟨⟨h1, .inl (h3.trans hd')⟩, h2.trans (hn'.trans hn)⟩

/-- At a turn that is owed, the turn is that of the round, which goes on. -/
theorem nextTurn_of_owed (h : Owed s) : s.nextTurn.1 = s.fairTurn ∧ s.nextTurn.2.turns = s.turns + 1 := by
  obtain ⟨hs, hd⟩ := h
  cases he : s.fairDue with
  | true =>
    rw [nextTurn_owed hs he]
    exact ⟨rfl, rfl⟩
  | false =>
    rw [nextTurn_no_block hs he (hd.resolve_left (by simp [he]))]
    exact ⟨rfl, rfl⟩

/-- The run comes to a turn that is owed, at any place in the round. -/
theorem reaches_round {k : Nat} (hk : k < 4) (s : State) : Reaches (fun v => Owed v ∧ v.turns % 4 = k) s := by
  generalize hj : (k + 4 - s.turns % 4) % 4 = j
  induction j generalizing s with
  | zero => exact (reaches_owed s).bind fun v ⟨ho, hn⟩ => reaches_now ⟨ho, by omega⟩
  | succ j ih =>
    refine (reaches_owed s).bind fun v ⟨ho, hn⟩ => reaches_step fun t ht => ih t ?_
    have hn' := (step_sameSchedule ht).turns.trans (nextTurn_of_owed ho).2
    omega

theorem dead_of_enabled {t : Turn} (h : s.enabled t) : s.dead (agentOf t) = none := by
  cases t with
  | m68k | z80 | service68k | serviceZ80 => exact h.1
  | postInt68k level | postIntZ80 level => exact h

/-- The run comes to where the turn is taken, or has no step to take. -/
theorem reaches_turn {t : Turn} (ht : t ∈ fairTurns) (s : State) : Reaches (fun v => v.nextTurn.1 = t ∨ ¬v.enabled t) s := by
  obtain ⟨k, hk, hget⟩ := List.getElem_of_mem ht
  refine (reaches_round hk s).bind fun v ⟨ho, hn⟩ => reaches_now ?_
  by_cases he : v.enabled t
  · have round : fairTurns.drop (v.turns % 4) = t :: fairTurns.drop (k + 1) := by
      rw [hn, List.drop_eq_getElem_cons hk, hget]
    exact .inl ((nextTurn_of_owed ho).1.trans (fairTurn_of_alive round (dead_of_enabled he)))
  · exact .inr he

end Owed

/-! ### An issued transaction is served -/

section Served

variable {s t : State}

theorem dead_markFault (s : State) (ag : Agent) (f : Fault) : (s.markFault ag (.fault f)).dead ag ≠ none := by
  rw [State.dead, State.markFault]
  split
  · simp
  · simp

/-- OWNER's service of M68K empties its mailbox, or M68K has failed. -/
theorem service68k_serves (h : takeTurn .service68k s = .next t) :
    t.bus.mb68k.op = .none ∨ t.dead .m68k ≠ none := by
  have h : service68k s = .next t := next_of_ownerTurn h
  rw [service68k] at h
  split at h
  · rename_i hc
    cases h
    exact hc.imp id fun hd => Option.isSome_iff_ne_none.1 hd
  · split at h
    · cases h
      exact .inr (dead_markFault s .m68k _)
    · cases h
      exact .inl (answer_op _ _)

/-- OWNER's service of Z80 empties its mailbox, or Z80 has failed. -/
theorem serviceZ80_serves (h : takeTurn .serviceZ80 s = .next t) : t.bus.mbZ80.op = .none ∨ t.dead .z80 ≠ none := by
  have h : serviceZ80 s = .next t := next_of_ownerTurn h
  rw [serviceZ80] at h
  split at h
  · rename_i hc
    cases h
    exact hc.imp id fun hd => Option.isSome_iff_ne_none.1 hd
  · split at h
    · cases h
      exact .inr (dead_markFault s.failZ80 .z80 _)
    · cases h
      exact .inl (answer_op _ _)

theorem reaches_served68k (s : State) :
    Reaches (fun v => v.bus.mb68k.op = .none ∨ v.dead .m68k ≠ none ∨ v.dead .owner ≠ none) s := by
  refine (reaches_turn (t := .service68k) (by decide) s).bind fun v hv => ?_
  rcases hv with hn | he
  · refine reaches_step fun t ht => reaches_now ?_
    rw [step, hn] at ht
    exact (service68k_serves ht).imp id .inl
  · refine reaches_now ?_
    by_contra hc
    push Not at hc
    exact he ⟨hc.2.2, hc.2.1, hc.1⟩

theorem reaches_servedZ80 (s : State) :
    Reaches (fun v => v.bus.mbZ80.op = .none ∨ v.dead .z80 ≠ none ∨ v.dead .owner ≠ none) s := by
  refine (reaches_turn (t := .serviceZ80) (by decide) s).bind fun v hv => ?_
  rcases hv with hn | he
  · refine reaches_step fun t ht => reaches_now ?_
    rw [step, hn] at ht
    exact (serviceZ80_serves ht).imp id .inl
  · refine reaches_now ?_
    by_contra hc
    push Not at hc
    exact he ⟨hc.2.2, hc.2.1, hc.1⟩

end Served

/-- Settles O57: the schedule runs out, then the turns owed come round. -/
theorem schedulesAreFair : Obligations.SchedulesAreFair := by
  unfold Obligations.SchedulesAreFair
  refine ⟨fun s t r h => ?_, fun s t ht => (reaches_turn ht s).before, fun s _ => reaches_served68k s, fun s _ => reaches_servedZ80 s⟩
  rw [step, nextTurn_scheduled h]

end Sys2Proof.Laws
end

section
/-! Exception entry on a stack in WRAM: the frame it leaves, and the return from it. -/

namespace Sys2Proof.Laws

open Sys2Proof.Machine

/-! ### Bytes of memory, written one after the other -/

/-- Memory with bytes written at keys. -/
def writeKeys (m : Memory) : List Nat → List Byte → Memory
  | k :: ks, b :: bs => writeKeys (m.write k b) ks bs
  | _, _ => m

theorem writeKeys_wf {m : Memory} (h : m.wf) (ks : List Nat) (bs : List Byte) : (writeKeys m ks bs).wf := by
  induction ks generalizing m bs with
  | nil => exact h
  | cons k ks ih =>
    cases bs with
    | nil => exact h
    | cons b bs => exact ih (wf_write _ _ h) bs

theorem read_writeKeys_other {m : Memory} (h : m.wf) {ks : List Nat} (bs : List Byte) {j : Nat} (hj : j ∉ ks) :
    (writeKeys m ks bs).read j = m.read j := by
  induction ks generalizing m bs with
  | nil => rfl
  | cons k ks ih =>
    cases bs with
    | nil => rfl
    | cons b bs =>
      rw [List.mem_cons, not_or] at hj
      exact (ih (wf_write _ _ h) bs hj.2).trans (read_write_other _ _ _ _ h.1 hj.1)

theorem map_read_writeKeys {m : Memory} (h : m.wf) {ks : List Nat} {bs : List Byte} (hk : ks.Nodup) (hl : ks.length = bs.length) :
    ks.map (writeKeys m ks bs).read = bs := by
  induction ks generalizing m bs with
  | nil => exact (List.length_eq_zero_iff.1 hl.symm).symm
  | cons k ks ih =>
    cases bs with
    | nil => cases hl
    | cons b bs =>
      obtain ⟨hn, hk⟩ := List.nodup_cons.1 hk
      have hw := wf_write k b h
      rw [List.map_cons, writeKeys, read_writeKeys_other hw bs hn, read_write_same _ _ _ h.1, ih hw hk (Nat.succ.inj hl)]

/-! ### Stores and loads in WRAM -/

/-- The places of WRAM at the offsets. -/
def wramPlaces (offs : List Nat) : List Place := offs.map .wram

section Wram

variable {s t : State} {sz : Size} {a : Long} {offs : List Nat}

theorem writePlaces_wram (s : State) (offs : List Nat) (bs : List Byte) :
    s.writePlaces (wramPlaces offs) bs = { s with mem := writeKeys s.mem (offs.map wramKey) bs } := by
  induction offs generalizing s bs with
  | nil => rfl
  | cons o offs ih =>
    cases bs with
    | nil => rfl
    | cons b bs => exact ih { s with mem := s.mem.write (wramKey o) b } bs

theorem readPlaces_wram (s : State) (offs : List Nat) : s.readPlaces (wramPlaces offs) = (offs.map (s.mem.read ∘ wramKey), s) := by
  induction offs with
  | nil => rfl
  | cons o offs ih =>
    have cons : s.readPlaces (wramPlaces (o :: offs)) =
        (s.mem.read (wramKey o) :: (s.readPlaces (wramPlaces offs)).1, (s.readPlaces (wramPlaces offs)).2) := rfl
    rw [cons, ih]
    rfl

theorem wramPlaces_writesNothing (offs : List Nat) : (wramPlaces offs).any Place.writesNothing = false := by
  simp [wramPlaces, Place.writesNothing]

theorem wramPlaces_isZram (offs : List Nat) : (wramPlaces offs).any Place.isZram = false := by
  simp [wramPlaces, Place.isZram]

/-- The places of an access are those of its bytes. -/
theorem mapM_of_placesHere {ps : List Place} (h : s.placesHere sz a = some ps) :
    (bytes68k (a.setWidth 24) sz).mapM (place68k s.launch) = some ps := by
  rw [State.placesHere] at h
  split at h
  · cases h
  split at h
  · rename_i qs hr
    split at h
    · cases h
      rw [route68k] at hr
      split at hr
      · cases hr
      · rename_i qs hq
        split at hr
        · cases hr
          exact (Option.filter_eq_some_iff.1 hq).1
        · cases hr
    · cases h
  · cases h

/-- Which places an access has here depends on the launch parameters and on the bus alone, not on the oracle's draws. -/
theorem placesHere_congr {n : Nat} (hl : t.launch = s.launch) (hb : t.bus = { s.bus with draws := n }) :
    t.placesHere sz a = s.placesHere sz a := by
  have fault : t.zramFault = s.zramFault := by
    funext ps sz
    rw [State.zramFault, State.zramFault, hb]
  rw [State.placesHere, State.placesHere, hl, fault]

theorem storeAt_wram {v : BitVec sz.bits} (h : s.storeAt sz a v = some t)
    (hp : (bytes68k (a.setWidth 24) sz).mapM (place68k s.launch) = some (wramPlaces offs)) :
    s.placesHere sz a = some (wramPlaces offs) ∧
      t = { s with mem := writeKeys s.mem (offs.map wramKey) (bigEndian sz (v.setWidth 32)) } := by
  rw [State.storeAt] at h
  cases hh : s.placesHere sz a with
  | none => rw [hh] at h; cases h
  | some ps =>
    cases Option.some.inj ((mapM_of_placesHere hh).symm.trans hp)
    rw [hh] at h
    dsimp only at h
    split at h
    · cases h
    · refine ⟨rfl, (Option.some.inj h).symm.trans ?_⟩
      rw [State.plainWrite, wramPlaces_writesNothing, writePlaces_wram]
      rfl

theorem loadAt_wram (h : s.placesHere sz a = some (wramPlaces offs)) :
    s.loadAt sz a = some ((ofBigEndian (offs.map (s.mem.read ∘ wramKey))).setWidth sz.bits, s) := by
  rw [State.loadAt, h, Option.map_some, State.plainRead, readPlaces_wram]

theorem long_of_bytes (v : Long) : v.extractLsb' 24 8 ++ v.extractLsb' 16 8 ++ v.extractLsb' 8 8 ++ v.extractLsb' 0 8 = v := by
  have h16 : v.extractLsb' 24 8 ++ v.extractLsb' 16 8 = v.extractLsb' 16 16 := BitVec.extractLsb'_append_extractLsb'_eq_extractLsb' rfl
  have h8 : v.extractLsb' 16 16 ++ v.extractLsb' 8 8 = v.extractLsb' 8 24 := BitVec.extractLsb'_append_extractLsb'_eq_extractLsb' rfl
  rw [h16, h8]
  exact (BitVec.extractLsb'_append_extractLsb'_eq_extractLsb' rfl).trans BitVec.extractLsb'_eq_self

/-- The bytes of a value give it back. -/
theorem ofBigEndian_bigEndian (v : BitVec sz.bits) : (ofBigEndian (bigEndian sz (v.setWidth 32))).setWidth sz.bits = v := by
  cases sz with
  | b =>
    refine BitVec.eq_of_toNat_eq ?_
    have hv := v.isLt
    simp only [bigEndian, ofBigEndian, BitVec.toNat_setWidth, BitVec.extractLsb'_toNat, Size.bits] at hv ⊢
    omega
  | w =>
    have join : (v : Word).extractLsb' 8 8 ++ (v : Word).extractLsb' 0 8 = v :=
      (BitVec.extractLsb'_append_extractLsb'_eq_extractLsb' rfl).trans BitVec.extractLsb'_eq_self
    rw [bigEndian_word, ofBigEndian, join]
    exact BitVec.setWidth_setWidth_of_le v (by decide)
  | l =>
    have join := long_of_bytes v
    have full : (v : Long).setWidth 32 = v := BitVec.setWidth_eq v
    rw [bigEndian, ofBigEndian, full, join]
    exact full

theorem bigEndian_length (sz : Size) (v : Long) : (bigEndian sz v).length = sz.bytes := by cases sz <;> rfl

end Wram

/-! ### Loads from ROM -/

section Rom

variable {s t : State}

theorem draws_le_readPlace (s : State) (p : Place) : s.bus.draws ≤ (s.readPlace p).2.bus.draws := by
  cases p with
  | rom off =>
    rw [State.readPlace]
    split
    · exact Nat.le_refl _
    · exact Nat.le_succ _
  | wram off => exact Nat.le_refl _
  | zram off => exact Nat.le_refl _
  | _ => exact Nat.le_succ _

theorem draws_le_readPlaces (s : State) (ps : List Place) : s.bus.draws ≤ (s.readPlaces ps).2.bus.draws := by
  induction ps generalizing s with
  | nil => exact Nat.le_refl _
  | cons p r ih => exact (draws_le_readPlace s p).trans (ih _)

/-- A byte of the image. -/
def InImage (l : Launch) (p : Place) : Prop := ∃ off, p = .rom off ∧ off < l.romLen

theorem readPlace_inImage {p : Place} (h : InImage s.launch p) : (s.readPlace p).2 = s := by
  obtain ⟨off, rfl, ho⟩ := h
  rw [State.readPlace, if_pos ho]

/-- A read of ROM that draws nothing is a read of the image. -/
theorem inImage_of_draws {ps : List Place} (hr : ∀ p ∈ ps, ∃ off, p = .rom off) (hd : (s.readPlaces ps).2.bus.draws = s.bus.draws) :
    ∀ p ∈ ps, InImage s.launch p := by
  induction ps with
  | nil => intro p hp; cases hp
  | cons p r ih =>
    have le : (s.readPlace p).2.bus.draws ≤ s.bus.draws :=
      (draws_le_readPlaces (s.readPlace p).2 r).trans (Nat.le_of_eq hd)
    obtain ⟨off, rfl⟩ := hr p List.mem_cons_self
    have head : InImage s.launch (.rom off) := by
      refine ⟨off, rfl, ?_⟩
      by_contra ho
      rw [State.readPlace, if_neg ho] at le
      exact absurd le (Nat.not_succ_le_self _)
    have stay := readPlace_inImage head
    intro q hq
    rcases List.mem_cons.1 hq with rfl | hq
    · exact head
    · refine ih (fun q hq => hr q (List.mem_cons_of_mem _ hq)) ?_ q hq
      have hd : ((s.readPlace (.rom off)).2.readPlaces r).2.bus.draws = s.bus.draws := hd
      rwa [stay] at hd

/-- Where the image is the same, a read of it is. -/
theorem readPlaces_inImage_congr {ps : List Place} (hl : t.launch = s.launch)
    (hm : ∀ off : Nat, off < s.launch.romLen → t.mem.read off = s.mem.read off) (hp : ∀ p ∈ ps, InImage s.launch p) :
    (t.readPlaces ps).1 = (s.readPlaces ps).1 := by
  induction ps with
  | nil => rfl
  | cons p r ih =>
    have hs := hp p List.mem_cons_self
    have ht : InImage t.launch p := hl ▸ hs
    have head : (t.readPlace p).1 = (s.readPlace p).1 := by
      obtain ⟨off, rfl, ho⟩ := hs
      rw [State.readPlace, State.readPlace, if_pos ho, if_pos (by rw [hl]; exact ho)]
      exact hm off ho
    have cons (u : State) : (u.readPlaces (p :: r)).1 = (u.readPlace p).1 :: ((u.readPlace p).2.readPlaces r).1 := rfl
    rw [cons, cons, readPlace_inImage hs, readPlace_inImage ht, head, ih fun q hq => hp q (List.mem_cons_of_mem _ hq)]

end Rom

end Sys2Proof.Laws
end

section
/-! Exception entry on a stack in WRAM: the state it leaves, and the return from it. -/

namespace Sys2Proof.Laws

open Sys2Proof.Machine

/-! ### The state after exception entry -/

/-- The registers after exception entry, with the handler's address `h` (60 R704). -/
def entered (m : M68k) (v : Nat) (h : Long) : M68k :=
  { (m.enterSuper.setSp (m.enterSuper.sp - 4#32)).setSp (m.enterSuper.sp - 4#32 - 2#32) with pc := h, run := .running }.spend
    (.exception v)

/-- Memory after exception entry on a stack in WRAM: the stacked PC at the offsets `long`, the old SR at the offsets `word`. -/
def framed (s : State) (spc : Long) (word long : List Nat) : Memory :=
  writeKeys (writeKeys s.mem (long.map wramKey) (bigEndian .l spc)) (word.map wramKey) (bigEndian .w (s.m68k.getSr.setWidth 32))

/-- The state with the frame stored, before the handler's address is loaded. -/
def stacked (s : State) (spc : Long) (word long : List Nat) : State :=
  { s with
    m68k := (s.m68k.enterSuper.setSp (s.m68k.enterSuper.sp - 4#32)).setSp (s.m68k.enterSuper.sp - 4#32 - 2#32)
    mem := framed s spc word long }

/-- A push on a stack in WRAM. -/
theorem pushAt_wram {s t : State} {sz : Size} {v : BitVec sz.bits} {a : Long} {offs : List Nat} (h : s.pushAt sz v = some t)
    (ha : s.m68k.sp - BitVec.ofNat 32 sz.bytes = a)
    (hp : (bytes68k (a.setWidth 24) sz).mapM (place68k s.launch) = some (wramPlaces offs)) :
    s.placesHere sz a = some (wramPlaces offs) ∧
      t = { s with m68k := s.m68k.setSp a, mem := writeKeys s.mem (offs.map wramKey) (bigEndian sz (v.setWidth 32)) } := by
  have store : (s.mapM68k fun m => m.setSp (m.sp - BitVec.ofNat 32 sz.bytes)).storeAt sz
      (s.m68k.setSp (s.m68k.sp - BitVec.ofNat 32 sz.bytes)).sp v = some t := h
  rw [setSp_sp] at store
  subst ha
  exact storeAt_wram store hp

section Entered

variable {s t : State} {v : Nat} {spc : Long} {word long : List Nat}

/-- What exception entry leaves, where the frame is in WRAM. -/
theorem enterAt_framed (h : s.enterAt v spc = some t)
    (hl : (bytes68k ((s.m68k.enterSuper.sp - 4#32).setWidth 24) .l).mapM (place68k s.launch) = some (wramPlaces long))
    (hw : (bytes68k ((s.m68k.enterSuper.sp - 4#32 - 2#32).setWidth 24) .w).mapM (place68k s.launch) = some (wramPlaces word)) :
    s.placesHere .l (s.m68k.enterSuper.sp - 4#32) = some (wramPlaces long) ∧
    s.placesHere .w (s.m68k.enterSuper.sp - 4#32 - 2#32) = some (wramPlaces word) ∧
    ∃ a l n, (stacked s spc word long).loadAt .l (BitVec.ofNat 32 (v * 4)) =
        some (a, { stacked s spc word long with events := l ++ s.events, bus := { s.bus with draws := n } }) ∧
      t = { s with
        m68k := entered s.m68k v a
        mem := framed s spc word long
        events := l ++ s.events
        bus := { s.bus with draws := n } } := by
  rw [State.enterAt] at h
  cases h1 : (s.mapM68k M68k.enterSuper).pushAt .l spc with
  | none => rw [h1] at h; cases h
  | some t1 =>
    obtain ⟨here4, e1⟩ := pushAt_wram h1 rfl hl
    rw [h1] at h
    dsimp only at h
    cases h2 : t1.pushAt .w s.m68k.getSr with
    | none => rw [h2] at h; cases h
    | some t2 =>
      subst e1
      obtain ⟨here6, e2⟩ := pushAt_wram (a := s.m68k.enterSuper.sp - 4#32 - 2#32) h2
        (congrArg (· - 2#32) (setSp_sp s.m68k.enterSuper (s.m68k.enterSuper.sp - 4#32))) hw
      have e2 : t2 = stacked s spc word long := e2.trans (by rw [show (spc : BitVec Size.l.bits).setWidth 32 = spc from BitVec.setWidth_eq spc]; rfl)
      subst e2
      rw [h2] at h
      dsimp only at h
      refine ⟨here4, here6, ?_⟩
      cases h3 : (stacked s spc word long).loadAt .l (BitVec.ofNat 32 (v * 4)) with
      | none => rw [h3] at h; cases h
      | some x =>
        obtain ⟨a, u⟩ := x
        rw [h3] at h
        cases h
        obtain ⟨mem, l, n, hm, rfl⟩ : Touches (fun _ => False) (stacked s spc word long) u := by
          rw [State.loadAt] at h3
          cases hp : (stacked s spc word long).placesHere .l (BitVec.ofNat 32 (v * 4)) with
          | none => rw [hp] at h3; cases h3
          | some ps =>
            rw [hp] at h3
            cases h3
            exact touches_plainRead _ _ ps
        cases hm.eq_of_empty fun _ h => h
        exact ⟨a, l, n, rfl, rfl⟩

end Entered

section Registers

variable (m : M68k) (v : Nat) (h : Long)

theorem entered_sr : (entered m v h).sr = { m.sr with s := true, t := false } := by
  have : m.enterSuper.sr = { m.sr with s := true, t := false } := by
    rw [M68k.enterSuper]
    cases m.super <;> rfl
  exact this

theorem entered_osp : (entered m v h).osp = if m.super then m.osp else m.sp := by
  have : m.enterSuper.osp = if m.super then m.osp else m.sp := by
    rw [M68k.enterSuper]
    cases m.super <;> rfl
  exact this

theorem entered_sp : (entered m v h).sp = m.enterSuper.sp - 4#32 - 2#32 := setSp_sp _ _

/-- A field of one bit, given as that bit. -/
theorem FieldAt.ofBool {n s : Nat} {w : BitVec n} {b : Bool} (h : FieldAt w s (BitVec.ofBool b)) : w.getLsbD s = b :=
  h.getLsbD.trans (by cases b <;> rfl)

/-- SR written as a word and read back (10 R45). -/
theorem ofWord_word (r : Sr) : Sr.ofWord r.word = r := by
  obtain ⟨t, s, i, x, n, z, v, c⟩ := r
  have ht := ((((((((fieldAt_all (BitVec.ofBool t)).above 0#1).above (BitVec.ofBool s)).above 0#2).above i).above 0#3).above
    (BitVec.ofBool x)).above (BitVec.ofBool n)).above (BitVec.ofBool z)
  have hs := ((((((fieldAt_last (BitVec.ofBool t ++ 0#1) (BitVec.ofBool s)).above 0#2).above i).above 0#3).above
    (BitVec.ofBool x)).above (BitVec.ofBool n)).above (BitVec.ofBool z)
  have hi := ((((fieldAt_last (BitVec.ofBool t ++ 0#1 ++ BitVec.ofBool s ++ 0#2) i).above 0#3).above
    (BitVec.ofBool x)).above (BitVec.ofBool n)).above (BitVec.ofBool z)
  have hx := ((fieldAt_last (BitVec.ofBool t ++ 0#1 ++ BitVec.ofBool s ++ 0#2 ++ i ++ 0#3) (BitVec.ofBool x)).above
    (BitVec.ofBool n)).above (BitVec.ofBool z)
  simp only [Sr.ofWord, Sr.mk.injEq]
  exact ⟨((ht.above (BitVec.ofBool v)).above (BitVec.ofBool c)).ofBool, ((hs.above (BitVec.ofBool v)).above (BitVec.ofBool c)).ofBool,
    (hi.above (BitVec.ofBool v)).above (BitVec.ofBool c), ((hx.above (BitVec.ofBool v)).above (BitVec.ofBool c)).ofBool,
    FieldAt.ofBool ((((fieldAt_last _ _).above (BitVec.ofBool z)).above (BitVec.ofBool v)).above (BitVec.ofBool c)),
    FieldAt.ofBool (((fieldAt_last _ _).above (BitVec.ofBool v)).above (BitVec.ofBool c)),
    FieldAt.ofBool ((fieldAt_last _ _).above (BitVec.ofBool c)), FieldAt.ofBool (fieldAt_last _ _)⟩

/-- The return writes SR back, and so exchanges the stacks where entry did. -/
theorem writeSr_getSr {m m' : M68k} (hs : m'.sr.s = true) (ho : m'.osp = if m.super then m.osp else m.sp)
    (hp : m'.sp = m.enterSuper.sp) :
    (m'.writeSr m.getSr).sr = m.sr ∧ (m'.writeSr m.getSr).sp = m.sp ∧ (m'.writeSr m.getSr).osp = m.osp := by
  have word : Sr.ofWord m.getSr = m.sr := ofWord_word m.sr
  have super' : m'.super = true := hs
  rw [sp_enterSuper] at hp
  rw [M68k.writeSr, word, super']
  cases hm : m.super with
  | true =>
    rw [hm] at ho hp
    rw [if_neg (not_not_intro (show m.sr.s = true from hm))]
    exact ⟨rfl, hp, ho⟩
  | false =>
    rw [hm] at ho hp
    rw [if_pos (by rw [show m.sr.s = false from hm]; decide)]
    exact ⟨rfl, (setSp_sp _ _).trans ho, hp⟩

end Registers

/-! ### The offsets of the frame -/

/-- The offsets of bytes of the frame, which begins at `off`. -/
def frameOffsets (s : State) (off : Nat) (js : List Nat) : List Nat := js.map fun j => (off + j) % s.launch.map.wramSize

section Offsets

variable {s : State} {off : Nat}

theorem wramKey_injective {i j : Nat} (hn : 6 ≤ s.launch.map.wramSize) (hi : i < 6) (hj : j < 6)
    (h : wramKey ((off + i) % s.launch.map.wramSize) = wramKey ((off + j) % s.launch.map.wramSize)) : i = j := by
  have mod : off + i ≡ off + j [MOD s.launch.map.wramSize] := Nat.add_left_cancel h
  have mod := Nat.ModEq.add_left_cancel' off mod
  rwa [Nat.ModEq, Nat.mod_eq_of_lt (by omega), Nat.mod_eq_of_lt (by omega)] at mod

theorem frameKeys_nodup {js : List Nat} (hn : 6 ≤ s.launch.map.wramSize) (hj : ∀ j ∈ js, j < 6) (hd : js.Nodup) :
    ((frameOffsets s off js).map wramKey).Nodup := by
  rw [frameOffsets, List.map_map]
  exact hd.map_on fun i hi j hj' h => wramKey_injective hn (hj i hi) (hj j hj') h

theorem frameKey_not_mem {js : List Nat} {i : Nat} (hn : 6 ≤ s.launch.map.wramSize) (hj : ∀ j ∈ js, j < 6) (hi : i < 6) (h : i ∉ js) :
    wramKey ((off + i) % s.launch.map.wramSize) ∉ (frameOffsets s off js).map wramKey := by
  rw [frameOffsets, List.map_map]
  intro hm
  obtain ⟨j, hjm, he⟩ := List.mem_map.1 hm
  exact h (wramKey_injective hn hi (hj j hjm) he.symm ▸ hjm)

theorem mapM_map_eq_some {α β γ : Type} {f : β → Option γ} {e : α → β} {g : α → γ} {l : List α} (h : ∀ a ∈ l, f (e a) = some (g a)) :
    (l.map e).mapM f = some (l.map g) := by
  induction l with
  | nil => rfl
  | cons a l ih =>
    rw [List.map_cons, List.mapM_cons, h a List.mem_cons_self, ih fun b hb => h b (List.mem_cons_of_mem _ hb)]
    rfl

/-- The places of an access to the frame. -/
theorem mapM_frame {a : Long} {sz : Size} {k : Nat} (hk : k + sz.bytes ≤ 6)
    (ha : a.setWidth 24 = (s.m68k.enterSuper.sp - 6#32).setWidth 24 + BitVec.ofNat 24 k)
    (h : ∀ j < 6, place68k s.launch ((s.m68k.enterSuper.sp - 6#32).setWidth 24 + BitVec.ofNat 24 j) =
      some (.wram ((off + j) % s.launch.map.wramSize))) :
    (bytes68k (a.setWidth 24) sz).mapM (place68k s.launch) = some (wramPlaces (frameOffsets s off ((List.range sz.bytes).map (k + ·)))) := by
  have byte (j : Nat) (hj : j < sz.bytes) : place68k s.launch (a.setWidth 24 + BitVec.ofNat 24 j) =
      some (.wram ((off + (k + j)) % s.launch.map.wramSize)) := by
    rw [ha, BitVec.add_assoc, ← BitVec.ofNat_add]
    exact h (k + j) (by omega)
  rw [bytes68k, frameOffsets, wramPlaces, List.map_map, List.map_map]
  exact mapM_map_eq_some fun j hj => byte j (List.mem_range.1 hj)

end Offsets

/-! ### The frame -/

section Frame

variable {s u : State} {spc : Long} {off n : Nat}

/-- The frame of 60 R704, in memory. -/
def frameOf (s : State) (spc : Long) (off : Nat) : Memory := framed s spc (frameOffsets s off [0, 1]) (frameOffsets s off [2, 3, 4, 5])

theorem frame_word (hm : s.mem.wf) (hn : 6 ≤ s.launch.map.wramSize) :
    (frameOffsets s off [0, 1]).map ((frameOf s spc off).read ∘ wramKey) = bigEndian .w (s.m68k.getSr.setWidth 32) := by
  rw [← List.map_map]
  exact map_read_writeKeys (writeKeys_wf hm _ _) (frameKeys_nodup hn (by decide) (by decide)) rfl

theorem frame_long (hm : s.mem.wf) (hn : 6 ≤ s.launch.map.wramSize) :
    (frameOffsets s off [2, 3, 4, 5]).map ((frameOf s spc off).read ∘ wramKey) = bigEndian .l spc := by
  have under : ∀ o ∈ frameOffsets s off [2, 3, 4, 5], ((frameOf s spc off).read ∘ wramKey) o =
      ((writeKeys s.mem ((frameOffsets s off [2, 3, 4, 5]).map wramKey) (bigEndian .l spc)).read ∘ wramKey) o := by
    intro o ho
    obtain ⟨j, hj, rfl⟩ := List.mem_map.1 ho
    have other : j < 6 ∧ j ∉ [0, 1] := by
      have : ∀ j ∈ [2, 3, 4, 5], j < 6 ∧ j ∉ [0, 1] := by decide
      exact this j hj
    exact read_writeKeys_other (writeKeys_wf hm _ _) _ (frameKey_not_mem hn (by decide) other.1 other.2)
  rw [List.map_congr_left under, ← List.map_map]
  exact map_read_writeKeys hm (frameKeys_nodup hn (by decide) (by decide)) rfl

end Frame

end Sys2Proof.Laws
end

section
/-! Exception entry and the return from it: the statement of 60 R704 and R707. -/

namespace Sys2Proof.Laws

open Sys2Proof.Machine

section Frame

variable {s u : State} {spc : Long} {off n : Nat}

/-- The old SR, read back. -/
theorem loadAt_frame_word (hm : s.mem.wf) (hn : 6 ≤ s.launch.map.wramSize) {a : Long}
    (hp : s.placesHere .w a = some (wramPlaces (frameOffsets s off [0, 1]))) (hl : u.launch = s.launch)
    (hb : u.bus = { s.bus with draws := n }) (hu : u.mem = frameOf s spc off) : u.loadAt .w a = some (s.m68k.getSr, u) := by
  rw [loadAt_wram ((placesHere_congr hl hb).trans hp), hu, frame_word hm hn]
  exact congrArg (fun v => some (v, u)) (ofBigEndian_bigEndian (sz := .w) s.m68k.getSr)

/-- The stacked PC, read back. -/
theorem loadAt_frame_long (hm : s.mem.wf) (hn : 6 ≤ s.launch.map.wramSize) {a : Long}
    (hp : s.placesHere .l a = some (wramPlaces (frameOffsets s off [2, 3, 4, 5]))) (hl : u.launch = s.launch)
    (hb : u.bus = { s.bus with draws := n }) (hu : u.mem = frameOf s spc off) : u.loadAt .l a = some (spc, u) := by
  have full : (bigEndian .l spc) = bigEndian .l ((spc : BitVec Size.l.bits).setWidth 32) :=
    congrArg (bigEndian .l) (BitVec.setWidth_eq spc).symm
  rw [loadAt_wram ((placesHere_congr hl hb).trans hp), hu, frame_long hm hn, full]
  exact congrArg (fun v => some (v, u)) (ofBigEndian_bigEndian (sz := .l) spc)

/-- The image reads as before: the frame is in WRAM. -/
theorem read_frame_image (hm : s.mem.wf) {k : Nat} (hk : k < s.launch.romLen) : (frameOf s spc off).read k = s.mem.read k := by
  have bound : (s.launch.romLen : Nat) < 0x400001 := s.launch.romLen.isLt
  have apart (offs : List Nat) : k ∉ offs.map wramKey := by
    intro h
    obtain ⟨o, -, ho⟩ := List.mem_map.1 h
    rw [wramKey] at ho
    omega
  exact (read_writeKeys_other (writeKeys_wf hm _ _) _ (apart _)).trans (read_writeKeys_other hm _ (apart _))

/-- A vector in ROM is loaded as before the frame was stacked. -/
theorem loadAt_vector {word long : List Nat} {a : Long} {x y : Long} {t : State}
    (hk : ∀ k : Nat, k < s.launch.romLen → (framed s spc word long).read k = s.mem.read k)
    (hr : ∀ j < 4, ∃ off, place68k s.launch (a.setWidth 24 + BitVec.ofNat 24 j) = some (.rom off))
    (hs : s.loadAt .l a = some (x, s)) (ht : (stacked s spc word long).loadAt .l a = some (y, t)) : y = x := by
  rw [State.loadAt] at hs ht
  have same : (stacked s spc word long).placesHere .l a = s.placesHere .l a := rfl
  rw [same] at ht
  cases hp : s.placesHere .l a with
  | none => rw [hp] at hs; cases hs
  | some ps =>
    rw [hp, Option.map_some] at hs ht
    obtain ⟨hx, hd⟩ := Prod.mk.inj (Option.some.inj hs)
    obtain ⟨hy, -⟩ := Prod.mk.inj (Option.some.inj ht)
    have rom : ∀ p ∈ ps, ∃ off, p = .rom off := by
      intro p hmem
      obtain ⟨b, hb, hbp⟩ := exists_of_mapM (mapM_of_placesHere hp) hmem
      obtain ⟨j, hj, rfl⟩ := List.mem_map.1 hb
      obtain ⟨off, ho⟩ := hr j (List.mem_range.1 hj)
      exact ⟨off, Option.some.inj (hbp.symm.trans ho)⟩
    have image := inImage_of_draws rom (congrArg (fun u : State => u.bus.draws) hd)
    have bytes := readPlaces_inImage_congr (s := s) (t := stacked s spc word long) rfl hk image
    rw [← hx, ← hy, State.plainRead, State.plainRead]
    exact congrArg (fun bs => (ofBigEndian bs).setWidth 32) bytes

end Frame

/-- What RTE does where both parts of the frame can be read back, in every state with the same memory and bus. -/
theorem rte_framed {s t : State} {spc : Long} (hr : t.ready68k) (hsp : t.m68k.sp = s.m68k.enterSuper.sp - 4#32 - 2#32)
    (hsr : t.m68k.sr = { s.m68k.sr with s := true, t := false })
    (hosp : t.m68k.osp = if s.m68k.super then s.m68k.osp else s.m68k.sp)
    (word : ∀ u : State, u.launch = t.launch → u.bus = t.bus → u.mem = t.mem →
      u.loadAt .w (s.m68k.enterSuper.sp - 4#32 - 2#32) = some (s.m68k.getSr, u))
    (long : ∀ u : State, u.launch = t.launch → u.bus = t.bus → u.mem = t.mem →
      u.loadAt .l (s.m68k.enterSuper.sp - 4#32) = some (spc, u)) :
    ∃ u, exec .rte t = .next u ∧ u.m68k.sr = s.m68k.sr ∧ u.m68k.pc = spc ∧ u.m68k.sp = s.m68k.sp ∧ u.m68k.osp = s.m68k.osp := by
  let t1 := (t.past 1).mapM68k fun m => m.setSp (m.sp + 2#32)
  let t2 := t1.mapM68k fun m => m.setSp (m.sp + 4#32)
  have sp0 : (t.past 1).m68k.sp = s.m68k.enterSuper.sp - 4#32 - 2#32 := hsp
  have sp1 : t1.m68k.sp = s.m68k.enterSuper.sp - 4#32 := (setSp_sp _ _).trans (by rw [sp0]; bv_omega)
  have sp2 : t2.m68k.sp = s.m68k.enterSuper.sp := (setSp_sp _ _).trans (by rw [sp1]; bv_omega)
  have pop1 : (t.past 1).popAt .w = some (s.m68k.getSr, t1) := by
    rw [State.popAt, sp0, word (t.past 1) rfl rfl rfl]
    rfl
  have pop2 : t1.popAt .l = some (spc, t2) := by
    rw [State.popAt, sp1, long t1 rfl rfl rfl]
    rfl
  have super : t.m68k.super = true := congrArg Sr.s hsr
  obtain ⟨sr', sp', osp'⟩ := writeSr_getSr (m := s.m68k) (m' := t2.m68k) (congrArg Sr.s hsr) hosp sp2
  exact ⟨_, returnsComplete.2.2 t _ t1 spc t2 hr super pop1 pop2, sr', rfl, sp', osp'⟩

/-- Settles O52: the frame stands in WRAM as it was stored, so that RTE reads back what entry stacked. -/
theorem exceptionEntryAndReturn : Obligations.ExceptionEntryAndReturn := by
  unfold Obligations.ExceptionEntryAndReturn
  intro s t v spc hm hr h ⟨off, hpl⟩ hn
  have above4 : s.m68k.enterSuper.sp - 4#32 = s.m68k.enterSuper.sp - 6#32 + 2#32 := by bv_omega
  have below6 : s.m68k.enterSuper.sp - 4#32 - 2#32 = s.m68k.enterSuper.sp - 6#32 := by bv_omega
  have places4 := mapM_frame (a := s.m68k.enterSuper.sp - 4#32) (sz := .l) (k := 2) (by decide)
    (by rw [above4, BitVec.setWidth_add _ _ (by decide)]; rfl) hpl
  have places6 := mapM_frame (a := s.m68k.enterSuper.sp - 4#32 - 2#32) (sz := .w) (k := 0) (by decide)
    (by rw [below6]; exact (BitVec.add_zero _).symm) hpl
  obtain ⟨here4, here6, a, l, n, hload, rfl⟩ :=
    enterAt_framed (long := frameOffsets s off [2, 3, 4, 5]) (word := frameOffsets s off [0, 1]) h places4 places6
  have sp := entered_sp s.m68k v a
  have word {u : State} (hl : u.launch = s.launch) (hb : u.bus = { s.bus with draws := n }) (hu : u.mem = frameOf s spc off) :=
    loadAt_frame_word hm hn here6 hl hb hu
  have long {u : State} (hl : u.launch = s.launch) (hb : u.bus = { s.bus with draws := n }) (hu : u.mem = frameOf s spc off) :=
    loadAt_frame_long hm hn here4 hl hb hu
  refine ⟨entered_sr s.m68k v a, entered_osp s.m68k v a, ?_, rfl, ?_, ?_, fun x hrom hx => ?_, ?_⟩
  · exact sp.trans (below6.trans (congrArg (· - 6#32) (sp_enterSuper s.m68k)))
  · dsimp only
    rw [sp]
    exact word rfl rfl rfl
  · dsimp only
    rw [sp, show s.m68k.enterSuper.sp - 4#32 - 2#32 + 2#32 = s.m68k.enterSuper.sp - 4#32 by bv_omega]
    exact long rfl rfl rfl
  · exact loadAt_vector (fun k hk => read_frame_image hm hk) hrom hx hload
  · exact rte_framed hr sp (entered_sr s.m68k v a) (entered_osp s.m68k v a)
      (fun _ hl hb hu => word hl hb hu) fun _ hl hb hu => long hl hb hu

end Sys2Proof.Laws
end

section
/-! Changes of mode: which instructions may end in exception entry, and from which point of user mode (60 R720, R721). -/

namespace Sys2Proof.Laws

open Sys2Proof.Machine

/-! ### Activities in user mode -/

/-- M68K is in supervisor mode, or in user mode. -/
def InMode (b : Bool) (m : M68k) : Prop := m.super = b

/-- No byte of memory. -/
def NoKey (_ : Nat) : Prop := False

/-- Every byte of memory. -/
def EveryKey (_ : Nat) : Prop := True

/-- The data registers and OSP are the same. -/
def SameData (m0 m : M68k) : Prop := m.d = m0.d ∧ m.osp = m0.osp

/-- Resolving an operand keeps the data registers, OSP and SR (40 R303). -/
theorem resolve_keeps {m m' : M68k} {sz : Size} {ea : Ea} {loc : Loc} (h : m.resolve sz ea = some (loc, m')) :
    SameData m m' ∧ m'.sr = m.sr := by
  cases ea with
  | imm v => cases sz <;> cases h <;> exact ⟨⟨rfl, rfl⟩, rfl⟩
  | index n x | pcIndex x =>
    rw [M68k.resolve] at h
    split at h <;> cases h
    exact ⟨⟨rfl, rfl⟩, rfl⟩
  | _ => cases h; exact ⟨⟨rfl, rfl⟩, rfl⟩

theorem free_inMode (b : Bool) : Free68k (InMode b) := fun _ _ _ _ h => h

theorem resolves_inMode (b : Bool) (ea : Ea) : Resolves (InMode b) ea :=
  fun _ _ _ _ h hr => (congrArg Sr.s (resolve_keeps hr).2).trans h

/-- Exception entry of the instruction `i`, run from a user-mode point of an activity begun in `s0`, waits in it or has ended. -/
def Entered (i : Instr) (s0 : State) (e : Stop) (d : Ctx) : Prop :=
  ∃ (v : Nat) (spc : Long) (c : Ctx), v ∈ i.vectors ∧ In68k NoKey (InMode false) s0 c.st ∧
    SameData s0.m68k c.st.m68k ∧
    spc = (if v ∈ [4, 8, 10, 11] then s0.m68k.pc else c.st.m68k.pc) ∧
    (enterException v spc none c = .error e d ∨ e = .ended ∧ enterException v spc none c = .ok () d)

/-- Begun in user mode with registers of `p`, the operation stays in user mode and stores nothing, or stops in exception entry of
the instruction `i`. -/
def Traps (i : Instr) (s0 : State) {α : Type} (p : M68k → Prop) (x : Op α) (q : α → M68k → Prop) : Prop :=
  Keeps (In68k NoKey (InMode false) s0) (fun e d => Stops68k NoKey (InMode false) s0 e d ∨ Entered i s0 e d) (fun s => p s.m68k) x
    fun a s => q a s.m68k

section Traps

variable {i : Instr} {s0 : State} {α β : Type} {p : M68k → Prop} {x : Op α} {q : α → M68k → Prop}

theorem Holds68k.traps (h : Holds68k NoKey (InMode false) s0 p x q) : Traps i s0 p x q :=
  Keeps.mono h (fun _ _ h => h) (fun _ _ _ h => h) fun _ _ h => .inl h

theorem Traps.bind {f : α → Op β} {r : β → M68k → Prop} (h : Traps i s0 p x q) (hf : ∀ a, Traps i s0 (q a) (f a) r) :
    Traps i s0 p (x >>= f) r := Keeps.bind h hf

theorem Traps.ite {c : Prop} [Decidable c] {y : Op α} (hx : c → Traps i s0 p x q) (hy : ¬c → Traps i s0 p y q) :
    Traps i s0 p (if c then x else y) q := Keeps.ite hx hy

/-- Nothing follows. -/
theorem traps_never : Traps i s0 (fun _ => False) x q := fun _ _ h => h.elim

theorem traps_regs {f : M68k → Op β} {r : β → M68k → Prop}
    (h : ∀ m, InMode false m → p m → Traps i s0 (· = m) (f m) r) :
    Traps i s0 p (m68kRegs >>= f) r := fun c hi hp => h c.st.m68k hi.registers hp c hi rfl

/-- Exception entry from registers that are known (60 R703, R704). -/
theorem traps_raise68k {v : Nat} {spc : Long} (hv : v ∈ i.vectors)
    (hp : ∀ m, p m → SameData s0.m68k m ∧ spc = if v ∈ [4, 8, 10, 11] then s0.m68k.pc else m.pc) :
    Traps i s0 p (raise68k v spc : Op α) q := by
  intro c hi hpc
  obtain ⟨same, hspc⟩ := hp _ hpc
  rw [raise68k]
  cases hc : enterException v spc none c with
  | ok a d =>
    rw [bind_of_ok hc]
    exact .inr ⟨v, spc, c, hv, hi, same, hspc, .inr ⟨rfl, hc⟩⟩
  | error e d =>
    rw [bind_of_error hc]
    exact .inr ⟨v, spc, c, hv, hi, same, hspc, .inl hc⟩

theorem traps_draw68k {m0 : M68k} : Traps i s0 (SameData m0) draw68k fun _ => SameData m0 := fun c hi hp =>
  ⟨hi.mapM68k (f := fun m => { m with draws := m.draws + 1 }) (by exact hi.registers), hp⟩

/-- Reading a word operand keeps the data registers and OSP. -/
theorem traps_readEa {m1 : M68k} (ea : Ea) : Traps i s0 (SameAddresses m1) (readEa .w ea) fun _ => SameData m1 := by
  refine Holds68k.traps ((holds_readEa (free_inMode _) (resolves_inMode _ ea)).post fun _ m _ ⟨⟨loc, m'⟩, hr, same⟩ => ?_)
  obtain ⟨⟨d, osp⟩, -⟩ := resolve_keeps hr
  exact ⟨same.d.trans d, same.osp.trans osp⟩

/-- A privileged instruction goes no further in user mode (45 R495). -/
theorem traps_privileged (hv : i.vectors = [8]) :
    Traps i s0 (SameAddresses (s0.m68k.skip 1)) privileged fun _ _ => False := by
  have raised : 8 ∈ i.vectors := by rw [hv]; exact List.mem_cons_self
  refine traps_regs fun m hm hp => Traps.ite (fun h => ?_) fun _ => traps_raise68k raised fun _ e => ?_
  · cases hm.symm.trans h
  · subst e
    refine ⟨⟨hp.d, hp.osp⟩, ?_⟩
    rw [hp.pc]
    exact BitVec.add_sub_cancel _ _

theorem traps_crash : Traps i s0 p (do Op.modify (·.halt68k .crashed); Op.stop .ended) q :=
  Holds68k.traps (holds_crash fun _ _ h => h)

theorem traps_illegalPolicy {v : Nat} (hv : v ∈ i.vectors) (hl : v ∈ [4, 8, 10, 11]) :
    Traps i s0 (SameAddresses (s0.m68k.skip 1)) (illegalPolicy v) fun _ _ => True := by
  refine Keeps.bind keeps_state fun s => ?_
  cases s.launch.policy with
  | crash => exact Keeps.pre (traps_crash (p := fun _ => True) (q := fun _ _ => True)) fun _ _ _ => trivial
  | ignore => exact keeps_pure fun _ _ _ => trivial
  | trap =>
    rintro c hi ⟨rfl, hp⟩
    have raised : Traps i s0 (· = c.st.m68k) (raise68k v (c.st.m68k.pc - 2#32) : Op Unit) fun _ _ => True := by
      refine traps_raise68k hv fun m e => ?_
      subst e
      refine ⟨⟨hp.d, hp.osp⟩, ?_⟩
      rw [if_pos hl, hp.pc]
      exact BitVec.add_sub_cancel _ _
    exact raised c hi rfl

end Traps

/-! ### Exception entry -/

/-- SR is `r` in supervisor mode, and untraced there: what exception entry keeps. -/
def SupervisorSr (r : Sr) (m : M68k) : Prop :=
  ({ m.sr with s := true, t := false } : Sr) = r ∧ (m.super = true → m.trace = false)

theorem SupervisorSr.eq {r : Sr} {m : M68k} (h : SupervisorSr r m) (hs : m.super = true) : m.sr = r := by
  obtain ⟨hr, ht⟩ := h
  rw [← hr, ← show m.sr.s = true from hs, ← show m.sr.t = false from ht hs]

theorem enterSuper_sr (m : M68k) : m.enterSuper.sr = { m.sr with s := true, t := false } := by
  rw [M68k.enterSuper]
  split <;> rfl

theorem freeEntry_supervisorSr (r : Sr) : FreeEntry (SupervisorSr r) where
  free _ _ _ _ h := h
  sp _ _ h := h
  super m h := by
    refine ⟨?_, fun _ => rfl⟩
    rw [enterSuper_sr]
    exact h.1
  running _ h := h

/-- SR after exception entry from user mode, finished or waiting (60 R704). -/
theorem sr_of_entered {s t : State} {c : Ctx} {act : Act68k} {v : Nat} {spc : Long}
    (hi : In68k NoKey (InMode false) s.start68k.st c.st)
    (h : finish68k act s (enterException v spc none c) = .next t) (ht : t.m68k.super = true) :
    t.m68k.sr = { c.st.m68k.sr with s := true, t := false } := by
  have hE : SupervisorSr { c.st.m68k.sr with s := true, t := false } c.st.m68k :=
    ⟨rfl, fun hs => by cases hi.registers.symm.trans hs⟩
  have entry := holds_enterException (K := EveryKey) (s0 := s.start68k.st) (p := fun _ => True)
    (freeEntry_supervisorSr { c.st.m68k.sr with s := true, t := false }) v spc
    (level := none) (fun _ h => nomatch h) fun _ _ _ => ⟨fun _ _ _ _ => trivial, fun _ _ _ _ => trivial⟩
  have begun := (hi.mapM68k (f := fun m => m) hE).mono (K' := EveryKey) (fun _ _ => trivial) fun _ h => h
  cases hc : enterException v spc none c with
  | ok a d =>
    rw [hc] at h
    cases h
    exact ((Keeps.of_ok entry begun trivial hc).1.registers).eq ht
  | error e d =>
    rw [hc] at h
    exact ((outcome_stopped act e (Keeps.of_error entry begun trivial hc)).registers h).eq ht

/-- The step into supervisor mode ended in exception entry of the instruction. -/
def EntersSupervisor (i : Instr) (s t : State) : Prop :=
  ∃ (v : Nat) (spc : Long) (c : Ctx),
    v ∈ i.vectors ∧ c.st.m68k.super = false ∧ c.st.mem = s.mem ∧ c.st.m68k.d = s.start68k.st.m68k.d ∧
    c.st.m68k.osp = s.start68k.st.m68k.osp ∧
    spc = (if v ∈ [4, 8, 10, 11] then s.start68k.st.m68k.pc else c.st.m68k.pc) ∧
    finish68k (.exec i) s (enterException v spc none c) = .next t ∧
    t.m68k.sr = { c.st.m68k.sr with s := true, t := false }

theorem Entered.entersSupervisor {i : Instr} {s t : State} {e : Stop} {d : Ctx} (h : Entered i s.start68k.st e d)
    (hx : finish68k (.exec i) s (.error e d) = .next t) (ht : t.m68k.super = true) : EntersSupervisor i s t := by
  obtain ⟨v, spc, c, hv, hi, ⟨hd, hosp⟩, hspc, hc⟩ := h
  have finished : finish68k (.exec i) s (enterException v spc none c) = .next t := by
    rcases hc with hc | ⟨rfl, hc⟩ <;> rw [hc] <;> exact hx
  have mem : c.st.mem = s.mem := (hi.mem.eq_of_empty fun _ h => h).trans (by rw [start68k_st])
  exact ⟨v, spc, c, hv, hi.registers, mem, hd, hosp, hspc, finished, sr_of_entered hi finished ht⟩

/-- An operation that stays in user mode but for exception entry. -/
theorem Traps.entersSupervisor {i : Instr} {s t : State} {p : M68k → Prop} {x : Op Unit} {q : Unit → M68k → Prop}
    (h : Traps i s.start68k.st p x q) (hu : InMode false s.start68k.st.m68k) (hp : p s.start68k.st.m68k)
    (hx : finish68k (.exec i) s (x s.start68k) = .next t) (ht : t.m68k.super = true) : EntersSupervisor i s t := by
  cases hc : x s.start68k with
  | ok a d =>
    rw [hc] at hx
    cases hx
    cases (Keeps.of_ok h (in68k_refl hu) hp hc).1.registers.symm.trans ht
  | error e d =>
    rw [hc] at hx
    rcases Keeps.of_error h (in68k_refl hu) hp hc with stays | entered
    · cases ((outcome_stopped _ e stays).registers hx).symm.trans ht
    · exact entered.entersSupervisor hx ht

theorem entersSupervisor_run68k {i : Instr} {s t : State} {rule : Op (List Nat)} {q : List Nat → M68k → Prop}
    (h : Traps i s.start68k.st (SameAddresses (s.start68k.st.m68k.skip 1)) rule q) (hu : InMode false s.start68k.st.m68k)
    (hx : run68k i rule s = .next t) (ht : t.m68k.super = true) : EntersSupervisor i s t := by
  refine Traps.entersSupervisor (p := (· = s.start68k.st.m68k)) (q := fun _ _ => True) ?_ hu rfl hx ht
  refine Traps.bind (q := fun _ => SameAddresses (s.start68k.st.m68k.skip 1))
    (Holds68k.traps (holds_setM68k fun m hm e => ⟨hm, ?_⟩)) fun _ =>
      h.bind fun data => Holds68k.traps (holds_spend68k (free_inMode false) _)
  rw [e]
  exact same_refl _

/-! ### The instructions that may enter an exception -/

theorem entersSupervisor_privileged {i : Instr} {s t : State} {rest : Unit → Op (List Nat)} (hv : i.vectors = [8])
    (hu : InMode false s.start68k.st.m68k) (hx : run68k i (privileged >>= rest) s = .next t) (ht : t.m68k.super = true) :
    EntersSupervisor i s t :=
  entersSupervisor_run68k (q := fun _ _ => True) ((traps_privileged hv).bind fun _ => traps_never) hu hx ht

section Rules

variable {i : Instr} {s0 : State} {m0 : M68k} {α : Type}

/-- Flags, then an exception that stacks the address it is reached at. -/
theorem traps_setCcr_raise {v : Nat} {spc : Long} {f : Ccr} {q : α → M68k → Prop} (hv : v ∈ i.vectors)
    (hl : v ∉ [4, 8, 10, 11]) {m : M68k} (hm : SameData s0.m68k m) (hs : spc = m.pc) :
    Traps i s0 (· = m) (setCcr f >>= fun _ => raise68k v spc : Op α) q := by
  have set : Holds68k NoKey (InMode false) s0 (· = m) (setCcr f) fun _ m' => m' = m.setCcr f :=
    holds_setM68k fun m' hm' e => ⟨hm', by rw [e]⟩
  refine Traps.bind set.traps fun _ => traps_raise68k hv fun m' e => ?_
  subst e
  exact ⟨hm, by rw [if_neg hl, hs]; rfl⟩

theorem traps_zeroDivide (hv : 5 ∈ i.vectors) (q : Unit → M68k → Prop) : Traps i s0 (SameData s0.m68k) zeroDivide q :=
  traps_draw68k.bind fun _ => traps_draw68k.bind fun _ => traps_draw68k.bind fun _ => traps_regs fun _ _ hp =>
    traps_setCcr_raise hv (by decide) hp rfl

section Mode

variable {K : Nat → Prop} {b : Bool} {p : M68k → Prop}

/-- Registers and flags written in a mode. -/
theorem holds_setInMode {f : M68k → M68k} (hf : ∀ m, (f m).super = m.super) :
    Holds68k K (InMode b) s0 p (setM68k f) fun _ _ => True :=
  holds_setM68k fun m hm _ => ⟨(hf m).trans hm, trivial⟩

theorem holds_setCcrInMode (f : Ccr) : Holds68k K (InMode b) s0 p (setCcr f) fun _ _ => True := holds_setInMode fun _ => rfl

theorem holds_drawInMode : Holds68k K (InMode b) s0 p draw68k fun _ _ => True := holds_draw68k (free_inMode b)

/-- A division on a divisor other than 0 keeps the mode. -/
theorem holds_division {c : Prop} [Decidable c] {n : Reg} {q r : Word} {data : List Nat} :
    Holds68k K (InMode b) s0 p (do
      if c then divideOverflow else divideResult n q r
      pure data) fun _ _ => True := by
  refine Holds68k.ite (fun _ => ?_) fun _ => Holds68k.andPure (x := divideResult n q r) (holds_setInMode fun _ => rfl)
  refine Holds68k.andPure (q := fun _ _ => True) ?_
  exact holds_drawInMode.bind fun _ => holds_drawInMode.bind fun _ => holds_ccr fun _ _ _ => holds_setCcrInMode _

end Mode

end Rules

/-- An instruction that may trap enters supervisor mode only by an exception (60 R720). -/
theorem exec_entersSupervisor {i : Instr} {s t : State} (hi : i.mayTrap = true) (hu : InMode false s.start68k.st.m68k)
    (hx : exec i s = .next t) (ht : t.m68k.super = true) : EntersSupervisor i s t := by
  cases i
  case moveToSr | moveUsp | rte | reset | stop | oriToSr | andiToSr | eoriToSr =>
    exact entersSupervisor_privileged rfl hu hx ht
  case trap n =>
    refine entersSupervisor_run68k (q := fun _ _ => True) (traps_regs fun m _ hp => traps_raise68k List.mem_cons_self ?_) hu hx ht
    rintro _ rfl
    refine ⟨⟨hp.d, hp.osp⟩, (if_neg ?_).symm⟩
    simp only [List.mem_cons, List.not_mem_nil, or_false]
    omega
  case trapv =>
    refine entersSupervisor_run68k (q := fun _ _ => True) (traps_regs fun m _ hp => ?_) hu hx ht
    refine Traps.ite (fun _ => ?_) fun _ => (holds_pure _).done.traps
    refine Traps.bind (q := fun _ _ => True) (traps_raise68k List.mem_cons_self ?_) fun _ => (holds_pure _).traps
    rintro _ rfl
    exact ⟨⟨hp.d, hp.osp⟩, rfl⟩
  case illegal | lineA | lineF =>
    exact entersSupervisor_run68k (q := fun _ _ => True)
      (Traps.bind (traps_illegalPolicy List.mem_cons_self (by decide)) fun _ => (holds_pure _).traps) hu hx ht
  case chk ea n =>
    refine entersSupervisor_run68k (q := fun _ _ => True) ((traps_readEa ea).bind fun v => traps_draw68k.bind fun _ =>
      traps_draw68k.bind fun _ => traps_draw68k.bind fun _ => traps_regs fun m _ hp => ?_) hu hx ht
    refine Traps.ite (fun _ => ?_) fun _ => Traps.ite (fun _ => ?_) fun _ => ?_
    · exact (traps_setCcr_raise List.mem_cons_self (by decide) hp rfl).bind fun _ => traps_never
    · exact (traps_setCcr_raise List.mem_cons_self (by decide) hp rfl).bind fun _ => traps_never
    · exact Holds68k.traps (holds_drawInMode.bind fun _ => (holds_setCcrInMode _).andPure)
  case divu ea n | divs ea n =>
    refine entersSupervisor_run68k (q := fun _ _ => True) ((traps_readEa ea).bind fun v => ?_) hu hx ht
    refine Traps.ite (fun _ => ?_) fun _ => Holds68k.traps (holds_regs fun _ _ _ => holds_division)
    exact Traps.bind (q := fun _ _ => False) (traps_zeroDivide List.mem_cons_self _) fun _ => traps_never
  all_goals cases hi

end Sys2Proof.Laws
end

section
/-! Changes of mode: which instructions may leave supervisor mode (60 R721). -/

namespace Sys2Proof.Laws

open Sys2Proof.Machine

/-- Exception entry keeps supervisor mode (60 R704). -/
theorem freeEntry_supervisor : FreeEntry (InMode true) where
  free := free_inMode true
  sp _ _ h := h
  super m _ := congrArg Sr.s (enterSuper_sr m)
  running _ h := h

theorem canFrame_everyKey (l : Launch) (m : M68k) : CanFrame EveryKey l m := ⟨fun _ _ _ _ => trivial, fun _ _ _ _ => trivial⟩

theorem sr_writeSr (m : M68k) (v : Word) : (m.writeSr v).sr = Sr.ofWord v := by
  rw [M68k.writeSr]
  split <;> rfl

/-- Bits ORed into SR leave S set (45 R492). -/
theorem super_writeSr_or {m : M68k} (h : m.super = true) (imm : Word) : (m.writeSr (m.getSr ||| imm)).super = true := by
  have bit : m.getSr.getLsbD 13 = true := (congrArg Sr.s (ofWord_word m.sr)).trans h
  calc (m.writeSr (m.getSr ||| imm)).super
      = (m.getSr ||| imm).getLsbD 13 := congrArg Sr.s (sr_writeSr m _)
    _ = true := by rw [BitVec.getLsbD_or, bit, Bool.true_or]

/-- Begun in supervisor mode, the operation stays in it, however it ends. -/
def StaysSuper (s0 : State) {α : Type} (x : Op α) : Prop :=
  Holds68k EveryKey (InMode true) s0 (fun _ => True) x fun _ _ => True

section StaysSuper

variable {s0 : State} {α β : Type} {x : Op α}

theorem StaysSuper.bind {f : α → Op β} (h : StaysSuper s0 x) (hf : ∀ a, StaysSuper s0 (f a)) : StaysSuper s0 (x >>= f) :=
  Holds68k.bind h hf

theorem staysSuper_pure (a : α) : StaysSuper s0 (pure a) := holds_pure a

theorem staysSuper_regs {f : M68k → Op β} (h : ∀ m, StaysSuper s0 (f m)) : StaysSuper s0 (m68kRegs >>= f) :=
  holds_regs fun m _ _ => Holds68k.any (h m)

theorem staysSuper_raise68k (v : Nat) (spc : Long) : StaysSuper s0 (raise68k v spc : Op α) :=
  holds_raise68k freeEntry_supervisor v spc fun _ _ _ => canFrame_everyKey _ _

theorem staysSuper_privileged : StaysSuper s0 privileged :=
  holds_privileged freeEntry_supervisor fun _ _ _ _ => canFrame_everyKey _ _

theorem staysSuper_illegalPolicy (v : Nat) : StaysSuper s0 (illegalPolicy v) :=
  holds_illegalPolicy freeEntry_supervisor (fun _ _ h => h) v fun _ _ _ => canFrame_everyKey _ _

theorem staysSuper_readEa (sz : Size) (ea : Ea) : StaysSuper s0 (readEa sz ea) :=
  holds_readEa_any (free_inMode true) (resolves_inMode true ea)

theorem staysSuper_zeroDivide : StaysSuper s0 zeroDivide :=
  StaysSuper.bind holds_drawInMode fun _ => StaysSuper.bind holds_drawInMode fun _ => StaysSuper.bind holds_drawInMode fun _ =>
    staysSuper_regs fun _ => StaysSuper.bind (holds_setCcrInMode _) fun _ => staysSuper_raise68k _ _

/-- DIVU and DIVS, past the reading of the divisor. -/
theorem staysSuper_divide {v : Word} {rest : M68k → Op (List Nat)} (h : ∀ m, StaysSuper s0 (rest m)) : StaysSuper s0 (do
    if v = 0#16 then zeroDivide
    let m ← m68kRegs
    rest m) :=
  Holds68k.ite (fun _ => StaysSuper.bind staysSuper_zeroDivide fun _ => staysSuper_regs h) fun _ => staysSuper_regs h

end StaysSuper

theorem super_run68k {i : Instr} {s t : State} {rule : Op (List Nat)} (h : StaysSuper s.start68k.st rule)
    (hs : s.start68k.st.m68k.super = true) (hx : run68k i rule s = .next t) : t.m68k.super = true := by
  have run : StaysSuper s.start68k.st (do
      setM68k fun m => m.skip 1
      let data ← rule
      spend68k (i.cost68k data)) :=
    StaysSuper.bind (holds_setInMode fun _ => rfl) fun _ => h.bind fun _ => holds_spend68k (free_inMode true) _
  exact (outcome_finish (.exec i) run rfl hs trivial).registers hx

/-- The instruction may leave supervisor mode (60 R721). -/
def mayLeaveSuper : Instr → Bool
  | .moveToSr _ | .andiToSr _ | .eoriToSr _ | .stop _ | .rte => true
  | _ => false

/-- An instruction that may trap, but is none of those that write S, stays in supervisor mode. -/
theorem exec_staysSuper {i : Instr} {s t : State} (hi : i.mayTrap = true) (hl : mayLeaveSuper i = false)
    (hs : s.start68k.st.m68k.super = true) (hx : exec i s = .next t) : t.m68k.super = true := by
  cases i
  case moveToSr | andiToSr | eoriToSr | stop | rte => cases hl
  case moveUsp toAn n =>
    refine super_run68k (staysSuper_privileged.bind fun _ => ?_) hs hx
    have written (f : M68k → M68k) (hf : ∀ m, (f m).super = m.super) :
        StaysSuper s.start68k.st (setM68k f >>= fun _ => (pure [] : Op (List Nat))) :=
      StaysSuper.bind (holds_setInMode hf) fun _ => staysSuper_pure _
    cases toAn with
    | true => exact written (fun m => m.setA n m.osp) fun _ => rfl
    | false => exact written (fun m => { m with osp := m.areg n }) fun _ => rfl
  case reset =>
    exact super_run68k (staysSuper_privileged.bind fun _ => StaysSuper.bind (holds_record _) fun _ => staysSuper_pure _) hs hx
  case oriToSr imm =>
    refine super_run68k (staysSuper_privileged.bind fun _ => StaysSuper.bind (holds_setInMode (f := fun m => m.skip 1) fun _ => rfl)
      fun _ => StaysSuper.bind ?_ fun _ => staysSuper_pure _) hs hx
    exact holds_setM68k fun m hm _ => ⟨super_writeSr_or hm imm, trivial⟩
  case trap n => exact super_run68k (staysSuper_regs fun _ => staysSuper_raise68k _ _) hs hx
  case trapv =>
    refine super_run68k (staysSuper_regs fun _ => Holds68k.ite (fun _ => ?_) fun _ => staysSuper_pure _) hs hx
    exact StaysSuper.bind (staysSuper_raise68k _ _) fun _ => staysSuper_pure _
  case illegal | lineA | lineF =>
    exact super_run68k ((staysSuper_illegalPolicy _).bind fun _ => staysSuper_pure _) hs hx
  case chk ea n =>
    have trapped (f : Ccr) (spc : Long) (rest : Unit → Op (List Nat)) :
        StaysSuper s.start68k.st (setCcr f >>= fun _ => raise68k 6 spc >>= rest) :=
      StaysSuper.bind (holds_setCcrInMode f) fun _ => Holds68k.bind (q := fun _ _ => False)
        (holds_raise68k freeEntry_supervisor 6 spc fun _ _ _ => canFrame_everyKey _ _) fun _ => holds_never
    refine super_run68k ((staysSuper_readEa .w ea).bind fun v => StaysSuper.bind holds_drawInMode fun _ =>
      StaysSuper.bind holds_drawInMode fun _ => StaysSuper.bind holds_drawInMode fun _ => staysSuper_regs fun m => ?_) hs hx
    refine Holds68k.ite (fun _ => trapped _ _ _) fun _ => Holds68k.ite (fun _ => trapped _ _ _) fun _ => ?_
    exact StaysSuper.bind holds_drawInMode fun _ => StaysSuper.bind (holds_setCcrInMode _) fun _ => staysSuper_pure _
  case divu ea n | divs ea n =>
    exact super_run68k ((staysSuper_readEa .w ea).bind fun v => staysSuper_divide fun m => holds_division) hs hx
  all_goals cases hi

theorem writesSr_mayTrap {i : Instr} (h : i.writesSr = true) : i.mayTrap = true := by
  cases i <;> first | rfl | cases h

/-- An instruction without exceptions keeps the mode. -/
theorem exec_super {i : Instr} {s t : State} (h68k : i.is68k = true) (hi : i.mayTrap = false) (hx : exec i s = .next t) :
    t.m68k.super = s.start68k.st.m68k.super := by
  have hw : i.writesSr = false := Bool.eq_false_of_not_eq_true fun h => by cases (writesSr_mayTrap h).symm.trans hi
  obtain ⟨-, super, -⟩ := (exec_frame h68k hx).mode hi hw
  exact super

/-- Settles O48: in user mode by the walk up to exception entry, in supervisor mode by the walk over what keeps S. -/
theorem modeChanges : Obligations.ModeChanges := by
  unfold Obligations.ModeChanges
  intro i s t h68k hx
  cases hi : i.mayTrap with
  | false =>
    have kept := exec_super h68k hi hx
    refine ⟨fun hu ht => ?_, fun hs ht => ?_⟩
    · cases (kept.trans hu).symm.trans ht
    · cases (kept.trans hs).symm.trans ht
  | true =>
    refine ⟨fun hu ht => exec_entersSupervisor hi hu hx ht, fun hs ht => ?_⟩
    cases hl : mayLeaveSuper i with
    | false => cases (exec_staysSuper hi hl hs hx).symm.trans ht
    | true =>
      cases i
      case moveToSr ea => exact .inl ⟨ea, rfl⟩
      case andiToSr w => exact .inr (.inl ⟨w, rfl⟩)
      case eoriToSr w => exact .inr (.inr (.inl ⟨w, rfl⟩))
      case stop w => exact .inr (.inr (.inr (.inl ⟨w, rfl⟩)))
      case rte => exact .inr (.inr (.inr (.inr rfl)))
      all_goals cases hl

end Sys2Proof.Laws
end
